-- ==== Sys2Proof/Word.lean ====
section
/-! DEFINITION. The word types of the BLC-860's telegrams and table images, and nothing else.
Quantities (masses, drafts, times, counts) are `Int` or `Nat`: the manual computes with them exactly
(00_scope.md, Rounding) and never shifts or masks them. -/

namespace Sys2Proof

/-- One byte of a telegram or of a table image. -/
abbrev Byte := BitVec 8

/-- A two-byte field or a check word. -/
abbrev Word16 := BitVec 16

/-- A four-byte field. -/
abbrev Word32 := BitVec 32

end Sys2Proof
end

