-- ==== Sys2Proof/Syntax.lean ====
section
/-! DEFINITION. The commands of the part: one constructor per row of spec/opcode_table.json, in the
table's order. A telegram's command carries the telegram's header bytes and its payload fields as
R113 to R115 lay them out; a management request's command carries its source, its sequence and its
argument bytes (R185); an event of a timer names the record whose timer it is. -/

namespace Sys2Proof

/-- The three ports (00_scope.md, Ports and the Bypass Relay). -/
inductive Port where
  | console | field | shore
  deriving DecidableEq, Repr

/-- The payload of a STATE telegram, by variant (Table 6-8). -/
inductive StateReport where
  | pump (runState mode speed : Byte) (flow : Word16) (control : Byte)
  | valve (position opening control : Byte)
  deriving DecidableEq, Repr

/-- A command to the part: a supply event, a frame or telegram arriving, an end of transmission, the
expiry of one of its timers, or a management request. -/
inductive Instr where
  | powerOn
  | powerLoss
  | supplyDip
  | settleEnd
  | tableFaultReload
  | commandedReset
  | frameReceive (port : Port) (bytes : List Byte)
  | sounding (dst src seq : Byte) (level : Word16) (status sample : Byte)
  | draft (dst src seq : Byte) (fwd aft : Word16) (status : Byte)
  | state (dst src seq : Byte) (report : StateReport)
  | ack (dst src seq : Byte) (station orderSeq outcome reason : Byte)
  | order (dst src seq : Byte) (orderType mode speed : Byte)
  | pour (dst src seq : Byte) (loader spout : Byte) (cumulative : Word32) (belt : Byte) (rate : Word16)
  | shoreBeacon (dst src seq : Byte) (payload : List Byte)
  | transmissionEnd (port : Port)
  | gaugeTimeout (tank : Nat)
  | stillIntervalExpiry (tank : Nat)
  | shoreSilenceExpiry
  | beaconTimerExpiry
  | evaluationIntervalExpiry
  | evaluationComplete
  | presenceTimeout (station : Nat)
  | ackTimeout (station : Nat)
  | holdDeadline (station : Nat)
  | startLimitDeadline
  | dryRunTrip (line : Nat)
  | confirmTimerExpiry (loader : Nat)
  | conditionTimerExpiry
  | scrubCheck
  | alarmPulseToggle
  | storeWritingEnd
  | mgmtUnknownCode (src seq code : Byte) (args : List Byte)
  | readStatus (src seq : Byte) (args : List Byte)
  | setTime (src seq : Byte) (args : List Byte)
  | writeTable (src seq : Byte) (args : List Byte)
  | readTable (src seq : Byte) (args : List Byte)
  | commit (src seq : Byte) (args : List Byte)
  | store (src seq : Byte) (args : List Byte)
  | reload (src seq : Byte) (args : List Byte)
  | reset (src seq : Byte) (args : List Byte)
  | requestEvaluation (src seq : Byte) (args : List Byte)
  | readTank (src seq : Byte) (args : List Byte)
  | readStation (src seq : Byte) (args : List Byte)
  | setStationService (src seq : Byte) (args : List Byte)
  | readCondition (src seq : Byte) (args : List Byte)
  | setFixedWeight (src seq : Byte) (args : List Byte)
  | manualPause (src seq : Byte) (args : List Byte)
  | manualResume (src seq : Byte) (args : List Byte)
  | openSession (src seq : Byte) (args : List Byte)
  | closeSession (src seq : Byte) (args : List Byte)
  | clearSafe (src seq : Byte) (args : List Byte)
  | ackFault (src seq : Byte) (args : List Byte)
  | readFaults (src seq : Byte) (args : List Byte)
  | readReport (src seq : Byte) (args : List Byte)
  deriving DecidableEq, Repr

end Sys2Proof
end

