-- ==== Sys2Proof/Decode.lean ====
section
/-! DEFINITION. The command a table word spells. No row of spec/opcode_table.json gives bits, so no word
spells a command; the part's own decoding, of frames into telegrams and of request payloads, is
Machine/Operands.lean's and Machine/Mgmt.lean's. -/

namespace Sys2Proof

/-- No row of the table gives bits: every word spells no command. -/
def decodeTableWord (_nbits _w : Nat) : Option Instr := none

end Sys2Proof
end

