-- ==== Sys2Proof/Config.lean ====
section
/-! DEFINITION. The free values of the model. Each is an opaque constant: nothing can be proved of its
value. One is what a management reply carries of a figure that its field cannot hold
(notes/assumptions/58.md). The others stand for what the manual does not say about a table that no COMMIT
would accept (a divisor of 0, a class above 3, a role code that names no role), which only physical damage
of a bank can bring into the active tables (notes/assumptions/12.md). -/

namespace Sys2Proof

/-- The quotient of a division by 0, by its dividend. Commit validation keeps every divisor of the
hull and tank arithmetic above 0 (R44, R62, R191). -/
opaque Config.quotientByZero : Int → Int

/-- The figure read from a table list that holds no point or row at all. -/
opaque Config.emptyTableFigure : Int → Int

/-- The class read for a class byte above 3 (R191, check 7, refuses such a CLASS table). -/
opaque Config.damagedClass : Nat → Fin 4

/-- The role read for a role code above 6 (R191, check 1, refuses such a ROUTE table). -/
opaque Config.damagedRole : Nat → Fin 7

/-- The action read for an action code above 2. -/
opaque Config.damagedAction : Nat → Fin 3

/-- The reading of a yes/no or on/off byte that is neither 0 nor 1. -/
opaque Config.damagedFlag : Nat → Bool

/-- What a signed 4-byte field of a management reply carries of a figure beyond its range (R185). -/
opaque Config.wideFigure : Int → Word32

end Sys2Proof
end

