-- ==== Sys2Proof/Machine/Arith.lean ====
section
/-! DEFINITION. The manual's rounding, clamping and saturation (00_scope.md, Rounding), and the
big-endian reading and writing of multi-byte fields (R113). -/

namespace Sys2Proof.Machine

/-- Division rounded half away from zero (00_scope.md, Rounding). A divisor of 0 gives a free value. -/
def roundDiv (n d : Int) : Int :=
  if d = 0 then Config.quotientByZero n
  else
    let q : Int := ((2 * n.natAbs + d.natAbs) / (2 * d.natAbs) : Nat)
    if decide (n < 0) = decide (d < 0) then q else -q

/-- Division rounded up, the rounding of utilisation figures, guards and uncertainty growth
(00_scope.md, Rounding). A divisor of 0 gives a free value. -/
def ceilDiv (n d : Int) : Int :=
  if d = 0 then Config.quotientByZero n else -(Int.fdiv (-n) d)

/-- A value clamped to a range. -/
def clampInt (lo hi x : Int) : Int := if x < lo then lo else if hi < x then hi else x

/-- The absolute value, as an integer. -/
def absInt (x : Int) : Int := if x < 0 then -x else x

/-- A counter that saturates at 65535, one event later (R3, R98, R117, R180). -/
def satSucc (n : Nat) : Nat := if n < 65535 then n + 1 else 65535

/-- A 16-bit generation one switch later; 65535 wraps to 0 (R188). -/
def succWrap16 (n : Nat) : Nat := if n < 65535 then n + 1 else 0

/-- Bytes most significant first, as a natural number (R113). -/
def beNat (bs : List Byte) : Nat := bs.foldl (fun acc b => acc * 256 + b.toNat) 0

/-- The two's complement reading of a natural number of a given width in bytes. -/
def signedOf (width n : Nat) : Int :=
  if n < 2 ^ (8 * width - 1) then (n : Int) else (n : Int) - (2 ^ (8 * width) : Nat)

/-- One byte of a natural number: the byte `k` places above the lowest. -/
def byteOf (n k : Nat) : Byte := BitVec.ofNat 8 (n / 256 ^ k)

/-- A 1-byte field. -/
def enc1 (n : Nat) : List Byte := [byteOf n 0]

/-- A 2-byte field, most significant byte first. -/
def enc2 (n : Nat) : List Byte := [byteOf n 1, byteOf n 0]

/-- A 4-byte field, most significant byte first. -/
def enc4 (n : Nat) : List Byte := [byteOf n 3, byteOf n 2, byteOf n 1, byteOf n 0]

/-- A signed 2-byte field. -/
def encS2 (x : Int) : List Byte := enc2 (x % 65536).toNat

/-- A signed 4-byte field. -/
def encS4 (x : Int) : List Byte := enc4 (x % 4294967296).toNat

end Sys2Proof.Machine
end

