-- ==== Sys2Proof/Machine/Memory.lean ====
section
/-! DEFINITION. The addressed buffers of the part: the images of its tables (R188), as canonical lists of
(offset, byte) pairs: offsets strictly rising, no listed byte equal to what an unlisted offset reads as.
An unlisted offset reads as 0 (notes/assumptions/13.md). -/

namespace Sys2Proof.Machine

/-- The image of one table: the bytes that are not 0, by rising offset. -/
abbrev Memory := List Host.Cell

/-- What an offset that is not listed reads as. -/
def Memory.unlisted : Byte := 0

/-- The byte at an offset. -/
def Memory.read : Memory → Nat → Byte
  | [], _ => Memory.unlisted
  | (a, b) :: m, x => if x < a then Memory.unlisted else if x = a then b else Memory.read m x

/-- The image with one byte written. Writing what an unlisted offset reads as removes the entry. -/
def Memory.write : Memory → Nat → Byte → Memory
  | [], x, v => if v = Memory.unlisted then [] else [(x, v)]
  | (a, b) :: m, x, v =>
    if x < a then if v = Memory.unlisted then (a, b) :: m else (x, v) :: (a, b) :: m
    else if x = a then if v = Memory.unlisted then m else (x, v) :: m
    else (a, b) :: Memory.write m x v

/-- Consecutive bytes written from an offset up (R189). -/
def Memory.writeBytes (m : Memory) (x : Nat) : List Byte → Memory
  | [] => m
  | v :: vs => Memory.writeBytes (m.write x v) (x + 1) vs

/-- `n` consecutive bytes from an offset up (R190). -/
def Memory.readBytes (m : Memory) (x n : Nat) : List Byte := (List.range n).map fun k => m.read (x + k)

/-- The canonical form: offsets above a bound and rising, no listed byte that reads as unlisted. -/
def Memory.wfFrom : Nat → Memory → Bool
  | _, [] => true
  | lo, (a, b) :: m => decide (lo ≤ a) && b != Memory.unlisted && Memory.wfFrom (a + 1) m

/-- The canonical form of an image. -/
def Memory.wf (m : Memory) : Bool := Memory.wfFrom 0 m

/-- An unsigned 1-byte field of an image. -/
def Memory.u1 (m : Memory) (x : Nat) : Nat := (m.read x).toNat

/-- An unsigned 2-byte field of an image. -/
def Memory.u2 (m : Memory) (x : Nat) : Nat := beNat (m.readBytes x 2)

/-- An unsigned 4-byte field of an image. -/
def Memory.u4 (m : Memory) (x : Nat) : Nat := beNat (m.readBytes x 4)

/-- A signed 2-byte field of an image. -/
def Memory.s2 (m : Memory) (x : Nat) : Int := signedOf 2 (m.u2 x)

/-- A signed 4-byte field of an image. -/
def Memory.s4 (m : Memory) (x : Nat) : Int := signedOf 4 (m.u4 x)

/-- A yes/no or on/off byte: 0 no, 1 yes; any other code, which no COMMIT accepts, reads as a free value. -/
def Memory.flag (m : Memory) (x : Nat) : Bool :=
  if m.u1 x = 0 then false else if m.u1 x = 1 then true else Config.damagedFlag (m.u1 x)

/-- The image that holds a list of bytes from offset 0 up. -/
def Memory.ofBytes (bs : List Byte) : Memory :=
  bs.zipIdx.filterMap fun p => if p.1 = Memory.unlisted then none else some (p.2, p.1)

end Sys2Proof.Machine
end

