-- ==== Sys2Proof/Machine/Crc.lean ====
section
/-! DEFINITION. The check word of R113: CRC-16, generator x^16 + x^12 + x^5 + 1, initial value all ones,
no reflection, no final inversion. Telegrams and table images use the same computation (R194). -/

namespace Sys2Proof.Machine

/-- `n` shifts of the check register. -/
def crcShift : Nat → Word16 → Word16
  | 0, c => c
  | n + 1, c => crcShift n (if c.msb then (c <<< 1) ^^^ 0x1021#16 else c <<< 1)

/-- The check register after one byte, most significant bit first. -/
def crcByte (c : Word16) (b : Byte) : Word16 := crcShift 8 (c ^^^ (b.setWidth 16 <<< 8))

/-- The check word of a byte string (R113). -/
def crc (bs : List Byte) : Word16 := bs.foldl crcByte 0xFFFF#16

end Sys2Proof.Machine
end

