-- ==== Sys2Proof/Machine/Tables.lean ====
section
/-! DEFINITION. The two table groups (R188): table codes, image sizes, the fields of every image at their
offsets, the default ship group (Table 11-5), the emptied plan (Table 4-1), and check words (R194).
The manual gives the order of the fields and a width by range; the offsets below are the model's working
out of that (notes/assumptions/8.md to 11.md). -/

namespace Sys2Proof.Machine

/-- The tables of Table 11-3. -/
inductive TableCode where
  | part | ship | route | cls | tank | sounding | item | influence | station | hydro | pumpLine
  | planHeader | planSteps
  deriving DecidableEq, Repr

/-- The code of a table (Table 11-3). -/
def TableCode.code : TableCode → Nat
  | .part => 1 | .ship => 2 | .route => 3 | .cls => 4 | .tank => 5 | .sounding => 6 | .item => 7
  | .influence => 8 | .station => 9 | .hydro => 10 | .pumpLine => 11 | .planHeader => 16 | .planSteps => 17

/-- The table of a code, if the code is in Table 11-3. -/
def TableCode.ofCode (n : Nat) : Option TableCode :=
  if n = 1 then some .part else if n = 2 then some .ship else if n = 3 then some .route
  else if n = 4 then some .cls else if n = 5 then some .tank else if n = 6 then some .sounding
  else if n = 7 then some .item else if n = 8 then some .influence else if n = 9 then some .station
  else if n = 10 then some .hydro else if n = 11 then some .pumpLine
  else if n = 16 then some .planHeader else if n = 17 then some .planSteps else none

/-- Whether a table belongs to the plan group (Table 11-3). -/
def TableCode.isPlan : TableCode → Bool
  | .planHeader => true
  | .planSteps => true
  | _ => false

/-- The size of a table's image in bytes: its fields in order, each in the width of its range (R188). -/
def TableCode.size : TableCode → Nat
  | .part => 29 | .ship => 10 | .route => 768 | .cls => 256 | .tank => 640 | .sounding => 4640
  | .item => 288 | .influence => 4608 | .station => 576 | .hydro => 384 | .pumpLine => 88
  | .planHeader => 88 | .planSteps => 832

/-- The ship-group tables in code order: the order of the scrub (R194) and of STORE (R196). -/
def TableCode.shipTables : List TableCode :=
  [.part, .ship, .route, .cls, .tank, .sounding, .item, .influence, .station, .hydro, .pumpLine]

/-- The scrub's rotation (R194): PART, SHIP, ROUTE, CLASS, TANK, SOUNDING, ITEM, INFLUENCE, STATION,
HYDRO, PUMPLINE, then PART again. -/
def TableCode.next : TableCode → TableCode
  | .part => .ship | .ship => .route | .route => .cls | .cls => .tank | .tank => .sounding
  | .sounding => .item | .item => .influence | .influence => .station | .station => .hydro
  | .hydro => .pumpLine | .pumpLine => .part | .planHeader => .part | .planSteps => .part

/-- The tables of the evaluation group, a mismatch in which is a TABLE_FAULT (R54, R175); the others are
ROUTE, CLASS, PUMPLINE and PART, a mismatch in which is a table-fault BYPASS (R176). -/
def TableCode.inEvaluationGroup : TableCode → Bool
  | .influence => true | .station => true | .hydro => true | .item => true | .sounding => true
  | .tank => true | .ship => true
  | _ => false

/-- A table in a bank: its image and the check word kept for it (R194). -/
structure TableImage where
  mem : Memory
  check : Word16
  deriving DecidableEq, Repr

/-- A bank of the ship group: the eleven tables that describe the ship. -/
structure ShipBank where
  part : TableImage
  ship : TableImage
  route : TableImage
  cls : TableImage
  tank : TableImage
  sounding : TableImage
  item : TableImage
  influence : TableImage
  station : TableImage
  hydro : TableImage
  pumpLine : TableImage
  deriving DecidableEq, Repr

/-- A bank of the plan group. -/
structure PlanBank where
  header : TableImage
  steps : TableImage
  deriving DecidableEq, Repr

/-- The table of a ship bank. A plan code reads as PART; no caller passes one. -/
def ShipBank.get (b : ShipBank) : TableCode → TableImage
  | .part => b.part | .ship => b.ship | .route => b.route | .cls => b.cls | .tank => b.tank
  | .sounding => b.sounding | .item => b.item | .influence => b.influence | .station => b.station
  | .hydro => b.hydro | .pumpLine => b.pumpLine | .planHeader => b.part | .planSteps => b.part

/-- A ship bank with one table replaced. -/
def ShipBank.set (b : ShipBank) (t : TableImage) : TableCode → ShipBank
  | .part => { b with part := t } | .ship => { b with ship := t } | .route => { b with route := t }
  | .cls => { b with cls := t } | .tank => { b with tank := t } | .sounding => { b with sounding := t }
  | .item => { b with item := t } | .influence => { b with influence := t }
  | .station => { b with station := t } | .hydro => { b with hydro := t }
  | .pumpLine => { b with pumpLine := t } | .planHeader => b | .planSteps => b

/-- The table of a plan bank: the header, or for every other code the steps. -/
def PlanBank.get (b : PlanBank) : TableCode → TableImage
  | .planHeader => b.header
  | _ => b.steps

/-- A plan bank with one table replaced. -/
def PlanBank.set (b : PlanBank) (t : TableImage) : TableCode → PlanBank
  | .planHeader => { b with header := t }
  | .planSteps => { b with steps := t }
  | _ => b

/-- The check word over the whole image of a table, fitted and unfitted entries included (R194). -/
def checkWordOf (c : TableCode) (m : Memory) : Word16 := crc (m.readBytes 0 c.size)

/-- A table whose kept check word is computed over its image (R194). -/
def TableImage.sealed (c : TableCode) (t : TableImage) : TableImage := { t with check := checkWordOf c t.mem }

/-- A ship bank with the check word of every table computed (R192). -/
def ShipBank.withChecks (b : ShipBank) : ShipBank :=
  TableCode.shipTables.foldl (fun b c => b.set ((b.get c).sealed c) c) b

/-- A plan bank with both check words computed (R192). -/
def PlanBank.withChecks (b : PlanBank) : PlanBank :=
  { header := b.header.sealed .planHeader, steps := b.steps.sealed .planSteps }

/-- Whether a table's kept check word matches its image (R194). -/
def TableImage.intact (c : TableCode) (t : TableImage) : Bool := t.check == checkWordOf c t.mem

/-- The first table of a ship bank, in code order, whose check word fails (R195, R196, R197). -/
def ShipBank.firstDamaged (b : ShipBank) : Option TableCode :=
  TableCode.shipTables.find? fun c => !(b.get c).intact c

/-! ### PART (Table 11-5, Table 11-7, Table 10-6) -/

/-- The part's own node address. -/
def ShipBank.ownAddress (b : ShipBank) : Byte := b.part.mem.read 0
/-- ACK timeout, s. -/
def ShipBank.ackTimeout (b : ShipBank) : Nat := b.part.mem.u2 1
/-- Hold timeout, s. -/
def ShipBank.holdTimeout (b : ShipBank) : Nat := b.part.mem.u2 3
/-- Presence timeout, s. -/
def ShipBank.presenceTimeout (b : ShipBank) : Nat := b.part.mem.u2 5
/-- Gauge timeout, s. -/
def ShipBank.gaugeTimeout (b : ShipBank) : Nat := b.part.mem.u2 7
/-- Still interval, s. -/
def ShipBank.stillInterval (b : ShipBank) : Nat := b.part.mem.u2 9
/-- Evaluation interval, s. -/
def ShipBank.evaluationInterval (b : ShipBank) : Nat := b.part.mem.u1 11
/-- Shore silence timeout, s. -/
def ShipBank.silenceTimeout (b : ShipBank) : Nat := b.part.mem.u2 12
/-- Shore beacon interval, s. -/
def ShipBank.beaconInterval (b : ShipBank) : Nat := b.part.mem.u1 14
/-- Pause confirm timeout, s. -/
def ShipBank.confirmTimeout (b : ShipBank) : Nat := b.part.mem.u2 15
/-- Draft tolerance, mm. -/
def ShipBank.draftTolerance (b : ShipBank) : Int := b.part.mem.u2 17
/-- Draft disagreement count. -/
def ShipBank.draftCount (b : ShipBank) : Nat := b.part.mem.u1 19

/-- The severity of a fault or advisory (R177, R180). -/
inductive Severity where
  | advisory | degraded | critical
  deriving DecidableEq, Repr

/-- The code of a severity in an ALERT (R181). -/
def Severity.code : Severity → Nat
  | .advisory => 0 | .degraded => 1 | .critical => 2

/-- ALERT to console, by severity (Table 10-6). -/
def ShipBank.alertConsole (b : ShipBank) (v : Severity) : Bool := b.part.mem.flag (20 + v.code)
/-- ALERT copy to shore, by severity (Table 10-6). -/
def ShipBank.alertShore (b : ShipBank) (v : Severity) : Bool := b.part.mem.flag (23 + v.code)
/-- The alarm line setting of DEGRADED faults (Table 10-6). -/
def ShipBank.alarmDegraded (b : ShipBank) : Bool := b.part.mem.flag 26
/-- The SAFE enable of STRESS_LIMIT (Table 10-6). -/
def ShipBank.safeStress (b : ShipBank) : Bool := b.part.mem.flag 27
/-- The SAFE enable of OVERPOUR (Table 10-6). -/
def ShipBank.safeOverpour (b : ShipBank) : Bool := b.part.mem.flag 28

/-- The image of the default PART table (Table 11-5, Table 10-6), its fields in the order of Table 11-5 (DESIGN
CHOICE among three orders, notes/assumptions/49.md). -/
def defaultPartBytes : List Byte :=
  enc1 240 ++ enc2 8 ++ enc2 60 ++ enc2 15 ++ enc2 20 ++ enc2 60 ++ enc1 2 ++ enc2 30 ++ enc1 10 ++ enc2 90
    ++ enc2 150 ++ enc1 3
    ++ (enc1 0 ++ enc1 1 ++ enc1 1) ++ (enc1 0 ++ enc1 0 ++ enc1 0) ++ enc1 1 ++ enc1 1 ++ enc1 1

/-! ### SHIP (Table 11-3) -/

/-- Lightship mass, 0.1 t. -/
def ShipBank.lightshipMass (b : ShipBank) : Int := b.ship.mem.s4 0
/-- Lightship LCG, 0.01 m. -/
def ShipBank.lightshipLcg (b : ShipBank) : Int := b.ship.mem.s2 4
/-- Count of tanks fitted. -/
def ShipBank.tankCount (b : ShipBank) : Nat := b.ship.mem.u1 6
/-- Count of holds fitted. -/
def ShipBank.holdCount (b : ShipBank) : Nat := b.ship.mem.u1 7
/-- Count of check stations fitted. -/
def ShipBank.stationCount (b : ShipBank) : Nat := b.ship.mem.u1 8
/-- Count of HYDRO rows fitted. -/
def ShipBank.hydroCount (b : ShipBank) : Nat := b.ship.mem.u1 9

/-- A hold is fitted when its index is below the count of holds fitted (R23). -/
def ShipBank.holdFitted (b : ShipBank) (h : Nat) : Bool := decide (h < 10) && decide (h < b.holdCount)
/-- The fitted check stations are 0 up to one below the count (R46). -/
def ShipBank.fittedStations (b : ShipBank) : List Nat := List.range (min b.stationCount 24)

/-! ### ROUTE (R101) -/

/-- The role of an address (R101). -/
inductive Role where
  | none | console | gauge | draft | pump | valve | other
  deriving DecidableEq, Repr

/-- The action of a route entry (R101). -/
inductive Action where
  | pass | trap | drop
  deriving DecidableEq, Repr

/-- The role of a role code 0..6. -/
def Role.ofFin (n : Fin 7) : Role :=
  if n = 0 then .none else if n = 1 then .console else if n = 2 then .gauge else if n = 3 then .draft
  else if n = 4 then .pump else if n = 5 then .valve else .other

/-- The action of an action code 0..2. -/
def Action.ofFin (n : Fin 3) : Action := if n = 0 then .pass else if n = 1 then .trap else .drop

/-- The role of the route entry of an address (R101). -/
def ShipBank.role (b : ShipBank) (a : Byte) : Role :=
  let n := b.route.mem.u1 (3 * a.toNat)
  if h : n < 7 then Role.ofFin ⟨n, h⟩ else Role.ofFin (Config.damagedRole n)

/-- The binding of the route entry of an address: a tank or station index. -/
def ShipBank.binding (b : ShipBank) (a : Byte) : Nat := b.route.mem.u1 (3 * a.toNat + 1)

/-- The action of the route entry of an address. -/
def ShipBank.action (b : ShipBank) (a : Byte) : Action :=
  let n := b.route.mem.u1 (3 * a.toNat + 2)
  if h : n < 3 then Action.ofFin ⟨n, h⟩ else Action.ofFin (Config.damagedAction n)

/-- Roles whose addresses lie on the field side of the part (R101). -/
def Role.fieldSide : Role → Bool
  | .gauge => true | .draft => true | .pump => true | .valve => true
  | _ => false

/-- The station a source or destination address is bound to: a PUMP entry binds 0..7, a VALVE entry
8..63 (R116). Dispatch treats the part's own address before it asks (R100 to R103). -/
def ShipBank.stationOf (b : ShipBank) (a : Byte) : Option Nat :=
  match b.role a with
  | .pump => if b.binding a < 8 then some (b.binding a) else none
  | .valve => if 8 ≤ b.binding a ∧ b.binding a < 64 then some (b.binding a) else none
  | _ => none

/-- Every station binding of the route table, by rising address 1..254, the entry at the part's own address
among them (DESIGN CHOICE, notes/assumptions/45.md). -/
def ShipBank.stationBindings (b : ShipBank) : List (Nat × Byte) :=
  (List.range 254).filterMap fun k =>
    let a : Byte := BitVec.ofNat 8 (k + 1)
    (b.stationOf a).map fun i => (i, a)

/-- The address a list of bindings gives a station, if any (R116). -/
def addressIn (bs : List (Nat × Byte)) (i : Nat) : Option Byte :=
  (bs.find? fun p => p.1 = i).map Prod.snd

/-! ### CLASS (R109) -/

/-- The class of a kind code (R109). -/
def ShipBank.classOf (b : ShipBank) (kind : Byte) : Fin 4 :=
  let n := b.cls.mem.u1 kind.toNat
  if h : n < 4 then ⟨n, h⟩ else Config.damagedClass n

/-- The default class of a kind code (R109). -/
def defaultClass (kind : Nat) : Nat :=
  if kind = 0x53 ∨ kind = 0x62 ∨ kind = 0x63 then 0
  else if kind = 0x41 ∨ kind = 0x24 ∨ kind = 0x52 then 1
  else if kind = 0x23 ∨ kind = 0x21 ∨ kind = 0x22 then 2
  else 3

/-! ### TANK (Table 1-1, Table 11-7): 20 bytes each -/

/-- Whether a tank is fitted. -/
def ShipBank.tankFitted (b : ShipBank) (t : Nat) : Bool := decide (t < 32) && b.tank.mem.flag (20 * t)
/-- The valve station of a tank. -/
def ShipBank.tankValve (b : ShipBank) (t : Nat) : Nat := b.tank.mem.u1 (20 * t + 1)
/-- The pump line of a tank; 255 (any code above 7) names none. -/
def ShipBank.tankLine (b : ShipBank) (t : Nat) : Option Nat :=
  if b.tank.mem.u1 (20 * t + 2) < 8 then some (b.tank.mem.u1 (20 * t + 2)) else none
/-- Capacity volume, 0.1 m³. -/
def ShipBank.tankCapacity (b : ShipBank) (t : Nat) : Int := b.tank.mem.s4 (20 * t + 3)
/-- Default density, kg/m³. -/
def ShipBank.tankDensity (b : ShipBank) (t : Nat) : Int := b.tank.mem.u2 (20 * t + 7)
/-- Movement threshold, 0.1 t. -/
def ShipBank.tankThreshold (b : ShipBank) (t : Nat) : Int := b.tank.mem.u2 (20 * t + 9)
/-- Maximum level rate, mm/s. -/
def ShipBank.tankLevelRate (b : ShipBank) (t : Nat) : Int := b.tank.mem.u1 (20 * t + 11)
/-- Gauge jitter, mm. -/
def ShipBank.tankJitter (b : ShipBank) (t : Nat) : Int := b.tank.mem.u2 (20 * t + 12)
/-- Trim factor, permille. -/
def ShipBank.tankTrimFactor (b : ShipBank) (t : Nat) : Int := b.tank.mem.s2 (20 * t + 14)
/-- Empty mark, 0.1 t. -/
def ShipBank.tankEmptyMark (b : ShipBank) (t : Nat) : Int := b.tank.mem.s4 (20 * t + 16)

/-- The image of one default tank descriptor (Table 11-5). -/
def defaultTankBytes : List Byte :=
  enc1 0 ++ enc1 0 ++ enc1 255 ++ enc4 0 ++ enc2 1025 ++ enc2 50 ++ enc1 20 ++ enc2 30 ++ encS2 0 ++ enc4 200

/-! ### SOUNDING: per tank a point count and 24 points of level and volume, 145 bytes each (DESIGN CHOICE,
notes/assumptions/54.md) -/

/-- The number of sounding points of a tank, the first byte of its list (DESIGN CHOICE, notes/assumptions/54.md). -/
def ShipBank.pointCount (b : ShipBank) (t : Nat) : Nat := b.sounding.mem.u1 (145 * t)
/-- The sounding points of a tank, in 24 fixed slots after the count: level in mm, volume in 0.1 m³ (DESIGN CHOICE,
notes/assumptions/54.md). -/
def ShipBank.points (b : ShipBank) (t : Nat) : List (Int × Int) :=
  (List.range (min (b.pointCount t) 24)).map fun k =>
    ((b.sounding.mem.u2 (145 * t + 1 + 6 * k) : Int), b.sounding.mem.s4 (145 * t + 3 + 6 * k))

/-! ### ITEM: 6 bytes each -/

/-- LCG of an item, 0.01 m. -/
def ShipBank.itemLcg (b : ShipBank) (i : Nat) : Int := b.item.mem.s2 (6 * i)
/-- Capacity mass of an item, 0.1 t. -/
def ShipBank.itemCapacity (b : ShipBank) (i : Nat) : Int := b.item.mem.s4 (6 * i + 2)

/-! ### INFLUENCE: 48 items of 24 stations, 4 bytes each -/

/-- Shear factor of an item at a station, 1/32768. -/
def ShipBank.shearFactor (b : ShipBank) (i st : Nat) : Int := b.influence.mem.s2 (4 * (24 * i + st))
/-- Moment lever of an item at a station, 0.01 m. -/
def ShipBank.momentLever (b : ShipBank) (i st : Nat) : Int := b.influence.mem.s2 (4 * (24 * i + st) + 2)

/-! ### STATION: 24 bytes each -/

/-- SF0 of a check station, 0.1 t. -/
def ShipBank.sf0 (b : ShipBank) (st : Nat) : Int := b.station.mem.s4 (24 * st)
/-- BM0 of a check station, t·m. -/
def ShipBank.bm0 (b : ShipBank) (st : Nat) : Int := b.station.mem.s4 (24 * st + 4)
/-- Positive shear limit, 0.1 t. -/
def ShipBank.shearLimitPos (b : ShipBank) (st : Nat) : Int := b.station.mem.s4 (24 * st + 8)
/-- Negative shear limit, 0.1 t. -/
def ShipBank.shearLimitNeg (b : ShipBank) (st : Nat) : Int := b.station.mem.s4 (24 * st + 12)
/-- Hogging limit, t·m. -/
def ShipBank.hoggingLimit (b : ShipBank) (st : Nat) : Int := b.station.mem.s4 (24 * st + 16)
/-- Sagging limit, t·m. -/
def ShipBank.saggingLimit (b : ShipBank) (st : Nat) : Int := b.station.mem.s4 (24 * st + 20)

/-! ### HYDRO: 12 bytes each -/

/-- One HYDRO row: displacement 0.1 t, mean draft mm, LCB 0.01 m, MCT 0.1 t·m/cm. -/
structure HydroRow where
  disp : Int
  tm : Int
  lcb : Int
  mct : Int
  deriving DecidableEq, Repr

/-- A HYDRO row. -/
def ShipBank.hydroRow (b : ShipBank) (k : Nat) : HydroRow :=
  { disp := b.hydro.mem.s4 (12 * k), tm := b.hydro.mem.u2 (12 * k + 4), lcb := b.hydro.mem.s2 (12 * k + 6)
    mct := b.hydro.mem.s4 (12 * k + 8) }

/-- The HYDRO rows fitted. -/
def ShipBank.hydroRows (b : ShipBank) : List HydroRow := (List.range (min b.hydroCount 32)).map b.hydroRow

/-! ### PUMPLINE: 11 bytes each -/

/-- Whether a pump line is fitted. -/
def ShipBank.lineFitted (b : ShipBank) (l : Nat) : Bool := decide (l < 8) && b.pumpLine.mem.flag (11 * l)
/-- The sea valve of a line. -/
def ShipBank.seaValve (b : ShipBank) (l : Nat) : Nat := b.pumpLine.mem.u1 (11 * l + 1)
/-- The overboard valve of a line. -/
def ShipBank.overboardValve (b : ShipBank) (l : Nat) : Nat := b.pumpLine.mem.u1 (11 * l + 2)
/-- The tank set of a line, as one bit per tank. -/
def ShipBank.tankSetMask (b : ShipBank) (l : Nat) : Nat := b.pumpLine.mem.u4 (11 * l + 3)
/-- The tanks of a line's tank set. -/
def ShipBank.lineTanks (b : ShipBank) (l : Nat) : List Nat :=
  (List.range 32).filter fun t => (b.tankSetMask l).testBit t
/-- Start limit, s. -/
def ShipBank.startLimit (b : ShipBank) (l : Nat) : Nat := b.pumpLine.mem.u2 (11 * l + 7)
/-- Dry-run delay, s. -/
def ShipBank.dryRunDelay (b : ShipBank) (l : Nat) : Nat := b.pumpLine.mem.u2 (11 * l + 9)

/-- The image of one default pump line descriptor (Table 11-5). -/
def defaultLineBytes : List Byte := enc1 0 ++ enc1 0 ++ enc1 0 ++ enc4 0 ++ enc2 30 ++ enc2 20

/-! ### PLAN_HEADER (Table 4-1) -/

/-- Caution watermark, permille. -/
def PlanBank.caution (b : PlanBank) : Int := b.header.mem.u2 0
/-- Pause watermark, permille. -/
def PlanBank.pause (b : PlanBank) : Int := b.header.mem.u2 2
/-- Release watermark, permille. -/
def PlanBank.release (b : PlanBank) : Int := b.header.mem.u2 4
/-- Lag pause, 0.1 t. -/
def PlanBank.lagPause (b : PlanBank) : Int := b.header.mem.s4 6
/-- Lag release, 0.1 t. -/
def PlanBank.lagRelease (b : PlanBank) : Int := b.header.mem.s4 10
/-- Lead limit, 0.1 t. -/
def PlanBank.leadLimit (b : PlanBank) : Int := b.header.mem.s4 14
/-- Lead release, 0.1 t. -/
def PlanBank.leadRelease (b : PlanBank) : Int := b.header.mem.s4 18
/-- Maximum forward draft, mm. -/
def PlanBank.maxFwd (b : PlanBank) : Int := b.header.mem.u2 22
/-- Maximum aft draft, mm. -/
def PlanBank.maxAft (b : PlanBank) : Int := b.header.mem.u2 24
/-- Minimum forward draft, mm. -/
def PlanBank.minFwd (b : PlanBank) : Int := b.header.mem.u2 26
/-- Minimum aft draft, mm. -/
def PlanBank.minAft (b : PlanBank) : Int := b.header.mem.u2 28
/-- Draft margin, mm. -/
def PlanBank.draftMargin (b : PlanBank) : Int := b.header.mem.u2 30
/-- Draft release margin, mm. -/
def PlanBank.draftReleaseMargin (b : PlanBank) : Int := b.header.mem.u2 32
/-- Grace tonnage, 0.1 t. -/
def PlanBank.grace (b : PlanBank) : Nat := b.header.mem.u4 34
/-- Maximum running pumps. -/
def PlanBank.maxPumps (b : PlanBank) : Nat := b.header.mem.u1 38
/-- Maximum pump speed, %. -/
def PlanBank.maxSpeed (b : PlanBank) : Nat := b.header.mem.u1 39
/-- Port water density, kg/m³. -/
def PlanBank.portDensity (b : PlanBank) : Int := b.header.mem.u2 40
/-- Pour deadband, 0.1 t. -/
def PlanBank.deadband (b : PlanBank) : Int := b.header.mem.s4 42
/-- Report interval, min; 0 is off. -/
def PlanBank.reportInterval (b : PlanBank) : Nat := b.header.mem.u1 46
/-- Shore report mask, bit k - 1 for record kind k. -/
def PlanBank.reportMask (b : PlanBank) : Byte := b.header.mem.read 47
/-- Initial cargo of a hold, 0.1 t. -/
def PlanBank.initialCargo (b : PlanBank) (h : Nat) : Int := b.header.mem.s4 (48 + 4 * h)

/-! The header is 48 bytes up to the mask, then ten 4-byte cargo figures: 88 bytes in all. -/

/-- The image of the default plan header (Table 4-1). -/
def defaultHeaderBytes : List Byte :=
  enc2 800 ++ enc2 950 ++ enc2 900 ++ enc4 8000 ++ enc4 4000 ++ encS4 (-8000) ++ encS4 (-4000)
    ++ enc2 30000 ++ enc2 30000 ++ enc2 0 ++ enc2 0 ++ enc2 100 ++ enc2 200 ++ enc4 1500 ++ enc1 4 ++ enc1 100
    ++ enc2 1025 ++ enc4 500 ++ enc1 0 ++ enc1 0

/-! ### PLAN_STEPS (Table 4-2): 13 bytes each -/

/-- The step number in a slot; 0 is an empty slot (R188). -/
def PlanBank.slotNumber (b : PlanBank) (j : Nat) : Nat := b.steps.mem.u1 (13 * j)
/-- The cargo target in a slot, 0.1 t. -/
def PlanBank.slotCargo (b : PlanBank) (j : Nat) : Int := b.steps.mem.s4 (13 * j + 1)
/-- The ballast target in a slot, 0.1 t. -/
def PlanBank.slotBallast (b : PlanBank) (j : Nat) : Int := b.steps.mem.s4 (13 * j + 5)
/-- The assignment code of a loader in a slot: a hold 0..9, or 15 for NONE. -/
def PlanBank.slotAssignCode (b : PlanBank) (j l : Nat) : Nat := b.steps.mem.u1 (13 * j + 9 + l)
/-- The assignment of a loader in a slot, or none for NONE. -/
def PlanBank.slotAssign (b : PlanBank) (j l : Nat) : Option Nat :=
  if b.slotAssignCode j l < 10 then some (b.slotAssignCode j l) else none

/-- The number of the plan's steps: the slots from slot 0 up to the first empty one (R188). -/
def PlanBank.stepCountFrom (b : PlanBank) : Nat → Nat → Nat
  | 0, _ => 0
  | n + 1, j => if b.slotNumber j = 0 then 0 else b.stepCountFrom n (j + 1) + 1

/-- The number of the plan's steps (R188). -/
def PlanBank.stepCount (b : PlanBank) : Nat := b.stepCountFrom 64 0

/-! ### Defaults -/

/-- A table holding the given bytes, its check word computed. -/
def tableOfBytes (c : TableCode) (bs : List Byte) : TableImage :=
  { mem := Memory.ofBytes bs, check := checkWordOf c (Memory.ofBytes bs) }

/-- The default ship group (Table 11-5), each check word computed at the load. -/
def ShipBank.default : ShipBank where
  part := tableOfBytes .part defaultPartBytes
  ship := tableOfBytes .ship []
  route := tableOfBytes .route []
  cls := tableOfBytes .cls ((List.range 256).map fun k => byteOf (defaultClass k) 0)
  tank := tableOfBytes .tank ((List.range 32).flatMap fun _ => defaultTankBytes)
  sounding := tableOfBytes .sounding []
  item := tableOfBytes .item []
  influence := tableOfBytes .influence []
  station := tableOfBytes .station []
  hydro := tableOfBytes .hydro []
  pumpLine := tableOfBytes .pumpLine ((List.range 8).flatMap fun _ => defaultLineBytes)

/-- The emptied plan bank: every header field at its default and no steps (R60). -/
def PlanBank.empty : PlanBank where
  header := tableOfBytes .planHeader defaultHeaderBytes
  steps := tableOfBytes .planSteps []

/-- A ship bank with nothing in any image: the content of a store that was never written
(notes/assumptions/13.md). -/
def ShipBank.blank : ShipBank :=
  let t : TableImage := { mem := [], check := 0 }
  { part := t, ship := t, route := t, cls := t, tank := t, sounding := t, item := t, influence := t
    station := t, hydro := t, pumpLine := t }

end Sys2Proof.Machine
end

