-- ==== Sys2Proof/Machine/Types.lean ====
section
/-! DEFINITION. The records of the part's blocks, each with its reset value: mode block, clock, ports and
queues, fault table, table banks and ship store, tank, loader and hold records, condition engine, plan
tracker, pause records, station records, order screen and report store. -/

namespace Sys2Proof.Machine

/-! ### Modes and clock (R168, R187) -/

/-- The five modes (R168). -/
inductive Mode where
  | bypass | unconfigured | standby | loading | safe
  deriving DecidableEq, Repr

/-- The code of a mode: its position in the list of R168; R115 gives 1 to 4. -/
def Mode.code : Mode → Nat
  | .bypass => 0 | .unconfigured => 1 | .standby => 2 | .loading => 3 | .safe => 4

/-- The working modes STANDBY, LOADING and SAFE, in which every block runs. -/
def Mode.working : Mode → Bool
  | .standby => true | .loading => true | .safe => true
  | _ => false

/-- The cause of a reset (Table 10-1, Table 9-2). -/
inductive ResetCause where
  | powerOn | supplyDip | commanded | tableReload
  deriving DecidableEq, Repr

/-- The code of a reset cause (Table 9-2). -/
def ResetCause.code : ResetCause → Nat
  | .powerOn => 0 | .supplyDip => 1 | .commanded => 2 | .tableReload => 3

/-- The settle interval of a cause, s (R169). -/
def ResetCause.settle : ResetCause → Nat
  | .powerOn => 3 | .supplyDip => 1 | .commanded => 1 | .tableReload => 1

/-- The mode block's own state but for the faults (Table 10-1). `settle` and `reload` count the seconds
left of the settle timer and of the second before the reload of R176; both run in BYPASS, where the
seconds count does not. -/
structure Sys where
  powered : Bool
  mode : Mode
  settle : Option Nat
  reload : Option Nat
  sessionOpen : Bool
  sessionNumber : Option Nat
  cause : ResetCause
  latch : Bool
  deriving DecidableEq, Repr

/-- The seconds count, held unwrapped, the time offset and the time-set flag (R187). -/
structure Clock where
  seconds : Nat
  offset : Nat
  timeSet : Bool
  deriving DecidableEq, Repr

/-- The clock after every reset (R187). -/
def Clock.reset : Clock := { seconds := 0, offset := 0, timeSet := false }

/-- A time in clock seconds with the TIME_UNSET flag it was made with. -/
structure Stamp where
  sec : Nat
  unset : Bool
  deriving DecidableEq, Repr

/-! ### Telegrams and output queues (R98, R110, R113) -/

/-- A telegram; its length byte and check word follow from it (R113). -/
structure Telegram where
  dst : Byte
  src : Byte
  kind : Byte
  seq : Byte
  payload : List Byte
  deriving DecidableEq, Repr

/-- A queued telegram with its class. `resetReply` marks the MREPLY whose leaving performs a pending
RESET (R198). -/
structure QEntry where
  tel : Telegram
  cls : Fin 4
  resetReply : Bool
  deriving DecidableEq, Repr

/-- One port: its output queue, the telegram in transmission, its sequence counter and its counters
(Table 6-1). -/
structure PortState where
  queue : List QEntry
  sending : Option QEntry
  seq : Byte
  accepted : Nat
  badFrames : Nat
  foreignSource : Nat
  misdirected : Nat
  trapped : Nat
  routeDropped : Nat
  queueDrops : Vector Nat 4
  deriving DecidableEq, Repr

/-- The reset value of a port (Table 6-1). -/
def PortState.reset : PortState where
  queue := []
  sending := none
  seq := 0
  accepted := 0
  badFrames := 0
  foreignSource := 0
  misdirected := 0
  trapped := 0
  routeDropped := 0
  queueDrops := Vector.replicate 4 0

/-- A RESET that was accepted (R198): none, waiting for its MREPLY to leave, or due at once. -/
inductive ResetWait where
  | idle | waiting | due
  deriving DecidableEq, Repr

/-- The advisory kinds, in code order from 64 (Table 10-5). -/
inductive Advisory where
  | badCheck | foreignSource | queueDrop | badOrder | speedClamped | gaugeReject | gaugeJump | badState
  | lateAck | badPour | pourRegression | fixedWeightStep | reportSkipped
  deriving DecidableEq, Repr

/-- The position of an advisory's counter: its code less 64 (Table 10-5). -/
def Advisory.index : Advisory → Nat
  | .badCheck => 0 | .foreignSource => 1 | .queueDrop => 2 | .badOrder => 3 | .speedClamped => 4
  | .gaugeReject => 5 | .gaugeJump => 6 | .badState => 7 | .lateAck => 8 | .badPour => 9
  | .pourRegression => 10 | .fixedWeightStep => 11 | .reportSkipped => 12

/-- Everything an offer of a telegram can change: the three ports, the advisory counters (an eviction
counts QUEUE_DROP, R112) and a pending RESET (its MREPLY may be evicted, R198). -/
structure Out where
  console : PortState
  field : PortState
  shore : PortState
  advisories : Vector Nat 13
  resetWait : ResetWait
  deriving DecidableEq, Repr

/-- The reset value of the ports and advisory counters (R98, R168). -/
def Out.reset : Out where
  console := PortState.reset
  field := PortState.reset
  shore := PortState.reset
  advisories := Vector.replicate 13 0
  resetWait := .idle

/-! ### Faults (R177 to R179, R184) -/

/-- The DEGRADED and CRITICAL fault kinds (Table 10-3). -/
inductive FaultKind where
  | gaugeFault | gaugeLost | tankOverrange | shoreSilent | pourUnattributed | hydroOutOfTable | draftLimit
  | airDraft | draftDisagree | stressLimit | conditionInvalid | ballastLag | deballastAhead | offPlan
  | stressBallastDriven | pauseUnconfirmed | overpour | stationSilent | orderTimeout | pumpTripped
  | pumpStartFailed | dryRunTrip | tableFault | storeFailed
  deriving DecidableEq, Repr

/-- The code of a fault kind (Table 10-3). -/
def FaultKind.code : FaultKind → Nat
  | .gaugeFault => 1 | .gaugeLost => 2 | .tankOverrange => 3 | .shoreSilent => 4 | .pourUnattributed => 5
  | .hydroOutOfTable => 6 | .draftLimit => 7 | .airDraft => 8 | .draftDisagree => 9 | .stressLimit => 10
  | .conditionInvalid => 11 | .ballastLag => 12 | .deballastAhead => 13 | .offPlan => 14
  | .stressBallastDriven => 15 | .pauseUnconfirmed => 16 | .overpour => 17 | .stationSilent => 18
  | .orderTimeout => 19 | .pumpTripped => 20 | .pumpStartFailed => 21 | .dryRunTrip => 22 | .tableFault => 23
  | .storeFailed => 24

/-- Every fault kind, in code order. -/
def FaultKind.all : List FaultKind :=
  [.gaugeFault, .gaugeLost, .tankOverrange, .shoreSilent, .pourUnattributed, .hydroOutOfTable, .draftLimit,
   .airDraft, .draftDisagree, .stressLimit, .conditionInvalid, .ballastLag, .deballastAhead, .offPlan,
   .stressBallastDriven, .pauseUnconfirmed, .overpour, .stationSilent, .orderTimeout, .pumpTripped,
   .pumpStartFailed, .dryRunTrip, .tableFault, .storeFailed]

/-- The fault kind of a code, if the code is in Table 10-3. -/
def FaultKind.ofCode (n : Nat) : Option FaultKind := FaultKind.all.find? fun k => k.code = n

/-- The severity of a fault kind (Table 10-3). -/
def FaultKind.severity : FaultKind → Severity
  | .stressLimit => .critical | .conditionInvalid => .critical | .overpour => .critical | .tableFault => .critical
  | _ => .degraded

/-- The faults cleared by acknowledgement (R178): raised and moved to CLEARED_UNACK in one event. -/
def FaultKind.ackCleared : FaultKind → Bool
  | .pourUnattributed => true
  | .dryRunTrip => true
  | _ => false

/-- The subject code of a fault that concerns the ship as a whole (R177). -/
def subjectNone : Nat := 255

/-- The state of a fault entry (R178). -/
inductive FaultState where
  | activeUnack | activeAck | clearedUnack
  deriving DecidableEq, Repr

/-- The code of a fault entry's state: its position in the list of R178. -/
def FaultState.code : FaultState → Nat
  | .activeUnack => 0 | .activeAck => 1 | .clearedUnack => 2

/-- A fault entry (R178); its severity is its kind's. -/
structure FaultEntry where
  kind : FaultKind
  subject : Nat
  state : FaultState
  first : Stamp
  last : Stamp
  count : Nat
  deriving DecidableEq, Repr

/-- An active mark (R179): its kind and subject, the time it was raised, and whether it waits for an
entry. The raise time is kept in the clock seconds of the raising (DESIGN CHOICE, notes/assumptions/47.md). -/
structure FaultMark where
  kind : FaultKind
  subject : Nat
  raised : Stamp
  waiting : Bool
  deriving DecidableEq, Repr

/-- The states of the alarm line (R184). -/
inductive Alarm where
  | clear | pulsing | steady
  deriving DecidableEq, Repr

/-- The code of an alarm state: its position in Table 10-1. -/
def Alarm.code : Alarm → Nat
  | .clear => 0 | .pulsing => 1 | .steady => 2

/-- The fault table (Table 10-1): entries in order of entry into the table, active marks in order of
raising, the alarm state, and the phase of a PULSING output with the second of its next toggle. -/
structure Faults where
  entries : List FaultEntry
  marks : List FaultMark
  alarm : Alarm
  pulseOn : Bool
  pulseAt : Nat
  deriving DecidableEq, Repr

/-- The empty fault table (Table 10-1). -/
def Faults.reset : Faults where
  entries := []
  marks := []
  alarm := .clear
  pulseOn := false
  pulseAt := 0

/-! ### Table banks and the ship store (R188, R195) -/

/-- One table group: its two banks, generation, sealed and pending flags (R188). -/
structure Group (β : Type) where
  active : β
  staging : β
  gen : Nat
  isSealed : Bool
  isPending : Bool
  deriving DecidableEq, Repr

/-- The ship store: an image of the ship group and a validity mark; non-volatile (R195). -/
structure ShipStore where
  bank : ShipBank
  mark : Bool
  deriving DecidableEq, Repr

/-- The store state of READ_STATUS (R195). -/
inductive StoreState where
  | valid | invalid | writing
  deriving DecidableEq, Repr

/-- The code of a store state: its position in Table 11-2. -/
def StoreState.code : StoreState → Nat
  | .valid => 0 | .invalid => 1 | .writing => 2

/-- A STORE being written (R196): the requester, the image and generation taken at acceptance, and the
second by which the writing has ended. -/
structure StoreJob where
  src : Byte
  seq : Byte
  bank : ShipBank
  gen : Nat
  deadline : Nat
  deriving DecidableEq, Repr

/-- The management responder: both groups, the ship store, and the scrub's rotation (R188, R194, R195). -/
structure Mgmt where
  ship : Group ShipBank
  plan : Group PlanBank
  store : ShipStore
  storeState : StoreState
  writing : Option StoreJob
  unstored : Bool
  scrubPos : TableCode
  scrubAt : Option Nat
  deriving DecidableEq, Repr

/-- The ship group before its load at the end of the settle (notes/assumptions/14.md). -/
def Group.resetShip : Group ShipBank where
  active := ShipBank.default
  staging := ShipBank.default
  gen := 0
  isSealed := false
  isPending := false

/-- The plan group after every reset: both banks emptied (R60, R188). -/
def Group.resetPlan : Group PlanBank where
  active := PlanBank.empty
  staging := PlanBank.empty
  gen := 0
  isSealed := false
  isPending := false

/-- A store that was never written: nothing in it and no validity mark (notes/assumptions/13.md). -/
def ShipStore.blank : ShipStore := { bank := ShipBank.blank, mark := false }

/-- The management responder after a reset, over what the ship store holds. -/
def Mgmt.resetWith (st : ShipStore) : Mgmt where
  ship := Group.resetShip
  plan := Group.resetPlan
  store := st
  storeState := .invalid
  writing := none
  unstored := true
  scrubPos := .part
  scrubAt := none

/-! ### Tank records (R3) -/

/-- A mass and the seconds count it stood at: an anchor or an extreme. -/
structure MassAt where
  mass : Int
  time : Nat
  deriving DecidableEq, Repr

/-- An open ballast operation (Table 1-2). -/
structure Operation where
  startMass : Int
  startTime : Nat
  gaugeLost : Bool
  deriving DecidableEq, Repr

/-- The movement state with what is present in it: the anchor in STILL; the extreme and the operation in
FILLING and EMPTYING (Table 1-2). -/
inductive Motion where
  | still (anchor : Option MassAt)
  | filling (extreme : MassAt) (op : Operation)
  | emptying (extreme : MassAt) (op : Operation)
  deriving DecidableEq, Repr

/-- The gauge status; LOST carries the growth reference, which is present only then (Table 1-2). -/
inductive Gauge where
  | noSample | live | lost (growthRef : Nat) | fault
  deriving DecidableEq, Repr

/-- Where a tank's density comes from (Table 1-2). -/
inductive DensitySource where
  | descriptor | port
  deriving DecidableEq, Repr

/-- A tank record (Table 1-2). `gaugeTimer` is the instant the gauge timer runs from, if it runs. -/
structure TankRec where
  motion : Motion
  gauge : Gauge
  rawLevel : Int
  corrected : Int
  trimUsed : Int
  volume : Int
  density : Int
  source : DensitySource
  mass : Int
  uncertainty : Int
  rejectRun : Nat
  lastAccepted : Option Nat
  lastSample : Option Byte
  accepted : Nat
  rejected : Nat
  gaugeTimer : Option Nat
  deriving DecidableEq, Repr

/-- The reset value of a tank record, whose density is the descriptor's default (Table 1-2). -/
def TankRec.reset (density : Int) : TankRec where
  motion := .still none
  gauge := .noSample
  rawLevel := 0
  corrected := 0
  trimUsed := 0
  volume := 0
  density := density
  source := .descriptor
  mass := 0
  uncertainty := 0
  rejectRun := 0
  lastAccepted := none
  lastSample := none
  accepted := 0
  rejected := 0
  gaugeTimer := none

/-! ### The pour table (R21, R32, R33) -/

/-- The belt state of a loader (Table 2-1). -/
inductive Belt where
  | running | stopped | paused
  deriving DecidableEq, Repr

/-- A loader record (Table 2-1). -/
structure LoaderRec where
  baselineSeen : Bool
  baseline : Nat
  lastCum : Nat
  spout : Option Nat
  belt : Belt
  lastPour : Option Nat
  sessionTonnage : Int
  unattributed : Int
  deriving DecidableEq, Repr

/-- The reset value of a loader record (Table 2-1). -/
def LoaderRec.reset : LoaderRec where
  baselineSeen := false
  baseline := 0
  lastCum := 0
  spout := none
  belt := .stopped
  lastPour := none
  sessionTonnage := 0
  unattributed := 0

/-- A hold record (Table 2-1). -/
structure HoldRec where
  opening : Int
  attributed : Int
  mass : Int
  deriving DecidableEq, Repr

/-- The reset value of a hold record (Table 2-1). -/
def HoldRec.reset : HoldRec := { opening := 0, attributed := 0, mass := 0 }

/-- Shore silence supervision (R32); WATCHING carries the second its timer expires. -/
inductive Silence where
  | disarmed | watching (deadline : Nat) | silent
  deriving DecidableEq, Repr

/-- The shore line unit (Table 2-1, R32, R33). -/
structure Shore where
  loaders : Vector LoaderRec 4
  holds : Vector HoldRec 10
  unattributed : Int
  silence : Silence
  beaconAt : Option Nat
  deriving DecidableEq, Repr

/-- The reset value of the shore line unit. -/
def Shore.reset : Shore where
  loaders := Vector.replicate 4 LoaderRec.reset
  holds := Vector.replicate 10 HoldRec.reset
  unattributed := 0
  silence := .disarmed
  beaconAt := none

/-! ### The condition engine (R34, R38, R55) -/

/-- The latest draft reading (R41). -/
structure DraftReading where
  fwd : Int
  aft : Int
  ok : Bool
  arrival : Nat
  deriving DecidableEq, Repr

/-- The watermarks and draft window of a plan header, as a snapshot takes them (Table 3-2). -/
structure Marks where
  caution : Int
  pause : Int
  release : Int
  maxFwd : Int
  maxAft : Int
  minFwd : Int
  minAft : Int
  margin : Int
  releaseMargin : Int
  deriving DecidableEq, Repr

/-- The snapshot of an evaluation (Table 3-2). `tables` is the active ship bank at the snapshot, from
which the evaluation takes its table values; `live` says that the session of the mark is still the one
open (it is cleared at CLOSE_SESSION). -/
structure Snapshot where
  masses : Vector Int 48
  uncertainty : Vector Int 32
  reading : Option DraftReading
  readingAge : Nat
  shipGen : Nat
  planGen : Nat
  session : Option Nat
  live : Bool
  marks : Marks
  tables : ShipBank
  deriving DecidableEq, Repr

/-- The two quantities of a check station (R49). -/
inductive Quantity where
  | shear | moment
  deriving DecidableEq, Repr

/-- The code of a quantity (Table 9-2). -/
def Quantity.code : Quantity → Nat
  | .shear => 0 | .moment => 1

/-- A peak: value in permille, station, quantity (R49). -/
structure Peak where
  value : Int
  station : Nat
  quantity : Quantity
  deriving DecidableEq, Repr

/-- The bands of the peak (R49). -/
inductive Band where
  | normal | caution | pause | limit
  deriving DecidableEq, Repr

/-- The code of a band: its position in the table of R49. -/
def Band.code : Band → Nat
  | .normal => 0 | .caution => 1 | .pause => 2 | .limit => 3

/-- The figures of one check station (Table 3-3). -/
structure StationFig where
  sf : Int
  gsf : Int
  bm : Int
  gbm : Int
  uShear : Int
  uShearGuarded : Int
  uMoment : Int
  uMomentGuarded : Int
  deriving DecidableEq, Repr

/-- The figures of a VALID condition record (Table 3-3). -/
structure Figures where
  disp : Int
  lcg : Int
  tm : Int
  lcb : Int
  mct : Int
  trim : Int
  fwd : Int
  aft : Int
  hydro : Bool
  stations : List StationFig
  peak : Peak
  band : Band
  cargo : Int
  ballast : Int
  uncertainty : Int
  overRun : Nat
  withinRun : Nat
  readingUsed : Bool
  lag : Option Int
  deriving DecidableEq, Repr

/-- The header fields of a condition record (Table 3-3). -/
structure Header where
  number : Nat
  shipGen : Nat
  planGen : Nat
  session : Option Nat
  completion : Stamp
  deriving DecidableEq, Repr

/-- The published condition record, by validity (R55). -/
inductive Published where
  | none
  | invalid (header : Header)
  | valid (header : Header) (figures : Figures)
  deriving DecidableEq, Repr

/-- The condition engine (Table 3-1). `abandon` marks an evaluation in flight whose ship bank a RELOAD
has replaced (R40). -/
structure Engine where
  inFlight : Bool
  pending : Bool
  damaged : Bool
  abandon : Bool
  snapshot : Option Snapshot
  number : Nat
  published : Published
  latestTrim : Option Int
  reading : Option DraftReading
  overRun : Nat
  withinRun : Nat
  intervalAt : Option Nat
  weights : Vector Int 6
  deriving DecidableEq, Repr

/-- The reset value of the condition engine (Table 3-1). -/
def Engine.reset : Engine where
  inFlight := false
  pending := false
  damaged := false
  abandon := false
  snapshot := none
  number := 0
  published := .none
  latestTrim := none
  reading := none
  overRun := 0
  withinRun := 0
  intervalAt := none
  weights := Vector.replicate 6 0

/-! ### The plan tracker (R63) -/

/-- The figures of the active step (Table 4-4). -/
structure ActiveStep where
  k : Nat
  cStart : Int
  bStart : Int
  startTime : Nat
  peak : Option Peak
  pausedSeconds : Nat
  pausedSince : Option Nat
  deriving DecidableEq, Repr

/-- The tracking state, with the active step in TRACKING (Table 4-4). -/
inductive Tracking where
  | noSession
  | tracking (step : ActiveStep)
  | complete
  deriving DecidableEq, Repr

/-- The plan tracker (Table 4-4). -/
structure Tracker where
  tracking : Tracking
  openTotals : Option (Int × Int)
  stepsDone : Nat
  offPlan : Vector Bool 4
  deriving DecidableEq, Repr

/-- The reset value of the plan tracker (Table 4-4). -/
def Tracker.reset : Tracker where
  tracking := .noSession
  openTotals := none
  stepsDone := 0
  offPlan := Vector.replicate 4 false

/-! ### The pause records (R76) -/

/-- The ten pause reasons, in the order of Table 5-2. -/
inductive Reason where
  | awaitingCondition | stress | ballastLag | draft | offPlan | planComplete | shoreSilent | conditionInvalid
  | safe | manual
  deriving DecidableEq, Repr

/-- The bit of a reason in a reason set (R115). -/
def Reason.bit : Reason → Nat
  | .awaitingCondition => 0 | .stress => 1 | .ballastLag => 2 | .draft => 3 | .offPlan => 4 | .planComplete => 5
  | .shoreSilent => 6 | .conditionInvalid => 7 | .safe => 8 | .manual => 9

/-- A reason set, as PAUSE carries it: bit 0 AWAITING_CONDITION to bit 9 MANUAL (R115). -/
abbrev ReasonSet := BitVec 10

/-- The set of one reason. -/
def Reason.single (r : Reason) : ReasonSet := 1#10 <<< r.bit

/-- Whether a set holds a reason. -/
def ReasonSet.has (rs : ReasonSet) (r : Reason) : Bool := rs.getLsbD r.bit

/-- A set with a reason added (R77). -/
def ReasonSet.add (rs : ReasonSet) (r : Reason) : ReasonSet := rs ||| r.single

/-- A set with a reason removed (R77). -/
def ReasonSet.remove (rs : ReasonSet) (r : Reason) : ReasonSet := rs &&& ~~~ r.single

/-- An episode (Table 5-1): `grace` and `startCum` are none for NONE; `overpour` is the largest
cumulative beyond the grace mark, present once OVERPOUR has been raised in the episode. -/
structure Episode where
  grace : Option Nat
  startTime : Nat
  union : ReasonSet
  startCum : Option Nat
  confirmed : Option Nat
  overpour : Option Nat
  deriving DecidableEq, Repr

/-- The state of a pause record, with the episode that is open while it is not FREE (Table 5-1). -/
inductive PauseState where
  | free
  | pauseSent (ep : Episode)
  | paused (ep : Episode)
  deriving DecidableEq, Repr

/-- The code of a pause state: its position in Table 5-1. -/
def PauseState.code : PauseState → Nat
  | .free => 0 | .pauseSent _ => 1 | .paused _ => 2

/-- The episode of a pause state. -/
def PauseState.episode : PauseState → Option Episode
  | .free => none
  | .pauseSent e => some e
  | .paused e => some e

/-- A pause state with its episode changed. -/
def PauseState.mapEpisode (f : Episode → Episode) : PauseState → PauseState
  | .free => .free
  | .pauseSent e => .pauseSent (f e)
  | .paused e => .paused (f e)

/-- A pause record (Table 5-1); `timer` is the second the confirm timer expires, if it runs. -/
structure PauseRec where
  state : PauseState
  reasons : ReasonSet
  timer : Option Nat
  deriving DecidableEq, Repr

/-- The reset value of a pause record (Table 5-1). -/
def PauseRec.reset : PauseRec := { state := .free, reasons := 0, timer := none }

/-- The pacing block (R76). -/
structure Pacing where
  loaders : Vector PauseRec 4
  episodesClosed : Nat
  overpourEpisodes : Nat
  deriving DecidableEq, Repr

/-- The reset value of the pacing block. -/
def Pacing.reset : Pacing where
  loaders := Vector.replicate 4 PauseRec.reset
  episodesClosed := 0
  overpourEpisodes := 0

/-! ### Stations (R117) -/

/-- The run states of a pump (Table 6-8). -/
inductive RunState where
  | stopped | starting | running | stopping | tripped
  deriving DecidableEq, Repr

/-- The code of a run state (Table 6-8). -/
def RunState.code : RunState → Nat
  | .stopped => 0 | .starting => 1 | .running => 2 | .stopping => 3 | .tripped => 4

/-- The modes of a pump (Table 6-8). -/
inductive PumpMode where
  | ballast | deballast
  deriving DecidableEq, Repr

/-- The code of a pump mode (Table 6-8). -/
def PumpMode.code : PumpMode → Nat
  | .ballast => 0 | .deballast => 1

/-- The positions of a valve (Table 6-8). -/
inductive ValvePos where
  | closed | opened | moving | fault
  deriving DecidableEq, Repr

/-- The code of a valve position (Table 6-8). -/
def ValvePos.code : ValvePos → Nat
  | .closed => 0 | .opened => 1 | .moving => 2 | .fault => 3

/-- The last STATE of a station, by kind (Table 7-1). `isLocal` is the control place LOCAL. -/
inductive LastState where
  | pump (run : RunState) (mode : PumpMode) (speed : Nat) (flow : Nat) (isLocal : Bool)
  | valve (pos : ValvePos) (opening : Nat) (isLocal : Bool)
  deriving DecidableEq, Repr

/-- The presence of a station (Table 7-1). -/
inductive Presence where
  | unknown | present | silent | outOfService
  deriving DecidableEq, Repr

/-- The code of a presence: its position in Table 7-1. -/
def Presence.code : Presence → Nat
  | .unknown => 0 | .present => 1 | .silent => 2 | .outOfService => 3

/-- The order types (Table 6-9). -/
inductive OrderType where
  | pumpStart | pumpStop | pumpSpeed | valveOpen | valveClose
  deriving DecidableEq, Repr

/-- The code of an order type (Table 6-9). -/
def OrderType.code : OrderType → Nat
  | .pumpStart => 1 | .pumpStop => 2 | .pumpSpeed => 3 | .valveOpen => 4 | .valveClose => 5

/-- The outstanding order of a station (Table 7-1); `console` is none for originator PART. -/
structure Outstanding where
  seq : Byte
  type : OrderType
  mode : Byte
  setpoint : Byte
  console : Option Byte
  forwarded : Nat
  deadline : Nat
  deriving DecidableEq, Repr

/-- How an outstanding order closed (Table 7-1). -/
inductive Closing where
  | done | refusedLocal | failed | timeout | superseded | withdrawn
  deriving DecidableEq, Repr

/-- The code of a closing: that of its outcome in Table 6-10 (R128; DESIGN CHOICE, notes/assumptions/52.md). -/
def Closing.code : Closing → Nat
  | .done => 0 | .refusedLocal => 1 | .failed => 2 | .timeout => 19 | .superseded => 18 | .withdrawn => 20

/-- A station record (Table 7-1). Its kind follows from its index, its run state from its last STATE. -/
structure StationRec where
  address : Option Byte
  presence : Presence
  presenceAt : Option Nat
  last : Option LastState
  lastTime : Option Nat
  outstanding : Option Outstanding
  lastClosing : Option Closing
  recorded : Nat
  rejected : Nat
  forwarded : Nat
  refused : Nat
  timeouts : Nat
  lateAcks : Nat
  deriving DecidableEq, Repr

/-- The reset value of a station record bound to an address, or unbound (Table 7-1). -/
def StationRec.reset (address : Option Byte) : StationRec where
  address := address
  presence := .unknown
  presenceAt := none
  last := none
  lastTime := none
  outstanding := none
  lastClosing := none
  recorded := 0
  rejected := 0
  forwarded := 0
  refused := 0
  timeouts := 0
  lateAcks := 0

/-! ### The order screen (R131) -/

/-- The reasons an order is held for (Table 8-2). -/
inductive HoldReason where
  | awaitingAck | awaitingRoute | awaitingSlot | awaitingPumpStop | condition
  deriving DecidableEq, Repr

/-- The reason code of a hold (Table 6-11). -/
def HoldReason.code : HoldReason → Nat
  | .awaitingAck => 1 | .awaitingRoute => 2 | .awaitingSlot => 3 | .awaitingPumpStop => 4 | .condition => 5

/-- The reasons an order is refused with (Table 6-11). -/
inductive RefuseReason where
  | safe | pumpCount | noLine | outOfService | localControl | oppositeValve | heldListFull | route
  deriving DecidableEq, Repr

/-- The reason code of a refusal (Table 6-11). -/
def RefuseReason.code : RefuseReason → Nat
  | .safe => 16 | .pumpCount => 17 | .noLine => 18 | .outOfService => 19 | .localControl => 20
  | .oppositeValve => 21 | .heldListFull => 22 | .route => 23

/-- An ORDER as the screen reads it: its type, mode and setpoint bytes, its sequence and its source. -/
structure Order where
  type : OrderType
  mode : Byte
  speed : Byte
  seq : Byte
  console : Byte
  deriving DecidableEq, Repr

/-- A held-order entry (Table 8-2). -/
structure Held where
  order : Order
  station : Nat
  reason : HoldReason
  arrival : Nat
  deadline : Nat
  deriving DecidableEq, Repr

/-- The start slot while a pump holds it (Table 8-1). -/
structure Slot where
  pump : Nat
  mode : PumpMode
  taken : Nat
  deadline : Nat
  deriving DecidableEq, Repr

/-- The order screen (Table 8-1). -/
structure Screen where
  held : List Held
  slot : Option Slot
  dryAt : Vector (Option Nat) 8
  tripped : Vector Bool 8
  deriving DecidableEq, Repr

/-- The reset value of the order screen (Table 8-1). -/
def Screen.reset : Screen where
  held := []
  slot := none
  dryAt := Vector.replicate 8 none
  tripped := Vector.replicate 8 false

/-! ### The report store (R153) -/

/-- The six record kinds (R115). -/
inductive RecordKind where
  | sessionOpen | sessionClose | step | ballast | pause | condition
  deriving DecidableEq, Repr

/-- The code of a record kind (Table 6-13). -/
def RecordKind.code : RecordKind → Nat
  | .sessionOpen => 1 | .sessionClose => 2 | .step => 3 | .ballast => 4 | .pause => 5 | .condition => 6

/-- A report record (R153); its segment count follows from its body. -/
structure ReportRec where
  number : Nat
  kind : RecordKind
  time : Stamp
  isPartial : Bool
  gaugeLost : Bool
  body : List Int
  deriving DecidableEq, Repr

/-- The report store (Table 9-1). -/
structure Reports where
  records : List ReportRec
  next : Nat
  dropped : Nat
  mask : Byte
  interval : Nat
  conditionAt : Option Nat
  firstSession : Bool
  startCause : ResetCause
  deriving DecidableEq, Repr

/-- The report store after a reset of the given cause (Table 9-1). -/
def Reports.reset (cause : ResetCause) : Reports where
  records := []
  next := 1
  dropped := 0
  mask := 0
  interval := 0
  conditionAt := none
  firstSession := true
  startCause := cause

end Sys2Proof.Machine
end

