-- ==== Sys2Proof/Machine/State.lean ====
section
/-! DEFINITION. The state of the part as plain data, the reasons a step can stop, and the state right
after power-on reset. -/

namespace Sys2Proof.Machine

/-- The state of the part: the commands that wait, and one field per block. -/
structure State where
  /-- The commands waiting, first in, first out (the model's own field). -/
  pending : List Instr
  /-- Power, mode, settle, session flag and number, reset cause, table-fault latch (R168). -/
  sys : Sys
  /-- Seconds count, time offset, time-set flag (R187). -/
  clock : Clock
  /-- The three ports with their queues and counters, the advisory counters, a pending RESET (R98, R180, R198). -/
  out : Out
  /-- Fault entries, active marks and the alarm line (R168, R178, R179, R184). -/
  faults : Faults
  /-- Table banks, ship store, scrub (R188, R194, R195). -/
  mgmt : Mgmt
  /-- The 32 tank records (R3). -/
  tanks : Vector TankRec 32
  /-- Loader and hold records, shore silence, beacon timer (R21, R32, R33). -/
  shore : Shore
  /-- The condition engine (R34). -/
  engine : Engine
  /-- The plan tracker (R63). -/
  tracker : Tracker
  /-- The pause records and session counters (R76). -/
  pacing : Pacing
  /-- The 64 station records (R117). -/
  stations : Vector StationRec 64
  /-- The held-order list, the start slot, dry-run supervision (R131). -/
  screen : Screen
  /-- The report store (R153). -/
  reports : Reports
  deriving DecidableEq, Repr

/-- The machine stops with a fault nowhere: the manual gives every command an effect, and what it
refuses it refuses by a reply or an answer of the part. Nothing raises one; safe. -/
inductive Fault where
  deriving DecidableEq, Repr

/-- A command without a meaning. -/
inductive Refusal where
  /-- Raised by exec for a command the model gives no meaning; none is left. Safe: the run stops. -/
  | notModelled (mnemonic : String)
  deriving DecidableEq, Repr

/-- Every block at its reset value, in BYPASS with a settle of the cause's interval (R169), over what the
ship store holds. The queue of waiting commands is outside the part and is kept. -/
def State.afterReset (cause : ResetCause) (store : ShipStore) (pending : List Instr) : State where
  pending := pending
  sys :=
    { powered := true, mode := .bypass, settle := some cause.settle, reload := none, sessionOpen := false
      sessionNumber := none, cause := cause, latch := false }
  clock := Clock.reset
  out := Out.reset
  faults := Faults.reset
  mgmt := Mgmt.resetWith store
  tanks := Vector.replicate 32 (TankRec.reset 1025)
  shore := Shore.reset
  engine := Engine.reset
  tracker := Tracker.reset
  pacing := Pacing.reset
  stations := Vector.replicate 64 (StationRec.reset none)
  screen := Screen.reset
  reports := Reports.reset cause

/-- The machine right after power-on, with a ship store that was never written
(notes/assumptions/13.md) and no command waiting. -/
def State.reset : State := State.afterReset .powerOn ShipStore.blank []

end Sys2Proof.Machine
end

