-- ==== Sys2Proof/Machine/Ops.lean ====
section
/-! DEFINITION. Reading and updating the part's records: one accessor and one updater per array of
records, the clock, the mode's derived outputs, and the running totals (R19). -/

namespace Sys2Proof.Machine

/-- A vector's element, or a default outside its range. -/
def nth {α : Type} {n : Nat} (v : Vector α n) (i : Nat) (d : α) : α := if h : i < n then v[i] else d

/-- A vector with one element changed; outside the range, the vector itself. -/
def upd {α : Type} {n : Nat} (v : Vector α n) (i : Nat) (f : α → α) : Vector α n :=
  if h : i < n then v.set i (f v[i]) else v

/-- The effects of a list of indices, one after the other. -/
def forEach {σ : Type} (l : List Nat) (f : Nat → σ → σ) (s : σ) : σ := l.foldl (fun s i => f i s) s

namespace State

/-- The active ship bank, which the blocks read (R188). -/
def bank (s : State) : ShipBank := s.mgmt.ship.active

/-- The active plan bank (R60). -/
def plan (s : State) : PlanBank := s.mgmt.plan.active

/-- Now, on the seconds count. -/
def now (s : State) : Nat := s.clock.seconds

/-- A time on the seconds count as clock seconds, with the offset in force (R187). -/
def clockSeconds (s : State) (t : Nat) : Nat := (t + s.clock.offset) % 4294967296

/-- The present time in clock seconds, with its TIME_UNSET flag (R187). -/
def stamp (s : State) : Stamp := { sec := s.clockSeconds s.now, unset := !s.clock.timeSet }

/-- Whether the blocks run: STANDBY, LOADING or SAFE. -/
def working (s : State) : Bool := s.sys.mode.working

/-- The bypass relay is closed while the part is unpowered and while the mode is BYPASS (R97). -/
def relayClosed (s : State) : Bool := !s.sys.powered || s.sys.mode == .bypass

/-- The alarm output: on in STEADY, alternating in PULSING, off in CLEAR and while unpowered (R184). -/
def alarmOutput (s : State) : Bool :=
  s.sys.powered && match s.faults.alarm with
    | .steady => true
    | .pulsing => s.faults.pulseOn
    | .clear => false

/-- The tank record of an index. -/
def tank (s : State) (t : Nat) : TankRec := nth s.tanks t (TankRec.reset 0)

/-- A tank record changed. -/
def modTank (s : State) (t : Nat) (f : TankRec → TankRec) : State := { s with tanks := upd s.tanks t f }

/-- The station record of an index. -/
def station (s : State) (i : Nat) : StationRec := nth s.stations i (StationRec.reset none)

/-- A station record changed. -/
def modStation (s : State) (i : Nat) (f : StationRec → StationRec) : State :=
  { s with stations := upd s.stations i f }

/-- The loader record of an index. -/
def loader (s : State) (l : Nat) : LoaderRec := nth s.shore.loaders l LoaderRec.reset

/-- A loader record changed. -/
def modLoader (s : State) (l : Nat) (f : LoaderRec → LoaderRec) : State :=
  { s with shore := { s.shore with loaders := upd s.shore.loaders l f } }

/-- The hold record of an index. -/
def hold (s : State) (h : Nat) : HoldRec := nth s.shore.holds h HoldRec.reset

/-- A hold record changed. -/
def modHold (s : State) (h : Nat) (f : HoldRec → HoldRec) : State :=
  { s with shore := { s.shore with holds := upd s.shore.holds h f } }

/-- The pause record of an index. -/
def pause (s : State) (l : Nat) : PauseRec := nth s.pacing.loaders l PauseRec.reset

/-- A pause record changed. -/
def modPause (s : State) (l : Nat) (f : PauseRec → PauseRec) : State :=
  { s with pacing := { s.pacing with loaders := upd s.pacing.loaders l f } }

/-- The mode changed. -/
def setMode (s : State) (m : Mode) : State := { s with sys := { s.sys with mode := m } }

/-- The active step, or whatever the tracking state is, changed. -/
def setTracking (s : State) (t : Tracking) : State := { s with tracker := { s.tracker with tracking := t } }

/-- Total ballast B: the sum of the masses of all fitted tanks (R19). -/
def totalBallast (s : State) : Int :=
  ((List.range 32).map fun t => if s.bank.tankFitted t then (s.tank t).mass else 0).sum

/-- Total tank uncertainty: the sum of the uncertainties of all fitted tanks (R19). -/
def totalUncertainty (s : State) : Int :=
  ((List.range 32).map fun t => if s.bank.tankFitted t then (s.tank t).uncertainty else 0).sum

/-- Total cargo C: the sum of the hold masses (R66). -/
def totalCargo (s : State) : Int := ((List.range 10).map fun h => (s.hold h).mass).sum

/-- The number of loaders whose pause record is not FREE (R33, R76). -/
def notFree (s : State) : Nat := (List.range 4).countP fun l => (s.pause l).state != .free

end State

/-- The relation of R21 within a record: mass is opening cargo plus attributed tonnage. -/
def HoldRec.balanced (h : HoldRec) : Bool := h.mass == h.opening + h.attributed

/-- The run state of a pump's last STATE, or none for NONE (Table 7-1). -/
def StationRec.runState (r : StationRec) : Option RunState :=
  match r.last with
  | some (.pump run _ _ _ _) => some run
  | _ => none

/-- The overflow flag: set while an active mark waits for an entry (R179). -/
def Faults.overflow (f : Faults) : Bool := f.marks.any fun m => m.waiting

/-- Whether a fault is active: its mark is set (R179). -/
def Faults.active (f : Faults) (k : FaultKind) (subject : Nat) : Bool :=
  f.marks.any fun m => m.kind = k && m.subject = subject

/-- Whether some mark of a fault kind is set. -/
def Faults.anyActive (f : Faults) (k : FaultKind) : Bool := f.marks.any fun m => m.kind = k

end Sys2Proof.Machine
end

