-- ==== Sys2Proof/Machine/Operands.lean ====
section
/-! DEFINITION. The layouts of telegrams (R113 to R115): framing, acceptance (R99), the payloads the part
reads and writes, and the coding of management arguments and results (R185). -/

namespace Sys2Proof.Machine

/-! ### Kind codes (Table 6-5) -/

/-- SOUNDING. -/
def kindSounding : Byte := 0x21
/-- DRAFT. -/
def kindDraft : Byte := 0x22
/-- STATE. -/
def kindState : Byte := 0x23
/-- ACK. -/
def kindAck : Byte := 0x24
/-- ORDER. -/
def kindOrder : Byte := 0x41
/-- MGMT. -/
def kindMgmt : Byte := 0x51
/-- MREPLY. -/
def kindMreply : Byte := 0x52
/-- ALERT. -/
def kindAlert : Byte := 0x53
/-- REPORT. -/
def kindReport : Byte := 0x54
/-- POUR. -/
def kindPour : Byte := 0x61
/-- PAUSE. -/
def kindPause : Byte := 0x62
/-- RESUME. -/
def kindResume : Byte := 0x63
/-- SHORE_BEACON. -/
def kindShoreBeacon : Byte := 0x64

/-- The address of all nodes (R113). -/
def allNodes : Byte := 255

/-! ### Framing and acceptance (R99, R113) -/

/-- The five header bytes of a telegram. -/
def Telegram.header (t : Telegram) : List Byte := [t.dst, t.src, t.kind, t.seq, byteOf t.payload.length 0]

/-- The check word of a telegram, over header and payload (R113). -/
def Telegram.check (t : Telegram) : Word16 := crc (t.header ++ t.payload)

/-- The bytes of a telegram on the line (Table 6-4). -/
def Telegram.frame (t : Telegram) : List Byte := t.header ++ t.payload ++ enc2 t.check.toNat

/-- Checks 1 to 3 of R99: the size of 7 to 63 bytes, the length byte, and the check word. A frame that
passes is the telegram it carries. -/
def parseFrame (bs : List Byte) : Option Telegram :=
  match bs with
  | dst :: src :: kind :: seq :: len :: rest =>
    let payload := rest.take len.toNat
    if len.toNat ≤ 56 ∧ rest.length = len.toNat + 2
        ∧ rest.drop len.toNat = enc2 (crc (dst :: src :: kind :: seq :: len :: payload)).toNat then
      some { dst := dst, src := src, kind := kind, seq := seq, payload := payload }
    else none
  | _ => none

/-- Check 5 of R99: the payload length of a kind whose length Table 6-5 fixes or bounds; the first byte
of a STATE agrees with its length (R114). -/
def kindLengthOk (kind : Byte) (payload : List Byte) : Bool :=
  let n := payload.length
  if kind = kindSounding then n = 4
  else if kind = kindDraft then n = 5
  else if kind = kindState then (n = 7 && payload.head? = some 0) || (n = 4 && payload.head? = some 1)
  else if kind = kindAck then n = 4
  else if kind = kindOrder then n = 3
  else if kind = kindMgmt ∨ kind = kindMreply ∨ kind = kindAlert then 1 ≤ n && n ≤ 56
  else if kind = kindReport then 10 ≤ n && n ≤ 56
  else if kind = kindPour then n = 9
  else if kind = kindPause then n = 7
  else if kind = kindResume then n = 1
  else true

/-- Checks 1, 2, 4 and 5 of R99 on a telegram whose check word is right: at most 56 payload bytes, source
1..254, destination 1..255, and the kind's length. -/
def Telegram.acceptable (t : Telegram) : Bool :=
  decide (t.payload.length ≤ 56) && t.src != 0 && t.src != 255 && t.dst != 0 && kindLengthOk t.kind t.payload

/-! ### Payloads the part reads (R114, R115) -/

/-- The big-endian value of a slice of a payload. -/
def fieldAt (p : List Byte) (at_ width : Nat) : Nat := beNat ((p.drop at_).take width)

/-- One byte of a payload; the layouts' lengths are checked at acceptance. -/
def byteAt (p : List Byte) (at_ : Nat) : Byte := p.getD at_ 0

/-- The payload of a SOUNDING (Table 6-7). -/
def soundingPayload (level : Word16) (status sample : Byte) : List Byte := enc2 level.toNat ++ [status, sample]

/-- The payload of a DRAFT (Table 6-7). -/
def draftPayload (fwd aft : Word16) (status : Byte) : List Byte := enc2 fwd.toNat ++ enc2 aft.toNat ++ [status]

/-- The payload of a STATE (Table 6-8). -/
def statePayload : StateReport → List Byte
  | .pump run mode speed flow control => [0, run, mode, speed] ++ enc2 flow.toNat ++ [control]
  | .valve position opening control => [1, position, opening, control]

/-- The payload of a POUR (Table 6-12). -/
def pourPayload (loader spout : Byte) (cumulative : Word32) (belt : Byte) (rate : Word16) : List Byte :=
  [loader, spout] ++ enc4 cumulative.toNat ++ [belt] ++ enc2 rate.toNat

/-- The run state of a code (Table 6-8). -/
def runStateOf (n : Nat) : Option RunState :=
  if n = 0 then some .stopped else if n = 1 then some .starting else if n = 2 then some .running
  else if n = 3 then some .stopping else if n = 4 then some .tripped else none

/-- The pump mode of a code (Table 6-8). -/
def pumpModeOf (n : Nat) : Option PumpMode :=
  if n = 0 then some .ballast else if n = 1 then some .deballast else none

/-- The valve position of a code (Table 6-8). -/
def valvePosOf (n : Nat) : Option ValvePos :=
  if n = 0 then some .closed else if n = 1 then some .opened else if n = 2 then some .moving
  else if n = 3 then some .fault else none

/-- The control place of a code: 0 REMOTE, 1 LOCAL (Table 6-8). -/
def controlOf (n : Nat) : Option Bool := if n = 0 then some false else if n = 1 then some true else none

/-- The belt state of a code (Table 6-12). -/
def beltOf (n : Nat) : Option Belt :=
  if n = 0 then some .running else if n = 1 then some .stopped else if n = 2 then some .paused else none

/-- The order type of a code (Table 6-9). -/
def orderTypeOf (n : Nat) : Option OrderType :=
  if n = 1 then some .pumpStart else if n = 2 then some .pumpStop else if n = 3 then some .pumpSpeed
  else if n = 4 then some .valveOpen else if n = 5 then some .valveClose else none

/-- Whether an order type is for a pump (R133). -/
def OrderType.forPump : OrderType → Bool
  | .pumpStart => true | .pumpStop => true | .pumpSpeed => true
  | _ => false

/-- The STATE a payload reports for a station of a kind, if its type and ranges are right (R119). -/
def readState (isPump : Bool) (p : List Byte) : Option LastState :=
  if isPump then
    if fieldAt p 0 1 = 0 ∧ fieldAt p 3 1 ≤ 100 ∧ fieldAt p 4 2 ≤ 6000 then
      match runStateOf (fieldAt p 1 1), pumpModeOf (fieldAt p 2 1), controlOf (fieldAt p 6 1) with
      | some r, some m, some c => some (.pump r m (fieldAt p 3 1) (fieldAt p 4 2) c)
      | _, _, _ => none
    else none
  else
    if fieldAt p 0 1 = 1 ∧ fieldAt p 2 1 ≤ 100 then
      match valvePosOf (fieldAt p 1 1), controlOf (fieldAt p 3 1) with
      | some v, some c => some (.valve v (fieldAt p 2 1) c)
      | _, _ => none
    else none

/-! ### Coding of results (R185) and report fields (R155) -/

/-- The code of an absent signed 4-byte field (R155, R185). -/
def absentCode : Int := -2147483648

/-- A figure of a reply as a signed 4-byte field (R185). What the field carries of a figure beyond its range the
manual does not say: a free value (DESIGN CHOICE, notes/assumptions/58.md). -/
def encFigure (x : Int) : List Byte :=
  if -2147483648 ≤ x ∧ x ≤ 2147483647 then encS4 x else enc4 (Config.wideFigure x).toNat

/-- A field that may be absent: a signed 4-byte integer (R185). -/
def encOpt (x : Option Int) : List Byte := encFigure (x.getD absentCode)

/-- A flag (R185). -/
def encFlag (b : Bool) : List Byte := enc1 (if b then 1 else 0)

/-- A time that may be absent (R185). -/
def encTime (t : Option Nat) : List Byte := enc4 (t.getD 4294967295)

/-- A cumulative tonnage as two fields, high part first (R155). -/
def cumFields (c : Option Nat) : List Int :=
  match c with
  | some n => [((n / 1000000000 : Nat) : Int), ((n % 1000000000 : Nat) : Int)]
  | none => [absentCode, absentCode]

/-- A cumulative tonnage in a payload (R185). -/
def encCum (c : Option Nat) : List Byte := (cumFields c).flatMap encS4

/-- A quantity as a body field, saturating at ±2,147,483,647 (R155). -/
def bodyQuantity (x : Int) : Int := clampInt (-2147483647) 2147483647 x

/-- A body field that may be absent (R155). -/
def bodyOpt (x : Option Int) : Int := match x with | some v => bodyQuantity v | none => absentCode

/-- A byte list cut into pieces of `n` bytes, at least one piece; `fuel` bounds the number of pieces. -/
def chunks {α : Type} (n : Nat) : Nat → List α → List (List α)
  | 0, l => [l]
  | fuel + 1, l => if l.length ≤ n then [l] else l.take n :: chunks n fuel (l.drop n)

/-- The payload of the part's PAUSE (Table 6-12). -/
def pausePayload (loader : Nat) (rs : ReasonSet) (grace : Option Nat) : List Byte :=
  enc1 loader ++ enc2 rs.toNat ++ enc4 (grace.getD 4294967295)

end Sys2Proof.Machine
end

