-- ==== Sys2Proof/Machine/Passage.lean ====
section
/-! DEFINITION. The output queues (R110 to R112), the telegrams the part originates (R108), ALERTs and
advisories (R180, R181). Everything here changes the field `out` of the state and nothing else. -/

namespace Sys2Proof.Machine

/-! ### One queue (R110, R111) -/

/-- The slots of a port's output queue (Table 6-1). -/
def portCapacity : Port → Nat
  | .console => 32 | .field => 32 | .shore => 16

/-- The code of a port (R177). -/
def portCode : Port → Nat
  | .console => 0 | .field => 1 | .shore => 2

/-- A telegram enters behind every queued telegram of its own and of lower-numbered classes, and before
every one of a higher-numbered class (R110). -/
def insertByClass (e : QEntry) : List QEntry → List QEntry
  | [] => [e]
  | x :: xs => if x.cls ≤ e.cls then x :: insertByClass e xs else e :: x :: xs

/-- The newest queued telegram of a class, and the queue without it (R110). -/
def takeNewest (c : Fin 4) : List QEntry → Option (QEntry × List QEntry)
  | [] => none
  | x :: xs =>
    match takeNewest c xs with
    | some (v, ys) => some (v, x :: ys)
    | none => if x.cls = c then some (x, xs) else none

/-- When the transmit side is free, the head of the queue leaves it and its transmission begins (R111). -/
def PortState.start (p : PortState) : PortState :=
  match p.sending, p.queue with
  | none, e :: q => { p with sending := some e, queue := q }
  | _, _ => p

/-- A drop or eviction counted at its port in its class (R112). -/
def PortState.countDrop (c : Fin 4) (p : PortState) : PortState :=
  { p with queueDrops := upd p.queueDrops c.val satSucc }

/-- What an offer did to its port: whether it succeeded, and the telegram it lost, if any. -/
structure Offered where
  port : PortState
  ok : Bool
  lost : Option QEntry
  deriving DecidableEq, Repr

/-- An offer of a telegram to a port's queue (R110): it enters by class; at a full queue a class-2 or
class-3 telegram is dropped, and a class-0 or class-1 telegram evicts the newest of class 3, else of
class 2, else is dropped. -/
def PortState.offer (capacity : Nat) (e : QEntry) (p : PortState) : Offered :=
  if p.queue.length < capacity then
    { port := PortState.start { p with queue := insertByClass e p.queue }, ok := true, lost := none }
  else if 2 ≤ e.cls then { port := p.countDrop e.cls, ok := false, lost := some e }
  else
    match (takeNewest 3 p.queue).or (takeNewest 2 p.queue) with
    | some (v, q) =>
      { port := PortState.start (({ p with queue := insertByClass e q } : PortState).countDrop v.cls), ok := true
        lost := some v }
    | none => { port := p.countDrop e.cls, ok := false, lost := some e }

/-! ### The three ports -/

/-- The state of a port. -/
def Out.port (o : Out) : Port → PortState
  | .console => o.console
  | .field => o.field
  | .shore => o.shore

/-- The ports with one replaced. -/
def Out.setPort (o : Out) (p : Port) (x : PortState) : Out :=
  match p with
  | .console => { o with console := x }
  | .field => { o with field := x }
  | .shore => { o with shore := x }

/-- A lost telegram that is not an ALERT: the port and class its QUEUE_DROP advisory carries (R112). -/
structure Loss where
  port : Port
  cls : Fin 4
  deriving DecidableEq, Repr

/-- What follows from the telegram an offer lost: the QUEUE_DROP still to be counted, unless it is an
ALERT (R112), and a pending RESET that becomes due when it is the RESET's MREPLY (R198). -/
def Out.afterLoss (o : Out) (p : Port) (lost : Option QEntry) : Out × List Loss :=
  match lost with
  | none => (o, [])
  | some e =>
    ({ o with resetWait := if e.resetReply then .due else o.resetWait },
     if e.tel.kind = kindAlert then [] else [{ port := p, cls := e.cls }])

/-- One offer at one port (R110), with what it lost. -/
def Out.offer (o : Out) (p : Port) (e : QEntry) : Out × Bool × List Loss :=
  let r := (o.port p).offer (portCapacity p) e
  let a := (o.setPort p r.port).afterLoss p r.lost
  (a.1, r.ok, a.2)

/-- A telegram made by the part for all nodes, with the port's sequence counter, which advances (R108). -/
def Out.make (o : Out) (bank : ShipBank) (p : Port) (kind : Byte) (payload : List Byte) : Telegram × Out :=
  ({ dst := allNodes, src := bank.ownAddress, kind := kind, seq := (o.port p).seq, payload := payload },
   o.setPort p { o.port p with seq := (o.port p).seq + 1 })

/-! ### ALERTs and advisories -/

/-- What an ALERT carries (R181). -/
structure Alert where
  kindCode : Nat
  subject : Nat
  severity : Severity
  transition : Nat
  count : Nat
  deriving DecidableEq, Repr

/-- The transition codes of an ALERT (R181). -/
def transitionRaised : Nat := 0
/-- ACKNOWLEDGED (R181). -/
def transitionAcknowledged : Nat := 1
/-- CLEARED (R181). -/
def transitionCleared : Nat := 2

/-- The payload of an ALERT, coded as R185 gives. -/
def Alert.payload (a : Alert) (t : Stamp) : List Byte :=
  enc1 a.kindCode ++ enc1 a.subject ++ enc1 a.severity.code ++ enc1 a.transition ++ enc2 a.count
    ++ encFlag t.unset ++ enc4 t.sec

/-- One copy of an ALERT made for a port and offered at the class of ALERT (R181). -/
def Out.alertCopy (o : Out) (bank : ShipBank) (t : Stamp) (a : Alert) (p : Port) : Out × List Loss :=
  let m := o.make bank p kindAlert (a.payload t)
  let r := m.2.offer p { tel := m.1, cls := bank.classOf kindAlert, resetReply := false }
  (r.1, r.2.2)

/-- An ALERT made and offered to the console and the shore as the settings of its severity say (R181). -/
def Out.alertOnce (o : Out) (bank : ShipBank) (t : Stamp) (a : Alert) : Out × List Loss :=
  let c := if bank.alertConsole a.severity then o.alertCopy bank t a .console else (o, [])
  let h := if bank.alertShore a.severity then c.1.alertCopy bank t a .shore else (c.1, [])
  (h.1, c.2 ++ h.2)

/-- The code of an advisory (Table 10-5). -/
def Advisory.code (k : Advisory) : Nat := 64 + k.index

/-- An advisory's counter increased (R180). -/
def Out.count (o : Out) (k : Advisory) : Out := { o with advisories := upd o.advisories k.index satSucc }

/-- The ALERT of an advisory (R180). -/
def Advisory.alert (k : Advisory) (subject : Nat) : Alert :=
  { kindCode := k.code, subject := subject, severity := .advisory, transition := transitionRaised, count := 1 }

/-- The QUEUE_DROP advisories of lost telegrams, each with its ALERT, and those of the telegrams that these
ALERTs lose in turn, in order (R112, the worked example of chapter 6). Every telegram lost on the way
leaves a queue and is not an ALERT, so the fuel given by `dropFuel` is enough. -/
def Out.drops (bank : ShipBank) (t : Stamp) : Nat → List Loss → Out → Out
  | 0, _, o => o
  | _ + 1, [], o => o
  | n + 1, l :: ls, o =>
    let r := (o.count .queueDrop).alertOnce bank t (Advisory.queueDrop.alert (4 * portCode l.port + l.cls.val))
    Out.drops bank t n (ls ++ r.2) r.1

/-- The telegrams that can still be lost, and the losses already known. -/
def Out.dropFuel (o : Out) (ls : List Loss) : Nat :=
  ls.length + o.console.queue.length + o.field.queue.length + o.shore.queue.length

/-- The QUEUE_DROP advisories that a list of losses brings about. -/
def Out.settleDrops (bank : ShipBank) (t : Stamp) (r : Out × List Loss) : Out :=
  Out.drops bank t (r.1.dropFuel r.2) r.2 r.1

namespace State

/-- A telegram offered to a port's queue, with the QUEUE_DROP advisories that follow; answers whether the
offer succeeded (R110). -/
def offer (s : State) (p : Port) (e : QEntry) : State × Bool :=
  let r := s.out.offer p e
  ({ s with out := Out.settleDrops s.bank s.stamp (r.1, r.2.2) }, r.2.1)

/-- A telegram offered at the class its kind has in the active class table (R109); PAUSE and RESUME are
class 0 whatever the table gives. -/
def send (s : State) (p : Port) (t : Telegram) : State × Bool :=
  s.offer p
    { tel := t, cls := if t.kind = kindPause ∨ t.kind = kindResume then 0 else s.bank.classOf t.kind
      resetReply := false }

/-- A telegram the part originates for all nodes on a port (R108). -/
def originate (s : State) (p : Port) (kind : Byte) (payload : List Byte) : State :=
  let m := s.out.make s.bank p kind payload
  (({ s with out := m.2 } : State).send p m.1).1

/-- An ALERT made and offered as the escalation settings say (R181). -/
def alert (s : State) (a : Alert) : State :=
  { s with out := Out.settleDrops s.bank s.stamp (s.out.alertOnce s.bank s.stamp a) }

/-- An advisory event: its counter increases and its ALERT is sent if enabled (R180). -/
def advise (s : State) (k : Advisory) (subject : Nat) : State :=
  ({ s with out := s.out.count k } : State).alert (k.alert subject)

/-- A counter of a port changed (R98). -/
def modPort (s : State) (p : Port) (f : PortState → PortState) : State :=
  { s with out := s.out.setPort p (f (s.out.port p)) }

/-- A synthetic ACK to a console (R108, Table 6-10): its sequence and order-sequence field are the
order's, it comes from the part's own address and is offered at the class of ACK. -/
def syntheticAck (s : State) (console seq station : Byte) (outcome reason : Nat) : State :=
  (s.send .console
    { dst := console, src := s.bank.ownAddress, kind := kindAck, seq := seq
      payload := [station, seq] ++ enc1 outcome ++ enc1 reason }).1

end State

/-- The outcome codes of the part's own ACKs (Table 6-10). -/
def outcomeHeld : Nat := 16
/-- REFUSED. -/
def outcomeRefused : Nat := 17
/-- SUPERSEDED. -/
def outcomeSuperseded : Nat := 18
/-- TIMEOUT. -/
def outcomeTimeout : Nat := 19
/-- WITHDRAWN. -/
def outcomeWithdrawn : Nat := 20
/-- QUEUE_FULL. -/
def outcomeQueueFull : Nat := 21

end Sys2Proof.Machine
end

