-- ==== Sys2Proof/Machine/Flags.lean ====
section
/-! DEFINITION. The fault table: raising, clearing and acknowledging (R178, R179), the alarm line (R184)
and the entry to SAFE by a raising (R173). Everything here changes `faults`, `out` and the mode, and
nothing else. -/

namespace Sys2Proof.Machine

/-! ### The table (Table 10-4, R179) -/

/-- The entries the fault table holds at most (R179). -/
def faultCapacity : Nat := 32

/-- Whether an entry is that of a kind and subject. -/
def FaultEntry.isFor (e : FaultEntry) (k : FaultKind) (subject : Nat) : Bool := e.kind = k && e.subject = subject

/-- The entry of a kind and subject, if the table holds one. -/
def Faults.entry (f : Faults) (k : FaultKind) (subject : Nat) : Option FaultEntry :=
  f.entries.find? fun e => e.isFor k subject

/-- The mark of a kind and subject, if it is set. -/
def Faults.mark (f : Faults) (k : FaultKind) (subject : Nat) : Option FaultMark :=
  f.marks.find? fun m => m.kind = k && m.subject = subject

/-- The entry of a kind and subject changed, in place. -/
def Faults.mapEntry (f : Faults) (k : FaultKind) (subject : Nat) (g : FaultEntry → FaultEntry) : Faults :=
  { f with entries := f.entries.map fun e => if e.isFor k subject then g e else e }

/-- The entry of a kind and subject removed. -/
def Faults.removeEntry (f : Faults) (k : FaultKind) (subject : Nat) : Faults :=
  { f with entries := f.entries.filter fun e => !e.isFor k subject }

/-- The mark of a kind and subject cleared. -/
def Faults.removeMark (f : Faults) (k : FaultKind) (subject : Nat) : Faults :=
  { f with marks := f.marks.filter fun m => !(m.kind = k && m.subject = subject) }

/-- The mark of a kind and subject set, at the end of the order of raising; there is one mark per kind
and subject (R179). -/
def Faults.addMark (f : Faults) (k : FaultKind) (subject : Nat) (t : Stamp) (waiting : Bool) : Faults :=
  if f.active k subject then f
  else { f with marks := f.marks ++ [{ kind := k, subject := subject, raised := t, waiting := waiting }] }

/-- A list without its first element that satisfies a test. -/
def removeFirst {α : Type} (p : α → Bool) : List α → List α
  | [] => []
  | x :: xs => if p x then xs else x :: removeFirst p xs

/-- A place for a new entry: free, or made by removing the oldest CLEARED_UNACK entry; none when the table
is full of active entries (R179). -/
def Faults.makeRoom (f : Faults) : Option Faults :=
  if f.entries.length < faultCapacity then some f
  else if f.entries.any fun e => e.state = .clearedUnack then
    some { f with entries := removeFirst (fun e => e.state = .clearedUnack) f.entries }
  else none

/-- An entry added at the tail of the table. -/
def Faults.addEntry (f : Faults) (e : FaultEntry) : Faults := { f with entries := f.entries ++ [e] }

/-- The mark raised earliest among those that wait takes a freed place at the tail, with the time and flag of
its raising (R179; DESIGN CHOICE, notes/assumptions/47.md). -/
def Faults.fillPlace (f : Faults) : Faults :=
  match f.marks.find? fun m => m.waiting with
  | none => f
  | some m =>
    { f with
      entries := f.entries ++
        [{ kind := m.kind, subject := m.subject, state := .activeUnack, first := m.raised, last := m.raised, count := 1 }]
      marks := f.marks.map fun x => if x.kind = m.kind && x.subject = m.subject then { x with waiting := false } else x }

/-- An entry raised again from CLEARED_UNACK (Table 10-4). -/
def FaultEntry.raiseAgain (e : FaultEntry) (t : Stamp) (st : FaultState) : FaultEntry :=
  { e with state := st, last := t, count := satSucc e.count }

/-- What a raising does to the table (Table 10-4, R179): the new table and, if it is a raising at all, the
raise count its ALERT RAISED carries, 1 for a fault that finds no entry (DESIGN CHOICE,
notes/assumptions/48.md). -/
def Faults.raise (f : Faults) (k : FaultKind) (subject : Nat) (t : Stamp) : Option (Faults × Nat) :=
  let st : FaultState := if k.ackCleared then .clearedUnack else .activeUnack
  let marked := fun (g : Faults) (waiting : Bool) => if k.ackCleared then g else g.addMark k subject t waiting
  match f.entry k subject with
  | some e =>
    if e.state = .clearedUnack then
      some (marked (f.mapEntry k subject fun e => e.raiseAgain t st) false, satSucc e.count)
    else none
  | none =>
    if (f.mark k subject).isSome then none
    else
      match f.makeRoom with
      | some g =>
        some (marked (g.addEntry { kind := k, subject := subject, state := st, first := t, last := t, count := 1 }) false, 1)
      | none => some (marked f true, 1)

/-- What a clearing does to the table (Table 10-4, R179): the new table and, if anything was cleared, the
raise count its ALERT CLEARED carries, 1 for a mark that waited (DESIGN CHOICE, notes/assumptions/48.md). -/
def Faults.clear (f : Faults) (k : FaultKind) (subject : Nat) : Option (Faults × Nat) :=
  let g := f.removeMark k subject
  match f.entry k subject with
  | some e =>
    match e.state with
    | .activeUnack => some (g.mapEntry k subject fun e => { e with state := .clearedUnack }, e.count)
    | .activeAck => some ((g.removeEntry k subject).fillPlace, e.count)
    | .clearedUnack => none
  | none => if (f.mark k subject).isSome then some (g, 1) else none

/-- What an acknowledgement of an entry does to the table (Table 10-4, R179): the new table and, if the
entry changed, the raise count its ALERT ACKNOWLEDGED carries. -/
def Faults.acknowledge (f : Faults) (k : FaultKind) (subject : Nat) : Option (Faults × Nat) :=
  match f.entry k subject with
  | some e =>
    match e.state with
    | .activeUnack => some (f.mapEntry k subject fun e => { e with state := .activeAck }, e.count)
    | .activeAck => none
    | .clearedUnack => some ((f.removeEntry k subject).fillPlace, e.count)
  | none => none

/-! ### The alarm line (R184) -/

/-- The state the alarm line takes (R184). -/
def alarmOf (f : Faults) (latch alarmDegraded : Bool) : Alarm :=
  if latch || f.entries.any (fun e => e.kind.severity = .critical)
      || f.marks.any (fun m => m.waiting && m.kind.severity = .critical) then .steady
  else if alarmDegraded && f.entries.any (fun e => e.kind.severity = .degraded && e.state != .activeAck) then .pulsing
  else .clear

/-- The alarm line judged afresh; an entry to PULSING begins with the output on, for 1 s (R184). -/
def Faults.judgeAlarm (f : Faults) (latch alarmDegraded : Bool) (now : Nat) : Faults :=
  let a := alarmOf f latch alarmDegraded
  if a = .pulsing ∧ f.alarm ≠ .pulsing then { f with alarm := a, pulseOn := true, pulseAt := now + 1 }
  else { f with alarm := a }

/-! ### On the state -/

/-- Whether the raising of a fault takes the part into SAFE (R173). -/
def escalates (b : ShipBank) : FaultKind → Bool
  | .stressLimit => b.safeStress
  | .overpour => b.safeOverpour
  | .conditionInvalid => true
  | .tableFault => true
  | _ => false

namespace State

/-- The alarm line judged afresh on the present table, latch and settings (R184). -/
def judgeAlarm (s : State) : State :=
  { s with faults := s.faults.judgeAlarm s.sys.latch s.bank.alarmDegraded s.now }

/-- The entry to SAFE by a raising (R173): only from STANDBY or LOADING; the session flag is kept. -/
def enterSafeOn (s : State) (k : FaultKind) : State :=
  if escalates s.bank k ∧ (s.sys.mode = .standby ∨ s.sys.mode = .loading) then s.setMode .safe else s

/-- A fault change made: the new table, its ALERT (R181), the alarm line. -/
def withFaults (s : State) (f : Faults) (k : FaultKind) (subject transition count : Nat) : State :=
  (({ s with faults := f } : State).alert
    { kindCode := k.code, subject := subject, severity := k.severity, transition := transition, count := count }).judgeAlarm

/-- A fault raised (R178, R179, R173). A raising that leaves an active entry as it stands, or whose mark
already waits, changes nothing. -/
def raiseFault (s : State) (k : FaultKind) (subject : Nat) : State :=
  match s.faults.raise k subject s.stamp with
  | none => s
  | some (f, n) => (s.withFaults f k subject transitionRaised n).enterSafeOn k

/-- A fault cleared (R178, R179). Clearing a fault that is not active changes nothing. -/
def clearFault (s : State) (k : FaultKind) (subject : Nat) : State :=
  match s.faults.clear k subject with
  | none => s
  | some (f, n) => s.withFaults f k subject transitionCleared n

/-- A fault raised or cleared by a judgement: raised when `up`, cleared when `down`, else left as it is. -/
def judgeFault (s : State) (k : FaultKind) (subject : Nat) (up down : Bool) : State :=
  if up then s.raiseFault k subject else if down then s.clearFault k subject else s

/-- Every TABLE_FAULT cleared (R175), in the order of the table codes (DESIGN CHOICE, notes/assumptions/53.md). -/
def clearTableFaults (s : State) : State :=
  TableCode.shipTables.foldl (fun s c => s.clearFault .tableFault c.code) s

end State

end Sys2Proof.Machine
end

