-- ==== Sys2Proof/Machine/Reporting.lean ====
section
/-! DEFINITION. The report store (chapter 9): making a record, its encoding, its emission, and the bodies
of the kinds whose figures come whole from one block. -/

namespace Sys2Proof.Machine

/-- The records the store holds at most (R154). -/
def reportCapacity : Nat := 96

/-- The record number after a number; 1 follows 65535 (R154). -/
def nextNumber (n : Nat) : Nat := if n < 65535 then n + 1 else 1

/-- The segment count: ceil(n / 11) for n body fields, and at least one (R115, R154). -/
def ReportRec.segments (r : ReportRec) : Nat := max 1 ((r.body.length + 10) / 11)

/-- The flags byte of a record: bit 0 TIME_UNSET, bit 1 PARTIAL, bit 2 GAUGE_LOST_DURING (Table 6-13). -/
def ReportRec.flags (r : ReportRec) : Nat :=
  (if r.time.unset then 1 else 0) + (if r.isPartial then 2 else 0) + (if r.gaugeLost then 4 else 0)

/-- The REPORT payload of segment `k`, counted from 1 (Table 6-13, R155). -/
def ReportRec.segment (r : ReportRec) (k : Nat) : List Byte :=
  enc2 r.number ++ enc1 r.kind.code ++ enc1 r.flags ++ enc1 k ++ enc1 r.segments ++ enc4 r.time.sec
    ++ ((r.body.drop (11 * (k - 1))).take 11).flatMap encS4

/-- The store with a record added, the oldest removed to make room (R154). -/
def Reports.add (s : Reports) (r : ReportRec) : Reports :=
  { s with
    records := (if s.records.length < reportCapacity then s.records else s.records.tail) ++ [r]
    next := nextNumber s.next
    dropped := if s.records.length < reportCapacity then s.dropped else satSucc s.dropped }

/-- Whether a record kind is in a shore report mask: bit k - 1 for kind k (R115). -/
def maskHas (mask : Byte) (k : RecordKind) : Bool := mask.getLsbD (k.code - 1)

namespace State

/-- Every segment of a record offered to a port, in segment order (R156, R157). -/
def emitTo (s : State) (p : Port) (r : ReportRec) : State :=
  forEach (List.range r.segments) (fun k s => s.originate p kindReport (r.segment (k + 1))) s

/-- A record emitted to the console and, if its kind is in the session mask, to the shore (R156, R157). -/
def emit (s : State) (r : ReportRec) : State :=
  let c := s.emitTo .console r
  if maskHas s.reports.mask r.kind then c.emitTo .shore r else c

/-- The record an account becomes: the next number, the present time, the body (R154). -/
def recordOf (s : State) (kind : RecordKind) (isPartial gaugeLost : Bool) (body : List Int) : ReportRec :=
  { number := s.reports.next, kind := kind, time := s.stamp, isPartial := isPartial, gaugeLost := gaugeLost, body := body }

/-- A record made from a handed-over account: numbered, stored and emitted in one event (R154). -/
def makeRecord (s : State) (kind : RecordKind) (isPartial gaugeLost : Bool) (body : List Int) : State :=
  let r := s.recordOf kind isPartial gaugeLost body
  ({ s with reports := s.reports.add r } : State).emit r

/-- A time on the seconds count as a body field, in clock seconds with the offset in force (R155, R187). -/
def bodyTime (s : State) (t : Nat) : Int := bodyQuantity (s.clockSeconds t)

/-- A CONDITION record made when the published record is VALID; answers whether it was made (R163). -/
def makeCondition (s : State) : State × Bool :=
  match s.engine.published with
  | .valid _ f =>
    (s.makeRecord .condition false false
      ([f.tm, f.trim, f.fwd, f.aft, f.disp, f.cargo, f.ballast, f.peak.value, (f.peak.station : Int),
        (f.peak.quantity.code : Int)].map bodyQuantity ++ [bodyOpt f.lag]), true)
  | _ => (s, false)

/-- The figures Δ, T_fwd and T_aft of the published record, absent unless it is VALID (R158, R159). -/
def publishedDrafts (s : State) : List Int :=
  match s.engine.published with
  | .valid _ f => [bodyQuantity f.disp, bodyQuantity f.fwd, bodyQuantity f.aft]
  | _ => [absentCode, absentCode, absentCode]

/-- The condition timer's deadline for an interval in minutes, from now (R163). -/
def conditionDeadline (s : State) (interval : Nat) : Option Nat :=
  if 1 ≤ interval ∧ interval ≤ 60 then some (s.now + 60 * interval) else none

/-- The session mask and interval latched at OPEN_SESSION (R157, R163). -/
def latchReports (s : State) : State :=
  { s with reports := { s.reports with mask := s.plan.reportMask, interval := s.plan.reportInterval } }

/-- The SESSION_OPEN record (R158): session number, C0, B0, the published figures, the start cause of a
first session, the generations. The first-session flag is cleared after it. -/
def makeSessionOpen (s : State) (number : Nat) (c0 b0 : Int) : State :=
  let r := s.makeRecord .sessionOpen false false
    ([bodyQuantity number, bodyQuantity c0, bodyQuantity b0] ++ s.publishedDrafts
      ++ [if s.reports.firstSession then bodyQuantity s.reports.startCause.code else absentCode,
          bodyQuantity s.mgmt.ship.gen, bodyQuantity s.mgmt.plan.gen])
  { r with reports := { r.reports with firstSession := false } }

/-- The condition timer started by OPEN_SESSION (R163). -/
def startConditionTimer (s : State) : State :=
  { s with reports := { s.reports with conditionAt := s.conditionDeadline s.reports.interval } }

/-- The fields of a loader in the SESSION_CLOSE body (Table 9-5). -/
def loaderFields (s : State) (l : Nat) : List Int :=
  let r := s.loader l
  if r.baselineSeen then
    cumFields (some r.baseline) ++ cumFields (some r.lastCum)
      ++ [bodyQuantity r.sessionTonnage, bodyQuantity r.unattributed]
      ++ [match r.lastPour with | some t => s.bodyTime t | none => absentCode]
  else [absentCode, absentCode, absentCode, absentCode, 0, 0, absentCode]

/-- The fields of a hold in the SESSION_CLOSE body (Table 9-5). -/
def holdFields (s : State) (h : Nat) : List Int :=
  let r := s.hold h
  [bodyQuantity r.opening, bodyQuantity r.attributed, bodyQuantity r.mass]

/-- The SESSION_CLOSE record, from the figures of the shore line unit (R30), the plan tracker (R74) and
the pacing block (R93) as they stand (R159). -/
def makeSessionClose (s : State) : State :=
  s.makeRecord .sessionClose false false
    ([bodyOpt (s.sys.sessionNumber.map Int.ofNat), bodyQuantity s.totalCargo, bodyQuantity s.totalBallast,
      bodyQuantity s.shore.unattributed, bodyQuantity s.tracker.stepsDone, bodyQuantity s.pacing.episodesClosed,
      bodyQuantity s.pacing.overpourEpisodes]
      ++ s.publishedDrafts ++ [if s.clock.timeSet then 1 else 0]
      ++ (List.range 4).flatMap s.loaderFields ++ (List.range 10).flatMap s.holdFields)

/-- The report store after the SESSION_CLOSE record: mask empty, interval 0, condition timer stopped
(R159). -/
def closeReports (s : State) : State :=
  { s with reports := { s.reports with mask := 0, interval := 0, conditionAt := none } }

/-- The mask and interval taken afresh at a plan-group switch during a session; the condition timer
restarts, or stops, only if the interval has changed (R157, R163, R166). -/
def relatchReports (s : State) : State :=
  let n := s.plan.reportInterval
  { s with reports :=
      { s.reports with
        mask := s.plan.reportMask
        interval := n
        conditionAt := if n = s.reports.interval then s.reports.conditionAt else s.conditionDeadline n } }

end State

end Sys2Proof.Machine
end

