-- ==== Sys2Proof/Machine/Hull.lean ====
section
/-! DEFINITION. The arithmetic of an evaluation, on its snapshot alone (R42 to R49): displacement, drafts,
shear force, bending moment, guards, utilisation, peak and band; and the interpolation that the tank
levels share (R10, R43). -/

namespace Sys2Proof.Machine

/-- Linear interpolation past the point (a, v): on the first interval that reaches `x`, rounding half away
from zero; beyond the last point, that point's figure (R10, R43). -/
def interpolateFrom (a v : Int) : List (Int × Int) → Int → Int
  | [], _ => v
  | (b, w) :: rest, x => if x ≤ b then v + roundDiv ((x - a) * (w - v)) (b - a) else interpolateFrom b w rest x

/-- Linear interpolation in a list of points, clamped to the figures of its two ends (R10, R43). -/
def interpolate : List (Int × Int) → Int → Int
  | [], x => Config.emptyTableFigure x
  | (a, v) :: rest, x => if x ≤ a then v else interpolateFrom a v rest x

/-- Whether `x` lies above the last point of a list (R10, R43). -/
def aboveLast (l : List (Int × Int)) (x : Int) : Bool :=
  match l.getLast? with
  | some (a, _) => decide (a < x)
  | none => false

/-- Whether `x` lies below the first point of a list (R43). -/
def belowFirst (l : List (Int × Int)) (x : Int) : Bool :=
  match l.head? with
  | some (a, _) => decide (x < a)
  | none => false

/-- A sum over the items 0..47. -/
def sumItems (f : Nat → Int) : Int := ((List.range 48).map f).sum

/-- A sum over the tank items 0..31. -/
def sumTanks (f : Nat → Int) : Int := ((List.range 32).map f).sum

namespace Snapshot

/-- The mass of an item in the snapshot. -/
def mass (n : Snapshot) (i : Nat) : Int := nth n.masses i 0

/-- The uncertainty of a tank in the snapshot. -/
def unc (n : Snapshot) (t : Nat) : Int := nth n.uncertainty t 0

/-- Stage 1: the displacement Δ (R42). -/
def disp (n : Snapshot) : Int := n.tables.lightshipMass + sumItems n.mass

/-- Stage 1: the moment sum (R42). -/
def momentSum (n : Snapshot) : Int :=
  n.tables.lightshipMass * n.tables.lightshipLcg + sumItems fun i => n.mass i * n.tables.itemLcg i

/-- Stage 1: the LCG; 0 for a displacement of 0 (R42). -/
def lcg (n : Snapshot) : Int := if n.disp = 0 then 0 else roundDiv n.momentSum n.disp

/-- Stage 2: one of the HYDRO figures, by interpolation on displacement (R43). -/
def hydroFigure (n : Snapshot) (f : HydroRow → Int) : Int :=
  interpolate (n.tables.hydroRows.map fun r => (r.disp, f r)) n.disp

/-- Stage 2: whether the displacement lies outside the HYDRO table (R43). A displacement of 0 that is the first row's
lies inside (DESIGN CHOICE, notes/assumptions/55.md). -/
def outsideHydro (n : Snapshot) : Bool :=
  let l := n.tables.hydroRows.map fun r => (r.disp, r.tm)
  belowFirst l n.disp || aboveLast l n.disp

/-- Stage 2: the mean draft (R43). -/
def tm (n : Snapshot) : Int := n.hydroFigure HydroRow.tm
/-- Stage 2: the LCB (R43). -/
def lcb (n : Snapshot) : Int := n.hydroFigure HydroRow.lcb
/-- Stage 2: the MCT (R43). -/
def mct (n : Snapshot) : Int := n.hydroFigure HydroRow.mct

/-- Stage 3: the trim before its clamp; 0 for an MCT of 0 or below (R44). -/
def rawTrim (n : Snapshot) : Int := if n.mct ≤ 0 then 0 else roundDiv (n.disp * (n.lcb - n.lcg)) (10 * n.mct)

/-- Stage 3: the trim, clamped to -9999..+9999 (R44). -/
def trim (n : Snapshot) : Int := clampInt (-9999) 9999 n.rawTrim

/-- The hydro flag (R43, R44, R50). -/
def hydro (n : Snapshot) : Bool := n.outsideHydro || decide (n.mct ≤ 0) || n.trim != n.rawTrim

/-- Stage 4: the half-trim, truncated toward zero (R45). -/
def halfTrim (n : Snapshot) : Int := Int.tdiv n.trim 2

/-- Stage 4: the aft draft (R45). -/
def aft (n : Snapshot) : Int := n.tm + n.halfTrim

/-- Stage 4: the forward draft (R45). -/
def fwd (n : Snapshot) : Int := n.tm - (n.trim - n.halfTrim)

/-- Stage 5: the shear force at a station (R46). -/
def sf (n : Snapshot) (st : Nat) : Int :=
  roundDiv (n.tables.sf0 st * 32768 + sumItems fun i => n.mass i * n.tables.shearFactor i st) 32768

/-- Stage 5: the shear guard (R46). -/
def gsf (n : Snapshot) (st : Nat) : Int :=
  ceilDiv (sumTanks fun t => n.unc t * absInt (n.tables.shearFactor t st)) 32768

/-- Stage 6: the bending moment at a station (R47). -/
def bm (n : Snapshot) (st : Nat) : Int :=
  roundDiv (n.tables.bm0 st * 1000 + sumItems fun i => n.mass i * n.tables.momentLever i st) 1000

/-- Stage 6: the moment guard (R47). -/
def gbm (n : Snapshot) (st : Nat) : Int :=
  ceilDiv (sumTanks fun t => n.unc t * absInt (n.tables.momentLever t st)) 1000

end Snapshot

/-- A utilisation figure: ceil(1000 × magnitude / limit), in permille, saturating at 2000 (R48). -/
def utilisation (magnitude limit : Int) : Int := min 2000 (ceilDiv (1000 * magnitude) limit)

/-- The shear limit by the sign of the nominal value (R48). -/
def shearLimit (b : ShipBank) (st : Nat) (sf : Int) : Int := if 0 ≤ sf then b.shearLimitPos st else b.shearLimitNeg st

/-- The moment limit by the sign of the nominal value (R48). -/
def momentLimit (b : ShipBank) (st : Nat) (bm : Int) : Int := if 0 ≤ bm then b.hoggingLimit st else b.saggingLimit st

/-- Stages 5 to 7 at one fitted check station (R46, R47, R48). -/
def Snapshot.stationFig (n : Snapshot) (st : Nat) : StationFig :=
  let sf := n.sf st
  let gsf := n.gsf st
  let bm := n.bm st
  let gbm := n.gbm st
  { sf := sf, gsf := gsf, bm := bm, gbm := gbm
    uShear := utilisation (absInt sf) (shearLimit n.tables st sf)
    uShearGuarded := utilisation (absInt sf + gsf) (shearLimit n.tables st sf)
    uMoment := utilisation (absInt bm) (momentLimit n.tables st bm)
    uMomentGuarded := utilisation (absInt bm + gbm) (momentLimit n.tables st bm) }

/-- The figures of every fitted check station, by index. -/
def Snapshot.stationFigs (n : Snapshot) : List StationFig := n.tables.fittedStations.map n.stationFig

/-- A peak replaced by a greater one only, so that the first pair of a largest value is kept (R49). -/
def Peak.raise (p q : Peak) : Peak := if p.value < q.value then q else p

/-- The peak over the station figures from station `st` on: lowest station first, shear before moment
(R49). -/
def peakFrom : Peak → Nat → List StationFig → Peak
  | p, _, [] => p
  | p, st, f :: fs =>
    peakFrom ((p.raise { value := f.uShearGuarded, station := st, quantity := .shear }).raise
      { value := f.uMomentGuarded, station := st, quantity := .moment }) (st + 1) fs

/-- The peak: the largest guarded utilisation over all fitted stations and both quantities (R49). With
every figure 0 it is 0 at station 0, SHEAR. -/
def peakOf (fs : List StationFig) : Peak := peakFrom { value := 0, station := 0, quantity := .shear } 0 fs

/-- The band of a peak under the watermarks of the snapshot (R49). -/
def bandOf (m : Marks) (peak : Int) : Band :=
  if 1000 ≤ peak then .limit else if m.pause ≤ peak then .pause else if m.caution ≤ peak then .caution else .normal

/-- Total cargo of the snapshot: the hold masses, items 32..41 (Table 3-3). -/
def Snapshot.cargo (n : Snapshot) : Int := ((List.range 10).map fun h => n.mass (32 + h)).sum

/-- Total ballast of the snapshot: the tank masses, items 0..31 (Table 3-3). -/
def Snapshot.ballast (n : Snapshot) : Int := sumTanks n.mass

/-- The figures of a VALID record, from the snapshot, the disagreement runs and the lag (R42 to R49,
Table 3-3). -/
def Snapshot.figures (n : Snapshot) (overRun withinRun : Nat) (used : Bool) (lag : Option Int) : Figures :=
  let fs := n.stationFigs
  let peak := peakOf fs
  { disp := n.disp, lcg := n.lcg, tm := n.tm, lcb := n.lcb, mct := n.mct, trim := n.trim, fwd := n.fwd, aft := n.aft
    hydro := n.hydro, stations := fs, peak := peak, band := bandOf n.marks peak.value, cargo := n.cargo
    ballast := n.ballast, uncertainty := sumTanks n.unc, overRun := overRun, withinRun := withinRun
    readingUsed := used, lag := lag }

end Sys2Proof.Machine
end

