-- ==== Sys2Proof/Machine/Planning.lean ====
section
/-! DEFINITION. The plan tracker's figures (chapter 4) that no other block's action is part of: planned
ballast and lag, current assignment, step peak, paused seconds. -/

namespace Sys2Proof.Machine

/-- The planned ballast for a total cargo on a step's line (R70). -/
def plannedOn (a : ActiveStep) (target ballast c : Int) : Int :=
  a.bStart + roundDiv ((clampInt a.cStart target c - a.cStart) * (ballast - a.bStart)) (target - a.cStart)

namespace State

/-- The planned ballast for a total cargo under the cursor as it stands (R70): on the active step's line;
in COMPLETE the last step's target; none without a session. -/
def plannedBallast (s : State) (c : Int) : Option Int :=
  match s.tracker.tracking with
  | .noSession => none
  | .tracking a => some (plannedOn a (s.plan.slotCargo (a.k - 1)) (s.plan.slotBallast (a.k - 1)) c)
  | .complete => some (s.plan.slotBallast (s.plan.stepCount - 1))

/-- The current assignment of a loader: that of the active step, or in COMPLETE of the last step (R72). -/
def assignment (s : State) (l : Nat) : Option Nat :=
  match s.tracker.tracking with
  | .noSession => none
  | .tracking a => s.plan.slotAssign (a.k - 1) l
  | .complete => s.plan.slotAssign (s.plan.stepCount - 1) l

/-- The active step changed, in TRACKING. -/
def modStep (s : State) (f : ActiveStep → ActiveStep) : State :=
  match s.tracker.tracking with
  | .tracking a => s.setTracking (.tracking (f a))
  | _ => s

/-- The count of loaders not FREE left 0: paused-since is set to now (R67). -/
def tellPaused (s : State) : State := s.modStep fun a => { a with pausedSince := some s.now }

/-- The count of loaders not FREE returned to 0: the seconds since paused-since are added (R67). -/
def tellFree (s : State) : State :=
  s.modStep fun a =>
    match a.pausedSince with
    | some t => { a with pausedSeconds := a.pausedSeconds + (s.now - t), pausedSince := none }
    | none => a

/-- The step peak after a VALID, session-current publication (R67): it takes the published peak if it is
absent or lower. -/
def trackPeak (s : State) (p : Peak) : State :=
  s.modStep fun a =>
    match a.peak with
    | some q => if q.value < p.value then { a with peak := some p } else a
    | none => { a with peak := some p }

end State

end Sys2Proof.Machine
end

