-- ==== Sys2Proof/Machine/Pacing.lean ====
section
/-! DEFINITION. The pacing block (chapter 5): reason sets, episodes, PAUSE and RESUME, overpour,
confirmation, stress. An event's reason changes are made on the reason sets first; `State.actOn` then acts
once on each loader's net change (R78), from the sets as they stood before the event. -/

namespace Sys2Proof.Machine

/-- Whether a pause record is FREE. -/
def PauseRec.isFree (p : PauseRec) : Bool := p.state == .free

/-- The grace mark of a pause record, none while FREE or NONE. -/
def PauseRec.grace (p : PauseRec) : Option Nat := p.state.episode.bind Episode.grace

/-- A pause record's episode changed. -/
def PauseRec.mapEpisode (f : Episode → Episode) (p : PauseRec) : PauseRec := { p with state := p.state.mapEpisode f }

/-- The four loaders, in ascending index. -/
def loaders : List Nat := List.range 4

namespace State

/-- The reason set of each loader. -/
def reasonSets (s : State) (l : Nat) : ReasonSet := (s.pause l).reasons

/-- A reason added to a loader; the reasons other than SAFE only while a session is open (R77). -/
def addReason (s : State) (l : Nat) (r : Reason) : State :=
  if r = .safe ∨ s.sys.sessionOpen then s.modPause l fun p => { p with reasons := p.reasons.add r } else s

/-- A reason removed from a loader (R77). -/
def removeReason (s : State) (l : Nat) (r : Reason) : State :=
  s.modPause l fun p => { p with reasons := p.reasons.remove r }

/-- A reason added to every loader. -/
def addReasonAll (s : State) (r : Reason) : State := forEach loaders (fun l s => s.addReason l r) s

/-- A reason removed from every loader. -/
def removeReasonAll (s : State) (r : Reason) : State := forEach loaders (fun l s => s.removeReason l r) s

/-- A reason that follows a fault: added to every loader as the fault was raised, removed as it was
cleared, since the fault stood as `before` (R77). -/
def followFault (s : State) (r : Reason) (before after : Bool) : State :=
  if after && !before then s.addReasonAll r
  else if before && !after then s.removeReasonAll r
  else s

/-- SAFE added to every loader when the mode has become SAFE since it was `before` (R94). -/
def followSafe (s : State) (before : Mode) : State :=
  if s.sys.mode = .safe ∧ before ≠ .safe then s.addReasonAll .safe else s

/-! ### The protocol (R83 to R86, R90) -/

/-- A loader's last cumulative, or none before its baseline (R83). -/
def knownCumulative (s : State) (l : Nat) : Option Nat :=
  if (s.loader l).baselineSeen then some (s.loader l).lastCum else none

/-- A PAUSE carrying a loader's reason set and grace mark (R86). -/
def sendPause (s : State) (l : Nat) : State :=
  s.originate .shore kindPause (pausePayload l (s.pause l).reasons (s.pause l).grace)

/-- The confirm timer's deadline at entry to PAUSE_SENT, when a session is open (R88). -/
def confirmDeadline (s : State) : Option Nat :=
  if s.sys.sessionOpen then some (s.now + s.bank.confirmTimeout) else none

/-- The episode that opens now for a loader (R83). -/
def newEpisode (s : State) (l : Nat) : Episode where
  grace := (s.knownCumulative l).map fun c => c + s.plan.grace
  startTime := s.now
  union := (s.pause l).reasons
  startCum := s.knownCumulative l
  confirmed := none
  overpour := none

/-- An episode opens (R83); the plan tracker is told when the count of loaders not FREE leaves 0. -/
def openEpisode (s : State) (l : Nat) : State :=
  let ep := s.newEpisode l
  let timer := s.confirmDeadline
  let o := (s.modPause l fun p => { p with state := .pauseSent ep, timer := timer }).sendPause l
  if s.notFree = 0 then o.tellPaused else o

/-- A changed set that stays non-empty (R84). -/
def repeatPause (s : State) (l : Nat) : State :=
  (s.modPause l fun p => p.mapEpisode fun e => { e with union := e.union ||| p.reasons }).sendPause l

/-- The overpour figure of a PAUSE record: beyond the grace mark, or 0 (R91). -/
def Episode.overpourTonnage (e : Episode) : Int :=
  match e.overpour, e.grace with
  | some o, some g => (o : Int) - (g : Int)
  | _, _ => 0

/-- The record of a closing episode and the session counters, if a session is open (R91, R162). -/
def closeEpisode (s : State) (l : Nat) (e : Episode) : State :=
  if s.sys.sessionOpen then
    let r := s.makeRecord .pause false false
      ([bodyQuantity l, s.bodyTime e.startTime, s.bodyTime s.now, (e.confirmed.map s.bodyTime).getD absentCode,
          (e.union.toNat : Int)]
        ++ cumFields e.startCum ++ cumFields e.grace
        ++ [bodyOpt (e.startCum.map fun c => ((s.loader l).lastCum : Int) - (c : Int)),
            bodyQuantity (Episode.overpourTonnage e)])
    { r with pacing :=
        { r.pacing with
          episodesClosed := satSucc r.pacing.episodesClosed
          overpourEpisodes := if e.overpour.isSome then satSucc r.pacing.overpourEpisodes else r.pacing.overpourEpisodes } }
  else s

/-- A loader is released (R90); the plan tracker is told when no loader remains not FREE. -/
def release (s : State) (l : Nat) : State :=
  let a := s.originate .shore kindResume (enc1 l)
  let b := a.modPause l fun p => { p with state := .free, timer := none }
  let c := (b.clearFault .pauseUnconfirmed l).clearFault .overpour l
  let d := match (s.pause l).state.episode with
    | some e => c.closeEpisode l e
    | none => c
  if d.notFree = 0 then d.tellFree else d

/-- The action on one loader's net change (R78): `before` is its set before the event, `filled` says that
the event filled in its grace mark (R85). -/
def actLoader (s : State) (l : Nat) (before : ReasonSet) (filled : Bool) : State :=
  let after := (s.pause l).reasons
  if before = 0 then if after = 0 then s else s.openEpisode l
  else if after = 0 then s.release l
  else if before = after ∧ !filled then s
  else s.repeatPause l

/-- The actions on the net changes of one event, in ascending loader index (R78). -/
def actOn (s : State) (before : Nat → ReasonSet) (filled : Option Nat) : State :=
  forEach loaders (fun l s => s.actLoader l (before l) (filled == some l)) s

/-- One event whose only reason changes are those of `f`: the changes, then the actions (R78). -/
def pacingEvent (s : State) (f : State → State) : State := (f s).actOn s.reasonSets none

/-! ### A POUR at the pacing block (R85, R87, R89) -/

/-- Whether a baseline POUR fills in this loader's episode (R85). -/
def fillsGrace (s : State) (l : Nat) (baselineSet : Bool) : Bool :=
  baselineSet && !(s.pause l).isFree && (s.pause l).grace.isNone

/-- The grace mark and start cumulative filled in from the baseline (R85). -/
def fillGrace (s : State) (l : Nat) : State :=
  let c := (s.loader l).baseline
  let g := c + s.plan.grace
  s.modPause l fun p => p.mapEpisode fun e => { e with grace := some g, startCum := some c }

/-- The overpour test of a POUR (R89). -/
def judgeOverpour (s : State) (l : Nat) : State :=
  match (s.pause l).state.episode with
  | none => s
  | some e =>
    match e.grace with
    | none => s
    | some g =>
      let c := (s.loader l).lastCum
      if s.sys.sessionOpen ∧ g < c then
        let a := s.modPause l fun p => p.mapEpisode fun e => { e with overpour := some (max c (e.overpour.getD 0)) }
        if e.overpour.isNone then a.raiseFault .overpour l else a
      else s

/-- The belt state of a POUR applied to the loader's pause record (R87, step 4). -/
def applyBelt (s : State) (l : Nat) (b : Belt) : State :=
  let now := s.now
  let timer := s.confirmDeadline
  match (s.pause l).state, b with
  | .pauseSent e, .paused | .pauseSent e, .stopped =>
    (s.modPause l fun p =>
      { p with state := .paused { e with confirmed := e.confirmed.or (some now) }, timer := none }).clearFault
        .pauseUnconfirmed l
  | .paused e, .running => s.modPause l fun p => { p with state := .pauseSent e, timer := timer }
  | _, _ => s

/-- A POUR at the pacing block, after the plan tracker (R87); `before` are the sets before this POUR's
reason changes. -/
def pacePour (s : State) (before : Nat → ReasonSet) (l : Nat) (baselineSet : Bool) (b : Belt) : State :=
  let fills := s.fillsGrace l baselineSet
  let a := if fills then s.fillGrace l else s
  let c := (a.judgeOverpour l).followSafe s.sys.mode
  (c.actOn before (if fills then some l else none)).applyBelt l b

/-! ### Confirm timer (R88) -/

/-- Whether a loader's confirm timer has expired. -/
def confirmDue (s : State) (l : Nat) : Bool :=
  s.working && match (s.pause l).timer with
    | some d => decide (d ≤ s.now)
    | none => false

/-- The confirm timer's expiry (R88). -/
def confirmExpired (s : State) (l : Nat) : State :=
  (s.modPause l fun p => { p with timer := none }).raiseFault .pauseUnconfirmed l

/-! ### Sessions (R92, R93) -/

/-- The pacing block at OPEN_SESSION (R92). -/
def openPacing (s : State) : State :=
  let z : State := { s with pacing := { s.pacing with episodesClosed := 0, overpourEpisodes := 0 } }
  z.pacingEvent fun s =>
    let a := s.addReasonAll .awaitingCondition
    let b := if a.faults.active .shoreSilent (portCode .shore) then a.addReasonAll .shoreSilent else a
    if b.faults.active .draftLimit subjectNone then b.addReasonAll .draft else b

/-- The episode that opens at CLOSE_SESSION in SAFE (R93). -/
def safeEpisode (now : Nat) : Episode :=
  { grace := none, startTime := now, union := Reason.safe.single, startCum := none, confirmed := none, overpour := none }

/-- One loader at CLOSE_SESSION in SAFE (R93): the episode closes with its record and a new one opens. -/
def closeLoaderInSafe (s : State) (l : Nat) : State :=
  let others := (s.pause l).reasons != Reason.safe.single
  let now := s.now
  let a := match (s.pause l).state.episode with
    | some e => s.closeEpisode l e
    | none => s
  let b := a.modPause l fun p =>
    { p with reasons := Reason.safe.single, state := p.state.mapEpisode fun _ => safeEpisode now, timer := none }
  let c := (b.clearFault .pauseUnconfirmed l).clearFault .overpour l
  if others then c.sendPause l else c

/-- Every reason of every loader removed. -/
def clearReasons (s : State) : State := forEach loaders (fun l s => s.modPause l fun p => { p with reasons := 0 }) s

/-- The pacing block at CLOSE_SESSION, while the session is still open (R93). -/
def closePacing (s : State) : State :=
  if s.sys.mode = .safe then forEach loaders (fun l s => s.closeLoaderInSafe l) s
  else s.pacingEvent clearReasons

/-! ### Stress (R79 to R82) -/

/-- The hold a loader stands for (R79). -/
def standsFor (s : State) (l : Nat) : Option Nat :=
  if (s.loader l).belt = .running then (s.loader l).spout else s.assignment l

/-- The guarded figures of the pairs of one station at which a hold is adverse (R79). -/
def adverseAt (b : ShipBank) (h st : Nat) (f : StationFig) : List Int :=
  (if 0 < b.shearFactor (32 + h) st * f.sf then [f.uShearGuarded] else [])
    ++ (if 0 < b.momentLever (32 + h) st * f.bm then [f.uMomentGuarded] else [])

/-- The guarded figures of the pairs at which a loader is adverse in a record (R79). -/
def adverseFigures (s : State) (fs : List StationFig) (l : Nat) : List Int :=
  match s.standsFor l with
  | none => []
  | some h => fs.zipIdx.flatMap fun p => adverseAt s.bank h p.2 p.1

/-- The reason STRESS of one loader at a VALID, session-current publication (R80). -/
def judgeStress (s : State) (m : Marks) (f : Figures) (l : Nat) : State :=
  let us := s.adverseFigures f.stations l
  if f.band = .limit then s.addReason l .stress
  else if (s.pause l).reasons.has .stress then
    if us.all fun u => u < m.release then s.removeReason l .stress else s
  else if us.any fun u => m.pause ≤ u then s.addReason l .stress
  else s

/-- STRESS_BALLAST_DRIVEN at a VALID publication (R81). -/
def judgeBallastDriven (s : State) (m : Marks) (f : Figures) : State :=
  let adverse := loaders.any fun l => (s.adverseFigures f.stations l).any fun u => m.pause ≤ u
  s.judgeFault .stressBallastDriven subjectNone (decide (f.band = .pause) && !adverse)
    (decide (f.band = .normal) || decide (f.band = .caution))

/-- Steps 1 and 2 of R82, at a VALID and session-current publication. -/
def paceCurrent (s : State) (m : Marks) (f : Figures) : State :=
  forEach loaders (fun l s => s.judgeStress m f l) (s.removeReasonAll .awaitingCondition)

/-- The faults whose reasons every loader follows (Table 5-2), as they stand. -/
structure FollowedFaults where
  draft : Bool
  lag : Bool
  invalid : Bool
  deriving DecidableEq, Repr

/-- The followed faults as they stand. -/
def followed (s : State) : FollowedFaults where
  draft := s.faults.active .draftLimit subjectNone
  lag := s.faults.active .ballastLag subjectNone
  invalid := s.faults.active .conditionInvalid subjectNone

/-- Steps 3 and 4 of R82: the fault-driven reasons and SAFE, from the faults and mode before the
publication. -/
def paceFaults (s : State) (before : FollowedFaults) (mode : Mode) : State :=
  let a := s.followed
  ((((s.followFault .draft before.draft a.draft).followFault .ballastLag before.lag a.lag).followFault
    .conditionInvalid before.invalid a.invalid).followSafe mode)

/-- The pacing block in a publication event (R82): `figures` are those of a VALID record, `current` says
that it is session-current. -/
def pacePublication (s : State) (m : Marks) (figures : Option Figures) (current : Bool) (before : FollowedFaults)
    (mode : Mode) : State :=
  match figures with
  | some f =>
    let a := s.pacingEvent fun s => (if current then s.paceCurrent m f else s).paceFaults before mode
    a.judgeBallastDriven m f
  | none => s.pacingEvent fun s => s.paceFaults before mode

end State

end Sys2Proof.Machine
end

