-- ==== Sys2Proof/Machine/Tracking.lean ====
section
/-! DEFINITION. The plan tracker's actions (chapter 4): opening and closing, step advance and step
records, completion, off-plan test, rebase, lag faults. Reason changes are left to the caller's event
(`State.actOn`). -/

namespace Sys2Proof.Machine

/-- The paused seconds of a step at its completion (R67). -/
def ActiveStep.pausedAt (a : ActiveStep) (now : Nat) : Nat :=
  a.pausedSeconds + match a.pausedSince with
    | some t => now - t
    | none => 0

/-- A step that becomes ACTIVE now (R65, R66, R73). -/
def ActiveStep.fresh (k : Nat) (cStart bStart : Int) (now : Nat) (pausedSince : Option Nat) : ActiveStep :=
  { k := k, cStart := cStart, bStart := bStart, startTime := now, peak := none, pausedSeconds := 0
    pausedSince := pausedSince }

namespace State

/-- The cargo target T of step k of the active plan. -/
def targetOf (s : State) (k : Nat) : Int := s.plan.slotCargo (k - 1)

/-- The ballast target B of step k of the active plan. -/
def ballastOf (s : State) (k : Nat) : Int := s.plan.slotBallast (k - 1)

/-- The step record of the active step, and steps done, which counts on past 64 (R68, R160; DESIGN CHOICE,
notes/assumptions/44.md). -/
def recordStep (s : State) (a : ActiveStep) : State :=
  let r := s.makeRecord .step false false
    [bodyQuantity a.k, s.bodyTime s.now, bodyQuantity s.totalCargo, bodyQuantity s.totalBallast,
      bodyQuantity (s.totalBallast - s.ballastOf a.k), bodyOpt (a.peak.map Peak.value),
      bodyOpt (a.peak.map fun p => (p.station : Int)), bodyOpt (a.peak.map fun p => (p.quantity.code : Int)),
      bodyQuantity (a.pausedAt s.now)]
  { r with tracker := { r.tracker with stepsDone := r.tracker.stepsDone + 1 } }

/-- The plan is complete (R69). -/
def completePlan (s : State) : State := (s.setTracking .complete).addReasonAll .planComplete

/-- The next step becomes ACTIVE after step `a` (R66). -/
def nextStep (s : State) (a : ActiveStep) : State :=
  s.setTracking (.tracking
    (ActiveStep.fresh (a.k + 1) (s.targetOf a.k) (s.ballastOf a.k) s.now (a.pausedSince.map fun _ => s.now)))

/-- Step advance (R66): the fuel bounds the number of steps one POUR can complete. -/
def advanceFrom : Nat → State → State
  | 0, s => s
  | n + 1, s =>
    match s.tracker.tracking with
    | .tracking a =>
      if s.targetOf a.k ≤ s.totalCargo then
        if s.plan.stepCount ≤ a.k then (s.recordStep a).completePlan
        else advanceFrom n ((s.recordStep a).nextStep a)
      else s
    | _ => s

/-- Step advance on total cargo (R66). -/
def advance (s : State) : State := advanceFrom 65 s

/-- The off-plan flag of a loader set or cleared. -/
def setOffPlan (s : State) (l : Nat) (v : Bool) : State :=
  { s with tracker := { s.tracker with offPlan := upd s.tracker.offPlan l fun _ => v } }

/-- The off-plan test of a POUR (R72). -/
def offPlanTest (s : State) (l : Nat) (spout : Option Nat) (b : Belt) : State :=
  let wanted := s.assignment l
  let set := nth s.tracker.offPlan l false
  if b = .running ∧ (wanted = none ∨ wanted ≠ spout) then
    if set then s else ((s.setOffPlan l true).addReason l .offPlan).raiseFault .offPlan l
  else if spout = wanted ∧ set then
    ((s.setOffPlan l false).removeReason l .offPlan).clearFault .offPlan l
  else s

/-- A POUR at the plan tracker (R66, R72). -/
def trackPour (s : State) (l : Nat) (spout : Option Nat) (b : Belt) : State := s.advance.offPlanTest l spout b

/-- The plan tracker at OPEN_SESSION (R65); the OFF_PLANs are cleared by ascending loader (DESIGN CHOICE,
notes/assumptions/56.md). -/
def openTracking (s : State) : State :=
  let c := s.totalCargo
  let b := s.totalBallast
  let a : State := { s with tracker :=
    { tracking := .tracking (ActiveStep.fresh 1 c b s.now (if s.notFree = 0 then none else some s.now))
      openTotals := some (c, b), stepsDone := 0, offPlan := Vector.replicate 4 false } }
  forEach loaders (fun l s => s.clearFault .offPlan l)
    ((a.clearFault .ballastLag subjectNone).clearFault .deballastAhead subjectNone)

/-- The plan tracker at CLOSE_SESSION: reset values, and both plan banks emptied with the generation kept
(R74). -/
def closeTracking (s : State) : State :=
  { s with
    tracker := Tracker.reset
    mgmt := { s.mgmt with plan := { Group.resetPlan with gen := s.mgmt.plan.gen } } }

/-- The first step of the active plan whose cargo target lies above C (R73). -/
def firstStepAbove (s : State) (c : Int) : Option Nat :=
  ((List.range s.plan.stepCount).find? fun j => c < s.plan.slotCargo j).map Nat.succ

/-- The cursor of a rebase on the active plan (R73), with its reason changes left to the event. -/
def rebaseCursor (s : State) : State :=
  match s.firstStepAbove s.totalCargo with
  | some k =>
    let a := s.setTracking (.tracking (ActiveStep.fresh k s.totalCargo s.totalBallast s.now none))
    if s.tracker.tracking = .complete then a.removeReasonAll .planComplete else a
  | none => if s.tracker.tracking = .complete then s else s.completePlan

/-- A rebase with its reason changes acted on; paused-since is set once they have been applied (R73). -/
def rebase (s : State) : State :=
  let a := s.pacingEvent rebaseCursor
  a.modStep fun x => { x with pausedSince := if a.notFree = 0 then none else some a.now }

/-- BALLAST_LAG and DEBALLAST_AHEAD judged on a lag (R71). -/
def judgeLag (s : State) (lag : Int) : State :=
  let p := s.plan
  (s.judgeFault .ballastLag subjectNone (decide (p.lagPause ≤ lag)) (decide (lag < p.lagRelease))).judgeFault
    .deballastAhead subjectNone (decide (lag ≤ p.leadLimit)) (decide (p.leadRelease < lag))

end State

end Sys2Proof.Machine
end

