-- ==== Sys2Proof/Machine/Shore.lean ====
section
/-! DEFINITION. The shore line unit (chapter 2): sign of life and silence, the beacon, the pour account at
OPEN_SESSION, CLOSE_SESSION and a ship-group switch, and the charging of a POUR. -/

namespace Sys2Proof.Machine

/-- The hold indices. -/
def holdIndices : List Nat := List.range 10

/-- A POUR's fields once they are in range (R23). -/
structure PourFields where
  loader : Nat
  spout : Option Nat
  cumulative : Nat
  belt : Belt
  deriving DecidableEq, Repr

/-- Check 1 of R23: the field ranges of a POUR payload. -/
def readPour (p : List Byte) : Option PourFields :=
  let l := fieldAt p 0 1
  let h := fieldAt p 1 1
  let c := fieldAt p 2 4
  match beltOf (fieldAt p 6 1) with
  | none => none
  | some b =>
    if l < 4 ∧ c ≤ 4000000000 ∧ (h < 10 ∨ h = 15) then
      some { loader := l, spout := if h < 10 then some h else none, cumulative := c, belt := b }
    else none

namespace State

/-! ### Silence and beacon (R32, R33) -/

/-- The silence supervision changed. -/
def setSilence (s : State) (x : Silence) : State := { s with shore := { s.shore with silence := x } }

/-- WATCHING, with the timer started now (R32). -/
def watchShore (s : State) : State := s.setSilence (.watching (s.now + s.bank.silenceTimeout))

/-- SHORE_SILENT cleared with the reason it set: one event (R32, R78). -/
def clearSilent (s : State) : State :=
  (s.clearFault .shoreSilent (portCode .shore)).pacingEvent fun s => s.removeReasonAll .shoreSilent

/-- A sign of life (R22, R32). -/
def signOfLife (s : State) : State :=
  match s.shore.silence with
  | .silent => s.watchShore.clearSilent
  | .disarmed => s.watchShore
  | .watching _ => s.watchShore

/-- Supervision armed at OPEN_SESSION (R32). -/
def armSilence (s : State) : State :=
  match s.shore.silence with
  | .disarmed => s.watchShore
  | .watching _ => s
  | .silent => s

/-- Supervision disarmed at CLOSE_SESSION (R32). -/
def disarmSilence (s : State) : State :=
  match s.shore.silence with
  | .silent => (s.setSilence .disarmed).clearSilent
  | .watching _ => s.setSilence .disarmed
  | .disarmed => s

/-- Whether the silence timer has expired (R32). -/
def silenceDue (s : State) : Bool :=
  s.working && match s.shore.silence with
    | .watching d => decide (d ≤ s.now)
    | _ => false

/-- The silence timer's expiry: SHORE_SILENT and its reason (R32, R77). -/
def silenceExpired (s : State) : State :=
  ((s.setSilence .silent).raiseFault .shoreSilent (portCode .shore)).pacingEvent fun s => s.addReasonAll .shoreSilent

/-- A SHORE_BEACON sent, and the beacon timer restarted (R33). -/
def sendBeacon (s : State) : State :=
  let a := s.originate .shore kindShoreBeacon (enc1 s.sys.mode.code ++ enc1 s.notFree)
  { a with shore := { a.shore with beaconAt := some (s.now + s.bank.beaconInterval) } }

/-- Whether the beacon timer has expired (R33). -/
def beaconDue (s : State) : Bool :=
  match s.shore.beaconAt with
  | some d => decide (d ≤ s.now)
  | none => false

/-! ### The pour account (R29, R30, R31) -/

/-- The pour account at OPEN_SESSION (R29). -/
def openAccount (s : State) : State :=
  let z : State := { s with shore := { s.shore with loaders := Vector.replicate 4 LoaderRec.reset, unattributed := 0 } }
  (forEach holdIndices
    (fun h s =>
      let c := if s.bank.holdFitted h then s.plan.initialCargo h else 0
      s.modHold h fun _ => { opening := c, attributed := 0, mass := c }) z).armSilence

/-- The pour account at CLOSE_SESSION: the loader records reset, the hold records kept (R30). -/
def closeAccount (s : State) : State :=
  ({ s with shore := { s.shore with loaders := Vector.replicate 4 LoaderRec.reset, unattributed := 0 } } :
    State).disarmSilence

/-- The hold records at a ship-group switch (R31). -/
def switchHolds (s : State) : State :=
  forEach holdIndices (fun h s => if s.bank.holdFitted h then s else s.modHold h fun _ => HoldRec.reset) s

/-! ### Charging a POUR (R24 to R27) -/

/-- The baseline of a loader (R24). -/
def setBaseline (s : State) (l c : Nat) : State :=
  s.modLoader l fun r => { r with baseline := c, lastCum := c, sessionTonnage := 0, baselineSeen := true }

/-- The last cumulative and session tonnage after a charge (R25). -/
def setCumulative (s : State) (l c : Nat) : State :=
  s.modLoader l fun r => { r with lastCum := c, sessionTonnage := (c : Int) - (r.baseline : Int) }

/-- A delta charged to a hold (R25). -/
def chargeHold (s : State) (h d : Nat) : State :=
  s.modHold h fun r => { r with attributed := r.attributed + d, mass := r.mass + d }

/-- A delta above 0 with no hold to charge (R26). -/
def chargeNone (s : State) (l d : Nat) : State :=
  let a := s.modLoader l fun r => { r with unattributed := r.unattributed + d }
  ({ a with shore := { a.shore with unattributed := a.shore.unattributed + d } } : State).raiseFault
    .pourUnattributed l

/-- The delta of a POUR charged to the loader's last spout hold (R25, R26). -/
def charge (s : State) (l c : Nat) : State :=
  let d := c - (s.loader l).lastCum
  let a := match (s.loader l).spout with
    | some h => s.chargeHold h d
    | none => if d = 0 then s else s.chargeNone l d
  a.setCumulative l c

/-- The remaining fields of a POUR recorded (R27). -/
def recordPour (s : State) (f : PourFields) : State :=
  let now := s.now
  s.modLoader f.loader fun r => { r with spout := f.spout, belt := f.belt, lastPour := some now }

/-- The hold whose mass a POUR will change, if any (R25, R28). -/
def chargedHold (s : State) (f : PourFields) : Option Nat :=
  let r := s.loader f.loader
  if r.baselineSeen ∧ r.lastCum < f.cumulative then r.spout else none

/-- The account of an accepted POUR: baseline or charge, then its fields (R24 to R27). -/
def accountPour (s : State) (f : PourFields) : State :=
  (if (s.loader f.loader).baselineSeen then s.charge f.loader f.cumulative
    else s.setBaseline f.loader f.cumulative).recordPour f

end State

end Sys2Proof.Machine
end

