-- ==== Sys2Proof/Machine/Tanks.lean ====
section
/-! DEFINITION. Tank accounting (chapter 1): taking a sounding, level to volume to mass, gauge loss,
movement state, and the reactions of the tank records to a bank switch and to CLOSE_SESSION. -/

namespace Sys2Proof.Machine

/-- The movement state's code: its position in Table 1-2. -/
def Motion.code : Motion → Nat
  | .still _ => 0 | .filling _ _ => 1 | .emptying _ _ => 2

/-- The gauge status's code: its position in Table 1-2. -/
def Gauge.code : Gauge → Nat
  | .noSample => 0 | .live => 1 | .lost _ => 2 | .fault => 3

/-- Whether the gauge status is LOST. -/
def Gauge.isLost : Gauge → Bool
  | .lost _ => true
  | _ => false

/-- The extreme of a moving tank. -/
def Motion.extreme : Motion → Option MassAt
  | .still _ => none
  | .filling e _ => some e
  | .emptying e _ => some e

/-- The open operation of a moving tank. -/
def Motion.operation : Motion → Option Operation
  | .still _ => none
  | .filling _ o => some o
  | .emptying _ o => some o

/-- An open operation marked GAUGE_LOST_DURING (R11). -/
def Motion.markLost : Motion → Motion
  | .still a => .still a
  | .filling e o => .filling e { o with gaugeLost := true }
  | .emptying e o => .emptying e { o with gaugeLost := true }

/-- The mass of a volume at a density, 0.1 t (R10). -/
def massOf (volume density : Int) : Int := roundDiv (volume * density) 1000

namespace State

/-- The volume of a tank at a corrected level, by its sounding points (R10). -/
def volumeAt (s : State) (t : Nat) (level : Int) : Int := interpolate (s.bank.points t) level

/-- The trim tank accounting corrects with: the latest VALID trim, or 0 (R9). -/
def trimNow (s : State) : Int := s.engine.latestTrim.getD 0

/-- The corrected level of a raw level: the trim correction added, floored at 0 (R9). -/
def correctedLevel (s : State) (t : Nat) (raw : Int) : Int :=
  max 0 (raw + roundDiv (s.trimNow * s.bank.tankTrimFactor t) 1000)

/-- Whether the plausibility check of R7 is skipped for a tank. -/
def checkSkipped (r : TankRec) : Bool :=
  match r.gauge with
  | .noSample => true
  | .lost _ => true
  | .fault => r.lastAccepted.isNone
  | .live => false

/-- The largest change of level that passes the plausibility check (R7). -/
def levelLimit (s : State) (t : Nat) : Int :=
  s.bank.tankLevelRate t * ((s.now - (s.tank t).lastAccepted.getD 0 : Nat) : Int) + s.bank.tankJitter t

/-- Whether an OK sample is accepted by the plausibility check, or without it (R7). -/
def plausible (s : State) (t : Nat) (level : Int) : Bool :=
  checkSkipped (s.tank t) || decide (absInt (level - (s.tank t).rawLevel) ≤ s.levelLimit t)

/-! ### Movement (R15, R16, R17) -/

/-- The ballast record of a closing operation, handed over if a session is open (R17). -/
def ballastRecord (s : State) (t : Nat) (fill : Bool) (o : Operation) (e : MassAt) (isPartial : Bool) : State :=
  if s.sys.sessionOpen then
    s.makeRecord .ballast isPartial o.gaugeLost
      [bodyQuantity t, if fill then 0 else 1, s.bodyTime o.startTime, bodyQuantity o.startMass, s.bodyTime e.time,
        bodyQuantity e.mass, bodyQuantity (absInt (e.mass - o.startMass))]
  else s

/-- The record of a tank's open operation as it closes at its extreme (R16, R17). -/
def closeOperation (s : State) (t : Nat) (isPartial : Bool) : State :=
  match (s.tank t).motion with
  | .still _ => s
  | .filling e o => s.ballastRecord t true o e isPartial
  | .emptying e o => s.ballastRecord t false o e isPartial

/-- The movement state of a tank changed. -/
def setMotion (s : State) (t : Nat) (m : Motion) : State := s.modTank t fun r => { r with motion := m }

/-- The change to FILLING (R10, R15, R16): with a session open the density becomes the port water density
and the mass is recomputed before it becomes the extreme. -/
def startFilling (s : State) (t : Nat) (o : Operation) : State :=
  let now := s.now
  let port := s.plan.portDensity
  if s.sys.sessionOpen then
    s.modTank t fun r =>
      { r with density := port, source := .port, mass := massOf r.volume port
               motion := .filling { mass := massOf r.volume port, time := now } o }
  else s.modTank t fun r => { r with motion := .filling { mass := r.mass, time := now } o }

/-- The movement state judged on the mass of an accepted sample (R15, R16). -/
def judgeMotion (s : State) (t : Nat) : State :=
  let m := (s.tank t).mass
  let threshold := s.bank.tankThreshold t
  let here : MassAt := { mass := m, time := s.now }
  match (s.tank t).motion with
  | .still none => s.setMotion t (.still (some here))
  | .still (some a) =>
    if m ≤ a.mass - threshold then
      s.setMotion t (.emptying here { startMass := a.mass, startTime := s.now, gaugeLost := false })
    else if a.mass + threshold ≤ m then
      s.startFilling t { startMass := a.mass, startTime := s.now, gaugeLost := false }
    else s
  | .emptying e o =>
    if m < e.mass then s.setMotion t (.emptying here o)
    else if e.mass + threshold ≤ m then
      (s.closeOperation t false).startFilling t { startMass := e.mass, startTime := e.time, gaugeLost := false }
    else s
  | .filling e o =>
    if e.mass < m then s.setMotion t (.filling here o)
    else if m ≤ e.mass - threshold then
      (s.closeOperation t false).setMotion t
        (.emptying here { startMass := e.mass, startTime := e.time, gaugeLost := false })
    else s

/-! ### A sounding (R5 to R10, R14) -/

/-- Steps 1 to 3 of R8 on the record: level, counter, gauge timer, corrected level and volume. -/
def sampleLevel (s : State) (t : Nat) (level : Int) : State :=
  let corrected := s.correctedLevel t level
  let volume := s.volumeAt t corrected
  let trim := s.trimNow
  let now := s.now
  s.modTank t fun r =>
    { r with rawLevel := level, lastAccepted := some now, rejectRun := 0, accepted := satSucc r.accepted
             gaugeTimer := some now, corrected := corrected, trimUsed := trim, volume := volume }

/-- Step 3 of R8 on the faults: TANK_OVERRANGE above the last point, cleared at or below it (R10). -/
def judgeOverrange (s : State) (t : Nat) : State :=
  let above := aboveLast (s.bank.points t) (s.tank t).corrected
  s.judgeFault .tankOverrange t above !above

/-- Steps 4 and 5 of R8: the mass, and the gauge LIVE; recovery from LOST zeroes the uncertainty and ends
the growth reference (R14). -/
def sampleMass (s : State) (t : Nat) : State :=
  s.modTank t fun r =>
    { r with mass := massOf r.volume r.density, gauge := .live
             uncertainty := if r.gauge.isLost then 0 else r.uncertainty }

/-- An accepted sample, in the order of R8. -/
def acceptSample (s : State) (t : Nat) (level : Int) : State :=
  let wasLost := (s.tank t).gauge.isLost
  let a := ((s.sampleLevel t level).judgeOverrange t).sampleMass t
  let b := a.clearFault .gaugeFault t
  let c := if wasLost then b.clearFault .gaugeLost t else b
  c.judgeMotion t

/-- A sample rejected: the rejected counter (R5, R6, R7). -/
def countRejected (s : State) (t : Nat) : State := s.modTank t fun r => { r with rejected := satSucc r.rejected }

/-- A sample whose gauge status is FAULT (R6). -/
def faultSample (s : State) (t : Nat) : State :=
  ((s.countRejected t).modTank t fun r => { r with gauge := if r.gauge.isLost then r.gauge else .fault }).raiseFault
    .gaugeFault t

/-- An implausible sample rejected (R7). -/
def rejectSample (s : State) (t : Nat) : State :=
  ((s.countRejected t).modTank t fun r => { r with rejectRun := r.rejectRun + 1 }).advise .gaugeReject t

/-- A SOUNDING that tank accounting takes (R5). GAUGE_JUMP is counted before the acceptance (DESIGN CHOICE,
notes/assumptions/41.md). -/
def takeSounding (s : State) (t level : Nat) (status sample : Byte) : State :=
  if (s.tank t).lastSample = some sample then s.countRejected t
  else
    let a := s.modTank t fun r => { r with lastSample := some sample }
    if status = 0 ∧ level ≤ 40000 then
      if a.plausible t level then a.acceptSample t level
      else if (a.tank t).rejectRun < 3 then a.rejectSample t
      else (a.advise .gaugeJump t).acceptSample t level
    else a.faultSample t

/-! ### Gauge timeout, still interval, growth (R11, R13, R16) -/

/-- Whether a tank's gauge timer has reached the gauge timeout (R11, notes/assumptions/20.md). -/
def gaugeDue (s : State) (t : Nat) : Bool :=
  s.working && s.bank.tankFitted t
    && match (s.tank t).gaugeTimer with
      | some a => decide (a + s.bank.gaugeTimeout ≤ s.now)
      | none => false

/-- The gauge timeout of a tank (R11). -/
def gaugeTimedOut (s : State) (t : Nat) : State :=
  let now := s.now
  (s.modTank t fun r =>
    { r with gauge := .lost now, gaugeTimer := none, motion := r.motion.markLost }).raiseFault .gaugeLost t

/-- Whether a tank's still interval has expired (R16, notes/assumptions/20.md). -/
def stillDue (s : State) (t : Nat) : Bool :=
  s.working
    && match (s.tank t).motion.extreme with
      | some e => decide (e.time + s.bank.stillInterval ≤ s.now)
      | none => false

/-- A tank back in STILL, anchored at its present mass (R16, R18). -/
def anchorNow (s : State) (t : Nat) : State :=
  let now := s.now
  s.modTank t fun r => { r with motion := .still (some { mass := r.mass, time := now }) }

/-- The still interval's expiry in a moving tank (R16). -/
def stillExpired (s : State) (t : Nat) : State := (s.closeOperation t false).anchorNow t

/-- The flow of a tank's line pump when it is to be charged to a LOST tank (R13): the descriptor names a
line, the line's pump was last RUNNING, and the tank's valve was not last reported CLOSED. -/
def lossFlow (s : State) (t : Nat) : Option Nat :=
  match s.bank.tankLine t with
  | none => none
  | some l =>
    match (s.station l).last with
    | some (.pump .running _ _ flow _) =>
      match (s.station (s.bank.tankValve t)).last with
      | some (.valve .closed _ _) => none
      | _ => some flow
    | _ => none

/-- The uncertainty growth of one tank at an evaluation start (R13). -/
def growTank (s : State) (t : Nat) : State :=
  let now := s.now
  let cap := s.bank.itemCapacity t
  match (s.tank t).gauge with
  | .lost since =>
    if s.bank.tankFitted t then
      let u :=
        match s.lossFlow t with
        | some flow =>
          min cap ((s.tank t).uncertainty
            + ceilDiv ((flow : Int) * (s.tank t).density * ((now - since : Nat) : Int)) 360000)
        | none => (s.tank t).uncertainty
      s.modTank t fun r => { r with gauge := .lost now, uncertainty := u }
    else s
  | _ => s

/-- The uncertainty growth of every fitted LOST tank (R13, R37). -/
def growUncertainty (s : State) : State := forEach (List.range 32) (fun t s => s.growTank t) s

/-! ### Sessions, entry and switch (R2, R4, R18) -/

/-- The open operation of a tank closed as PARTIAL at CLOSE_SESSION (R18). -/
def closeTank (s : State) (t : Nat) : State :=
  match (s.tank t).motion with
  | .still _ => s
  | _ => (s.closeOperation t true).anchorNow t

/-- Every open operation closed, in ascending tank index (R18). -/
def closeTanks (s : State) : State := forEach (List.range 32) (fun t s => s.closeTank t) s

/-- Every tank record at its reset values over the active TANK table (R3). -/
def resetTanks (s : State) : State :=
  forEach (List.range 32) (fun t s => let d := s.bank.tankDensity t; s.modTank t fun _ => TankRec.reset d) s

/-- The gauge timers of the fitted tanks started at entry to STANDBY (R4). -/
def startGaugeTimers (s : State) : State :=
  let now := s.now
  forEach (List.range 32)
    (fun t s => if s.bank.tankFitted t then s.modTank t fun r => { r with gaugeTimer := some now } else s) s

/-- A tank record at a ship-group switch, by its fitted flag in the old bank and the new (R2). A record
that was and stays unfitted keeps the reset values, with the new descriptor's default density. -/
def switchTank (s : State) (old : ShipBank) (t : Nat) : State :=
  let d := s.bank.tankDensity t
  let now := s.now
  match old.tankFitted t, s.bank.tankFitted t with
  | true, true => s.modTank t fun r => if r.source = .descriptor then { r with density := d } else r
  | false, true => s.modTank t fun _ => { TankRec.reset d with gaugeTimer := some now }
  | true, false =>
    ((((s.modTank t fun _ => TankRec.reset d).clearFault .gaugeFault t).clearFault .gaugeLost t).clearFault
      .tankOverrange t)
  | false, false => s.modTank t fun _ => TankRec.reset d

/-- Every tank record at a ship-group switch (R2), by ascending tank (DESIGN CHOICE, notes/assumptions/37.md). -/
def switchTanks (s : State) (old : ShipBank) : State :=
  forEach (List.range 32) (fun t s => s.switchTank old t) s

end State

end Sys2Proof.Machine
end

