-- ==== Sys2Proof/Machine/Screen.lean ====
section
/-! DEFINITION. The order screen (chapter 8) with what the station table does for it: outstanding orders
opened and closed (R124, R128), judgement and forwarding of orders, the held-order list and its
re-examination, the start slot, dry-run supervision. -/

namespace Sys2Proof.Machine

/-- Whether a last STATE shows local control (R132). -/
def LastState.inLocal : LastState → Bool
  | .pump _ _ _ _ c => c
  | .valve _ _ c => c

/-- The screen's judgement of an order (R134). -/
inductive Verdict where
  | refuse (r : RefuseReason)
  | keep (r : HoldReason)
  | forward
  deriving DecidableEq, Repr

/-- The pumps, and pump lines, by index. -/
def pumpLines : List Nat := List.range 8

/-- The station indices. -/
def stationIndices : List Nat := List.range 64

namespace State

/-! ### What the screen reads (R132) -/

/-- Whether a valve's presence lets its last STATE count (R132). -/
def presenceCounts (r : StationRec) : Bool := r.presence == .present || r.presence == .outOfService

/-- Whether a valve counts as OPEN (R132). -/
def valveOpen (s : State) (v : Nat) : Bool :=
  presenceCounts (s.station v) && match (s.station v).last with
    | some (.valve .opened _ _) => true
    | _ => false

/-- Whether a valve counts as CLOSED (R132). -/
def valveClosed (s : State) (v : Nat) : Bool :=
  presenceCounts (s.station v) && match (s.station v).last with
    | some (.valve .closed _ _) => true
    | _ => false

/-- Whether a pump holds the start slot. -/
def holdsSlot (s : State) (l : Nat) : Bool :=
  match s.screen.slot with
  | some c => c.pump == l
  | none => false

/-- The working mode of a pump, or none when it is not working (R132). -/
def workingMode (s : State) (l : Nat) : Option PumpMode :=
  match s.screen.slot with
  | some c => if c.pump = l then some c.mode else reported
  | none => reported
where
  /-- The mode a pump reported while STARTING or RUNNING. -/
  reported : Option PumpMode :=
    match (s.station l).last with
    | some (.pump .starting m _ _ _) => some m
    | some (.pump .running m _ _ _) => some m
    | _ => none

/-- The number of working pumps (R137). -/
def workingPumps (s : State) : Nat := pumpLines.countP fun l => (s.workingMode l).isSome

/-- The tank valves of a line: those of the tanks of its tank set (R132). -/
def tankValves (s : State) (l : Nat) : List Nat := (s.bank.lineTanks l).map s.bank.tankValve

/-- The valve a mode draws or discharges through: overboard for DEBALLAST, sea for BALLAST (R138). -/
def ownValve (s : State) (l : Nat) : PumpMode → Nat
  | .ballast => s.bank.seaValve l
  | .deballast => s.bank.overboardValve l

/-- The valve that must be CLOSED in a mode (R138). -/
def oppositeValve (s : State) (l : Nat) : PumpMode → Nat
  | .ballast => s.bank.overboardValve l
  | .deballast => s.bank.seaValve l

/-- Whether the route of a pump for a mode is open (R138). -/
def routeOpen (s : State) (l : Nat) (m : PumpMode) : Bool :=
  s.valveOpen (s.ownValve l m) && s.valveClosed (s.oppositeValve l m) && (s.tankValves l).any s.valveOpen

/-- Whether opening a valve would open against a working pump of a fitted line (R141). -/
def opensAgainst (s : State) (v : Nat) : Bool :=
  pumpLines.any fun l => s.bank.lineFitted l && match s.workingMode l with
    | some m => s.oppositeValve l m == v
    | none => false

/-- Whether a valve is the only tank valve of a line counted OPEN (R142). -/
def onlyOpenTankValve (s : State) (l v : Nat) : Bool :=
  (s.tankValves l).contains v && s.valveOpen v && (s.tankValves l).all fun w => w == v || !s.valveOpen w

/-- Whether closing a valve would starve a working pump of a fitted line (R142). -/
def starves (s : State) (v : Nat) : Bool :=
  pumpLines.any fun l => s.bank.lineFitted l && match s.workingMode l with
    | some m => s.onlyOpenTankValve l v || s.ownValve l m == v
    | none => false

/-- Whether a condition fault concerns a start in a mode (R139). -/
def conditionHolds (s : State) (m : PumpMode) : Bool :=
  s.sys.mode == .loading && match m with
    | .deballast => s.faults.active .airDraft subjectNone || s.faults.active .deballastAhead subjectNone
    | .ballast => s.faults.active .ballastLag subjectNone

/-- Whether a pump's speed order raises its speed, in SAFE (R140). -/
def raisesSpeed (s : State) (i : Nat) (speed : Byte) : Bool :=
  match (s.station i).last with
  | some (.pump _ _ v _ _) => decide (v < speed.toNat)
  | _ => decide (0 < speed.toNat)

/-! ### Judgement (R134, Table 8-3) -/

/-- The first refusal of an order that applies (Table 8-3). -/
def refusal (s : State) (i : Nat) (o : Order) : Option RefuseReason :=
  if (s.station i).presence = .outOfService then some .outOfService
  else if ((s.station i).last.map LastState.inLocal).getD false then some .localControl
  else
    match o.type with
    | .pumpStart =>
      if s.sys.mode = .safe then some .safe
      else if s.sys.mode = .loading ∧ s.plan.maxPumps ≤ s.workingPumps then some .pumpCount
      else if !s.bank.lineFitted i then some .noLine
      else none
    | .pumpStop => none
    | .pumpSpeed => if s.sys.mode = .safe ∧ s.raisesSpeed i o.speed then some .safe else none
    | .valveOpen => if s.opensAgainst i then some .oppositeValve else none
    | .valveClose => none

/-- The ordered mode of a start; its mode byte was judged at taking (R133). -/
def Order.startMode (o : Order) : PumpMode := (pumpModeOf o.mode.toNat).getD .ballast

/-- The first hold condition of an order that is unmet (Table 8-3, R138, R139, R142). -/
def holdCondition (s : State) (i : Nat) (o : Order) : Option HoldReason :=
  match o.type with
  | .pumpStop => none
  | .pumpStart =>
    if (s.station i).outstanding.isSome then some .awaitingAck
    else if (s.station i).presence ≠ .present ∨ (s.station i).runState = some .tripped
        ∨ s.routeOpen i (Order.startMode o) = false then some .awaitingRoute
    else if s.screen.slot.isSome then some .awaitingSlot
    else if s.conditionHolds (Order.startMode o) then some .condition
    else none
  | .pumpSpeed => if (s.station i).outstanding.isSome then some .awaitingAck else none
  | .valveOpen => if (s.station i).outstanding.isSome then some .awaitingAck else none
  | .valveClose =>
    if (s.station i).outstanding.isSome then some .awaitingAck
    else if s.starves i then some .awaitingPumpStop
    else none

/-- The judgement of an order: refusals, then hold conditions, then forwarding (R134). -/
def judge (s : State) (i : Nat) (o : Order) : Verdict :=
  match s.refusal i o with
  | some r => .refuse r
  | none =>
    match s.holdCondition i o with
    | some r => .keep r
    | none => .forward

/-- Whether LOADING lowers an order's setpoint (R137, R140). -/
def clamps (s : State) (o : Order) : Bool :=
  s.sys.mode == .loading && (o.type == .pumpStart || o.type == .pumpSpeed) && decide (s.plan.maxSpeed < o.speed.toNat)

/-- An order after the speed clamp. -/
def clamped (s : State) (o : Order) : Order := if s.clamps o then { o with speed := byteOf s.plan.maxSpeed 0 } else o

/-- The advisory of a clamp (R137, R146). -/
def adviseClamp (s : State) (i : Nat) (o : Order) : State := if s.clamps o then s.advise .speedClamped i else s

/-! ### Outstanding orders (R124, R128) -/

/-- The bound address of a station, 0 for none. -/
def boundAddress (s : State) (i : Nat) : Byte := (s.station i).address.getD 0

/-- An outstanding order opened (R124); `console` is none for originator PART. -/
def openOutstanding (s : State) (i : Nat) (seq : Byte) (type : OrderType) (mode speed : Byte)
    (console : Option Byte) : State :=
  let now := s.now
  let deadline := s.now + s.bank.ackTimeout
  s.modStation i fun r =>
    { r with
      outstanding := some { seq := seq, type := type, mode := mode, setpoint := speed, console := console,
                            forwarded := now, deadline := deadline }
      forwarded := satSucc r.forwarded }

/-- The start slot freed (R149). -/
def freeSlot (s : State) : State := { s with screen := { s.screen with slot := none } }

/-- The start slot freed if a pump holds it. -/
def freeSlotOf (s : State) (i : Nat) : State := if s.holdsSlot i then s.freeSlot else s

/-- An outstanding order closed, as the station table records it and the order screen is told: a
PUMP_START closed with any outcome other than DONE frees the slot (R125, R127, R128, R149). -/
def closeOutstanding (s : State) (i : Nat) (o : Outstanding) (c : Closing) : State :=
  let a := s.modStation i fun r => { r with outstanding := none, lastClosing := some c }
  if o.type = .pumpStart ∧ c ≠ .done then a.freeSlotOf i else a

/-- The synthetic ACK for an outstanding order, to a CONSOLE originator (Table 7-3). -/
def answerOutstanding (s : State) (address : Byte) (o : Outstanding) (outcome : Nat) : State :=
  match o.console with
  | some c => s.syntheticAck c o.seq address outcome 0
  | none => s

/-- An outstanding order superseded by a PUMP_STOP (R124, R128). -/
def supersedeOutstanding (s : State) (i : Nat) : State :=
  match (s.station i).outstanding with
  | some o => (s.closeOutstanding i o .superseded).answerOutstanding (s.boundAddress i) o outcomeSuperseded
  | none => s

/-! ### Forwarding (R136, R143, R148) -/

/-- The start slot taken by a forwarded PUMP_START (R148). -/
def takeSlot (s : State) (i : Nat) (m : PumpMode) : State :=
  let c : Slot := { pump := i, mode := m, taken := s.now, deadline := s.now + s.bank.startLimit i }
  ({ s with screen := { s.screen with slot := some c } } : State).clearFault .pumpStartFailed i

/-- What a successful field offer of an order does (R124, R136, R148): a PUMP_STOP supersedes and frees
the slot, the order becomes outstanding, a PUMP_START takes the slot. -/
def orderOffered (s : State) (i : Nat) (o : Order) (console : Option Byte) : State :=
  let a := if o.type = .pumpStop then (s.supersedeOutstanding i).freeSlotOf i else s
  let b := a.openOutstanding i o.seq o.type o.mode o.speed console
  if o.type = .pumpStart then b.takeSlot i (Order.startMode o) else b

/-- The telegram of an order for a station (Table 6-9). -/
def orderTelegram (s : State) (i : Nat) (src : Byte) (o : Order) : Telegram :=
  { dst := s.boundAddress i, src := src, kind := kindOrder, seq := o.seq
    payload := [byteOf o.type.code 0, o.mode, o.speed] }

/-- A console order forwarded: offered to the field queue, and outstanding or answered QUEUE_FULL (R143). -/
def forwardOrder (s : State) (i : Nat) (o : Order) : State :=
  let r := s.send .field (s.orderTelegram i o.console o)
  if r.2 then r.1.orderOffered i o (some o.console)
  else r.1.syntheticAck o.console o.seq (s.boundAddress i) outcomeQueueFull 0

/-- A refusal: the synthetic ACK and the orders-refused counter (R133). -/
def refuseOrder (s : State) (i : Nat) (o : Order) (code : Nat) : State :=
  (s.modStation i fun r => { r with refused := satSucc r.refused }).syntheticAck o.console o.seq
    (s.boundAddress i) outcomeRefused code

/-! ### The held-order list (R135, R144 to R147) -/

/-- The entries the held-order list holds at most (R144). -/
def heldCapacity : Nat := 16

/-- The held entry of a station, if any. -/
def heldOf (s : State) (i : Nat) : Option Held := s.screen.held.find? fun h => h.station = i

/-- A station's entry removed from the list. -/
def dropHeld (s : State) (i : Nat) : State :=
  { s with screen := { s.screen with held := s.screen.held.filter fun h => h.station != i } }

/-- The recorded reason of a station's entry brought up to date (R146). -/
def updateHeld (s : State) (i : Nat) (r : HoldReason) : State :=
  { s with screen := { s.screen with
      held := s.screen.held.map fun h => if h.station = i then { h with reason := r } else h } }

/-- One entry judged in a scan; answers whether it left the list (R146). -/
def scanEntry (s : State) (h : Held) : State × Bool :=
  match s.judge h.station h.order with
  | .refuse r => ((s.dropHeld h.station).refuseOrder h.station h.order r.code, true)
  | .keep r => (s.updateHeld h.station r, false)
  | .forward =>
    (((s.adviseClamp h.station h.order).dropHeld h.station).forwardOrder h.station (s.clamped h.order), true)

/-- One scan, oldest entry first; answers whether any entry left the list (R145). -/
def scan (s : State) : State × Bool :=
  s.screen.held.foldl
    (fun a h => let r := a.1.scanEntry h; (r.1, a.2 || r.2)) (s, false)

/-- The run of scans; each that is followed by another has shortened the list (R145). -/
def reexamineFrom : Nat → State → State
  | 0, s => s
  | n + 1, s => if s.scan.2 then reexamineFrom n s.scan.1 else s.scan.1

/-- The re-examination of the held-order list (R145). -/
def reexamine (s : State) : State := reexamineFrom (s.screen.held.length + 1) s

/-- A held entry superseded by a new order for its station, or by the part's PUMP_STOP (R135, R151). -/
def supersedeHeld (s : State) (i : Nat) : State :=
  match s.heldOf i with
  | some h =>
    (s.dropHeld i).syntheticAck h.order.console h.order.seq (s.boundAddress i) outcomeSuperseded 0
  | none => s

/-- An order with an unmet hold condition: held with a HELD answer, or refused at a full list (R144). -/
def holdOrder (s : State) (i : Nat) (o : Order) (r : HoldReason) : State :=
  if s.screen.held.length < heldCapacity then
    let h : Held := { order := o, station := i, reason := r, arrival := s.now, deadline := s.now + s.bank.holdTimeout }
    ({ s with screen := { s.screen with held := s.screen.held ++ [h] } } : State).syntheticAck o.console o.seq
      (s.boundAddress i) outcomeHeld r.code
  else s.refuseOrder i o RefuseReason.heldListFull.code

/-- An order judged at taking (R134): refused, or clamped and then held or forwarded. -/
def screenOrder (s : State) (i : Nat) (o : Order) : State :=
  match s.judge i o with
  | .refuse r => s.refuseOrder i o r.code
  | .keep r => (s.adviseClamp i o).holdOrder i (s.clamped o) r
  | .forward => (s.adviseClamp i o).forwardOrder i (s.clamped o)

/-- The order an ORDER payload spells for a station, unless its content is bad (R133). -/
def readOrder (i : Nat) (t : Telegram) : Option Order :=
  let speed := byteAt t.payload 2
  match orderTypeOf (fieldAt t.payload 0 1) with
  | none => none
  | some type =>
    if type.forPump = decide (i < 8) ∧ (type = .pumpStart → (byteAt t.payload 1).toNat ≤ 1)
        ∧ (type = .pumpStart ∨ type = .pumpSpeed → speed.toNat ≤ 100) then
      some { type := type, mode := byteAt t.payload 1, speed := speed, seq := t.seq, console := t.src }
    else none

/-- Whether an order will close an outstanding order or free the start slot: it is a PUMP_STOP whose offer
succeeds, for a pump with an outstanding order or the slot (R136, R145). -/
def stopTakesEffect (s : State) (i : Nat) (o : Order) : Bool :=
  o.type == .pumpStop && s.judge i o == .forward && ((s.station i).outstanding.isSome || s.holdsSlot i)
    && (s.send .field (s.orderTelegram i o.console o)).2

/-- An ORDER taken by the order screen for a station (R133 to R135). -/
def takeOrder (s : State) (i : Nat) (t : Telegram) : State :=
  match readOrder i t with
  | none => s.advise .badOrder i
  | some o =>
    let a := s.supersedeHeld i
    let b := a.screenOrder i o
    if (s.heldOf i).isSome || a.stopTakesEffect i o then b.reexamine else b

/-- Whether a station's held entry has reached its hold deadline (R147). -/
def holdDue (s : State) (i : Nat) : Bool :=
  s.working && match s.heldOf i with
    | some h => decide (h.deadline ≤ s.now)
    | none => false

/-- The hold deadline of a station's entry (R147). -/
def holdExpired (s : State) (i : Nat) : State :=
  match s.heldOf i with
  | some h => ((s.dropHeld i).refuseOrder i h.order h.reason.code).reexamine
  | none => s

/-! ### The start slot (R149) -/

/-- Whether the start limit deadline has been reached (R149). -/
def startLimitDue (s : State) : Bool :=
  s.working && match s.screen.slot with
    | some c => decide (c.deadline ≤ s.now)
    | none => false

/-- The start limit deadline (R149). -/
def startLimitExpired (s : State) : State :=
  match s.screen.slot with
  | some c => (s.freeSlot.raiseFault .pumpStartFailed c.pump).reexamine
  | none => s

/-! ### Dry-run supervision (R150, R151) -/

/-- Whether the dry-run condition of a line is true (R150). -/
def dryCondition (s : State) (l : Nat) : Bool :=
  s.bank.lineFitted l
    && (match (s.station l).last with
      | some (.pump .running .deballast _ _ _) => true
      | _ => false)
    && (s.bank.lineTanks l).all fun t =>
      s.valveClosed (s.bank.tankValve t)
        || ((s.tank t).gauge == .live && decide ((s.tank t).mass ≤ s.bank.tankEmptyMark t))

/-- The dry-run timer of a line set. -/
def setDry (s : State) (l : Nat) (timer : Option Nat) (tripped : Bool) : State :=
  { s with screen := { s.screen with
      dryAt := upd s.screen.dryAt l fun _ => timer, tripped := upd s.screen.tripped l fun _ => tripped } }

/-- The dry-run condition of a line judged (the table of R150). -/
def judgeDry (s : State) (l : Nat) : State :=
  if s.dryCondition l then
    if nth s.screen.tripped l false || (nth s.screen.dryAt l none).isSome then s
    else s.setDry l (some (s.now + s.bank.dryRunDelay l)) false
  else s.setDry l none false

/-- Every line's dry-run condition judged (R150). -/
def judgeDryRuns (s : State) : State := forEach pumpLines (fun l s => s.judgeDry l) s

/-- Whether a line's dry-run timer has reached its deadline (R151). -/
def dryDue (s : State) (l : Nat) : Bool :=
  s.working && match nth s.screen.dryAt l none with
    | some d => decide (d ≤ s.now)
    | none => false

/-- The part's PUMP_STOP, with the sequence the field counter gives it (R108, R151). -/
def partStop (s : State) : Order :=
  { type := .pumpStop, mode := 0, speed := 0, seq := s.out.field.seq, console := 0 }

/-- A dry-run trip of a line (R151). -/
def dryTrip (s : State) (l : Nat) : State :=
  let o := s.partStop
  let r := (s.modPort .field fun p => { p with seq := p.seq + 1 }).send .field
    (s.orderTelegram l s.bank.ownAddress o)
  let a := r.1.raiseFault .dryRunTrip l
  if r.2 then
    let b := ((a.orderOffered l o none).supersedeHeld l).setDry l none true
    if (s.heldOf l).isSome || (s.station l).outstanding.isSome || s.holdsSlot l then b.reexamine else b
  else a.setDry l (some (s.now + s.bank.dryRunDelay l)) (nth s.screen.tripped l false)

/-! ### A ship-group switch (R152) -/

/-- The held entries of stations whose address has changed since `old` are withdrawn (R152), in the order of the list,
oldest first (DESIGN CHOICE, notes/assumptions/37.md). -/
def withdrawHeld (s : State) (old : Nat → Option Byte) : State :=
  s.screen.held.foldl
    (fun s h =>
      if (s.station h.station).address = old h.station then s
      else
        (s.dropHeld h.station).syntheticAck h.order.console h.order.seq ((old h.station).getD 0) outcomeWithdrawn 0)
    s

/-- Dry-run supervision at a ship-group switch: timers stopped, tripped flags clear, every line judged
afresh (R152). -/
def restartDryRuns (s : State) : State :=
  ({ s with screen := { s.screen with dryAt := Vector.replicate 8 none, tripped := Vector.replicate 8 false } } :
    State).judgeDryRuns

end State

end Sys2Proof.Machine
end

