-- ==== Sys2Proof/Machine/Stations.lean ====
section
/-! DEFINITION. The station table (chapter 7): STATE and ACK telegrams, presence, ACK timeouts, and
station bindings at a ship-group switch. -/

namespace Sys2Proof.Machine

namespace State

/-! ### STATE (R119 to R123) -/

/-- The presence timer's deadline from now (R121). -/
def presenceDeadline (s : State) : Nat := s.now + s.bank.presenceTimeout

/-- Step 1 and 2 of R120: the last STATE, its time and the counter. -/
def recordState (s : State) (i : Nat) (x : LastState) : State :=
  let now := s.now
  s.modStation i fun r => { r with last := some x, lastTime := some now, recorded := satSucc r.recorded }

/-- Presence after a recorded STATE (Table 7-2). -/
def statePresence (s : State) (i : Nat) : State :=
  let d := s.presenceDeadline
  let present := s.modStation i fun r => { r with presence := .present, presenceAt := some d }
  match (s.station i).presence with
  | .outOfService => s
  | .silent => present.clearFault .stationSilent i
  | .unknown => present
  | .present => present

/-- PUMP_TRIPPED after a recorded pump STATE (R123). -/
def judgeTripped (s : State) (i : Nat) : State :=
  match (s.station i).runState with
  | some .tripped => s.raiseFault .pumpTripped i
  | some .stopped => s.clearFault .pumpTripped i
  | some .running => s.clearFault .pumpTripped i
  | _ => s

/-- The start slot after a recorded pump STATE (R149). -/
def judgeSlot (s : State) (i : Nat) : State :=
  match (s.station i).runState with
  | some .running => (s.freeSlotOf i).clearFault .pumpStartFailed i
  | some .tripped => s.freeSlotOf i
  | _ => s

/-- A STATE of a station (R119, R120). -/
def takeState (s : State) (i : Nat) (p : List Byte) : State :=
  match readState (decide (i < 8)) p with
  | none => (s.modStation i fun r => { r with rejected := satSucc r.rejected }).advise .badState i
  | some x => (((((s.recordState i x).statePresence i).judgeTripped i).judgeSlot i).judgeDryRuns).reexamine

/-! ### ACK (R125, R126) -/

/-- The closing an ACK's outcome code gives (R125). -/
def closingOf (outcome : Nat) : Closing :=
  if outcome = 0 then .done else if outcome = 1 then .refusedLocal else .failed

/-- The outstanding order of a station that an ACK payload matches (R125). -/
def matchedOrder (s : State) (i : Nat) (p : List Byte) : Option Outstanding :=
  match (s.station i).outstanding with
  | some o => if o.seq = byteAt p 1 then some o else none
  | none => none

/-- An ACK of a station (R125, R126). -/
def takeAck (s : State) (i : Nat) (p : List Byte) : State :=
  match s.matchedOrder i p with
  | some o => ((s.closeOutstanding i o (closingOf (fieldAt p 2 1))).clearFault .orderTimeout i).reexamine
  | none => (s.modStation i fun r => { r with lateAcks := satSucc r.lateAcks }).advise .lateAck i

/-- Whether an ACK answers an order the part originated, and is consumed (R125). -/
def consumesAck (s : State) (i : Nat) (p : List Byte) : Bool :=
  match s.matchedOrder i p with
  | some o => o.console.isNone
  | none => false

/-- Whether a station's outstanding order has reached its ACK deadline (R127). -/
def ackDue (s : State) (i : Nat) : Bool :=
  s.working && match (s.station i).outstanding with
    | some o => decide (o.deadline ≤ s.now)
    | none => false

/-- The ACK timeout of a station's outstanding order (R127). -/
def ackTimedOut (s : State) (i : Nat) : State :=
  match (s.station i).outstanding with
  | some o =>
    let a := s.closeOutstanding i o .timeout
    let b := (a.modStation i fun r => { r with timeouts := satSucc r.timeouts }).raiseFault .orderTimeout i
    (b.answerOutstanding (s.boundAddress i) o outcomeTimeout).reexamine
  | none => s

/-! ### Presence (R121, R122, R129) -/

/-- Whether a station's presence timer has expired (R121). -/
def presenceDue (s : State) (i : Nat) : Bool :=
  s.working && match (s.station i).presenceAt with
    | some d => decide (d ≤ s.now)
    | none => false

/-- The presence timer's expiry (R121). -/
def presenceTimedOut (s : State) (i : Nat) : State :=
  ((s.modStation i fun r => { r with presence := .silent, presenceAt := none }).raiseFault .stationSilent i).judgeDryRuns.reexamine

/-- SET_STATION_SERVICE(OUT) on a station (Table 7-2). -/
def serviceOut (s : State) (i : Nat) : State :=
  let out := s.modStation i fun r => { r with presence := .outOfService, presenceAt := none }
  match (s.station i).presence with
  | .outOfService => s
  | .silent => (out.clearFault .stationSilent i).judgeDryRuns.reexamine
  | .unknown => out.judgeDryRuns.reexamine
  | .present => out.judgeDryRuns.reexamine

/-- SET_STATION_SERVICE(IN) on a station (Table 7-2). -/
def serviceIn (s : State) (i : Nat) : State :=
  let d := s.presenceDeadline
  if (s.station i).presence = .outOfService then
    (s.modStation i fun r => { r with presence := .unknown, presenceAt := some d }).judgeDryRuns.reexamine
  else s

/-! ### Bindings (R116, R118) -/

/-- Every station record at its reset values, bound as the active route table says (R116, R117). -/
def bindStations (s : State) : State :=
  let bs := s.bank.stationBindings
  forEach stationIndices (fun i s => s.modStation i fun _ => StationRec.reset (addressIn bs i)) s

/-- The presence timers of the bound stations started at entry to STANDBY (R118). -/
def startPresenceTimers (s : State) : State :=
  let d := s.presenceDeadline
  forEach stationIndices
    (fun i s => s.modStation i fun r => if r.address.isSome then { r with presenceAt := some d } else r) s

/-- The withdrawal of a station's outstanding order (R116, R128). -/
def withdrawOutstanding (s : State) (i : Nat) : State :=
  match (s.station i).outstanding with
  | some o => (s.closeOutstanding i o .withdrawn).answerOutstanding (s.boundAddress i) o outcomeWithdrawn
  | none => s

/-- A station at a ship-group switch, under the bindings of the new bank (R116). -/
def rebindStation (s : State) (bs : List (Nat × Byte)) (i : Nat) : State :=
  let new := addressIn bs i
  let d := s.presenceDeadline
  let fresh : StationRec := { StationRec.reset new with presenceAt := if new.isSome then some d else none }
  if (s.station i).address = new then s
  else if (s.station i).address = none then s.modStation i fun _ => fresh
  else
    ((((s.withdrawOutstanding i).clearFault .stationSilent i).clearFault .orderTimeout i).clearFault
      .pumpTripped i).modStation i fun _ => fresh

/-- Every station at a ship-group switch (R116), then the held orders of the stations whose address has
changed (R152, notes/assumptions/37.md). -/
def rebindStations (s : State) : State :=
  let bs := s.bank.stationBindings
  let old := fun i => (s.station i).address
  (forEach stationIndices (fun i s => s.rebindStation bs i) s).withdrawHeld old

end State

end Sys2Proof.Machine
end

