-- ==== Sys2Proof/Machine/Condition.lean ====
section
/-! DEFINITION. The condition engine's actions (chapter 3): the switch of sealed banks at an evaluation
start with the blocks' reactions (R193), requests, snapshot, publication; and the telling of a mode change
(Table 10-2). -/

namespace Sys2Proof.Machine

namespace State

/-! ### Mode changes -/

/-- A mode change told: a beacon, and the re-examination of the held orders (R33, R145; the reason SAFE
is the event's own, R94). -/
def tellMode (s : State) : State := s.sendBeacon.reexamine

/-- A mode change told if the mode is no longer `before`. -/
def tellModeIf (s : State) (before : Mode) : State := if s.sys.mode = before then s else s.tellMode

/-- SAFE followed and told, after a raising that may have entered it, in an event of its own (R173). -/
def afterRaising (s : State) (before : Mode) : State :=
  (s.pacingEvent fun s => s.followSafe before).tellModeIf before

/-! ### The switch of a group (R193) -/

/-- The blocks' reactions to a new active ship bank, `old` being the one before (R193, step 5). -/
def reactToShip (s : State) (old : ShipBank) : State :=
  ((((s.switchTanks old).switchHolds).rebindStations).restartDryRuns).judgeAlarm

/-- The ship group after its switch (R188, R193). -/
def switchedShip (s : State) : State :=
  { s with mgmt := { s.mgmt with
      ship := { active := s.mgmt.ship.staging, staging := s.mgmt.ship.staging, gen := succWrap16 s.mgmt.ship.gen
                isSealed := false, isPending := false }
      unstored := true } }

/-- The switch of the ship group, but for the re-examination (R193). -/
def switchShip (s : State) : State := s.switchedShip.clearTableFaults.reactToShip s.bank

/-- The plan group after its switch (R188, R193). -/
def switchedPlan (s : State) : State :=
  { s with mgmt := { s.mgmt with
      plan := { active := s.mgmt.plan.staging, staging := s.mgmt.plan.staging, gen := succWrap16 s.mgmt.plan.gen
                isSealed := false, isPending := false } } }

/-- The switch of the plan group, but for the re-examination (R73, R157, R193). -/
def switchPlan (s : State) : State :=
  if s.sys.sessionOpen then s.switchedPlan.relatchReports.rebase else s.switchedPlan

/-! ### Beginning an evaluation (R37, R38) -/

/-- The mass of an item as the snapshot takes it (Table 3-2). -/
def itemMass (s : State) (i : Nat) : Int :=
  if i < 32 then if s.bank.tankFitted i then (s.tank i).mass else 0
  else if i < 42 then if s.bank.holdFitted (i - 32) then (s.hold (i - 32)).mass else 0
  else nth s.engine.weights (i - 42) 0

/-- The uncertainty of a tank as the snapshot takes it (Table 3-2). -/
def itemUncertainty (s : State) (t : Nat) : Int := if s.bank.tankFitted t then (s.tank t).uncertainty else 0

/-- A vector filled by index. -/
def fill (n : Nat) (f : Nat → Int) : Vector Int n :=
  forEach (List.range n) (fun i v => upd v i fun _ => f i) (Vector.replicate n 0)

/-- The watermarks and draft window of a plan header. -/
def marksOf (p : PlanBank) : Marks where
  caution := p.caution
  pause := p.pause
  release := p.release
  maxFwd := p.maxFwd
  maxAft := p.maxAft
  minFwd := p.minFwd
  minAft := p.minAft
  margin := p.draftMargin
  releaseMargin := p.draftReleaseMargin

/-- The snapshot (R38, Table 3-2). -/
def takeSnapshot (s : State) : Snapshot where
  masses := fill 48 s.itemMass
  uncertainty := fill 32 s.itemUncertainty
  reading := s.engine.reading
  readingAge := match s.engine.reading with
    | some r => s.now - r.arrival
    | none => 0
  shipGen := s.mgmt.ship.gen
  planGen := s.mgmt.plan.gen
  session := if s.sys.sessionOpen then s.sys.sessionNumber else none
  live := s.sys.sessionOpen
  marks := marksOf (if s.sys.sessionOpen then s.plan else PlanBank.empty)
  tables := s.bank

/-- The engine IN_FLIGHT with its damage mark clear (R37). -/
def engineStarts (s : State) : State :=
  { s with engine := { s.engine with inFlight := true, damaged := false, abandon := false } }

/-- The snapshot taken, and the damage mark set if a TABLE_FAULT is active (R37, R54). -/
def engineSnapshots (s : State) : State :=
  { s with engine := { s.engine with snapshot := some s.takeSnapshot, damaged := s.faults.anyActive .tableFault } }

/-- The first stage of an evaluation start: the sealed groups switch, the ship group first (R37, R193). -/
def switchSealed (s : State) : State :=
  let a := if s.mgmt.ship.isSealed then s.switchShip else s
  if a.mgmt.plan.isSealed then a.switchPlan else a

/-- An evaluation begins (R37); a switch is followed by the re-examination (R145). -/
def beginEvaluation (s : State) : State :=
  let a := (s.engineStarts.switchSealed.growUncertainty).engineSnapshots
  if s.mgmt.ship.isSealed || s.mgmt.plan.isSealed then a.reexamine else a

/-- An evaluation is requested (R36). -/
def requestEvaluation (s : State) : State :=
  if !s.working then s
  else if s.engine.inFlight then { s with engine := { s.engine with pending := true } }
  else s.beginEvaluation

/-- The mass of a hold in the last snapshot, 0 before any (R28). -/
def snapshotHold (s : State) (h : Nat) : Int :=
  match s.engine.snapshot with
  | some n => n.mass (32 + h)
  | none => 0

/-- The pour deadband test for the hold a POUR changed (R28). -/
def deadbandTest (s : State) (h : Option Nat) : State :=
  match h with
  | none => s
  | some h =>
    if s.plan.deadband ≤ absInt ((s.hold h).mass - s.snapshotHold h) then s.requestEvaluation else s

/-! ### Drafts (R41, R52) -/

/-- A DRAFT that reaches the engine (R41). -/
def takeDraft (s : State) (p : List Byte) : State :=
  let fwd := fieldAt p 0 2
  let aft := fieldAt p 2 2
  { s with engine := { s.engine with
      reading := some { fwd := fwd, aft := aft, ok := decide (fieldAt p 4 1 = 0 ∧ fwd ≤ 30000 ∧ aft ≤ 30000)
                        arrival := s.now } } }

/-- Whether the snapshot's draft reading is compared (R52). -/
def readingUsed (n : Snapshot) : Option DraftReading :=
  match n.reading with
  | some r => if r.ok ∧ n.readingAge < n.tables.gaugeTimeout then some r else none
  | none => none

/-- Whether a reading is within the draft tolerance of the computed drafts (R52). -/
def withinTolerance (n : Snapshot) (r : DraftReading) : Bool :=
  decide (absInt (r.fwd - n.fwd) ≤ n.tables.draftTolerance) && decide (absInt (r.aft - n.aft) ≤ n.tables.draftTolerance)

/-- The over and within runs after the comparison (R52); each saturates at 10. -/
def runsAfter (s : State) (n : Snapshot) : Nat × Nat :=
  match readingUsed n with
  | some r =>
    if withinTolerance n r then (0, min 10 (s.engine.withinRun + 1)) else (min 10 (s.engine.overRun + 1), 0)
  | none => (s.engine.overRun, s.engine.withinRun)

/-! ### Publication (R39, R50 to R56) -/

/-- Whether the snapshot's evaluation is session-current (R38). -/
def sessionCurrent (n : Snapshot) : Bool := n.session.isSome && n.live

/-- Whether an evaluation in flight is VALID now (R54). -/
def validNow (s : State) : Bool := !(s.engine.damaged || s.faults.anyActive .tableFault)

/-- The lag of a session-current record (R56). -/
def lagOf (s : State) (n : Snapshot) : Option Int :=
  if sessionCurrent n then (s.plannedBallast n.cargo).map fun b => n.ballast - b else none

/-- The figures of the record of a VALID evaluation (R39, R42 to R49, R52, R56). -/
def figuresOf (s : State) (n : Snapshot) : Figures :=
  let runs := s.runsAfter n
  n.figures runs.1 runs.2 (readingUsed n).isSome (s.lagOf n)

/-- The number of the next published record (R39). -/
def nextEvaluation (s : State) : Nat := if s.engine.number < 4294967295 then s.engine.number + 1 else 1

/-- The header of the record (R39, R55). -/
def headerOf (s : State) (n : Snapshot) : Header :=
  { number := s.nextEvaluation, shipGen := n.shipGen, planGen := n.planGen, session := n.session, completion := s.stamp }

/-- DRAFT_LIMIT and AIR_DRAFT (R51). -/
def judgeWindow (s : State) (n : Snapshot) (f : Figures) : State :=
  let m := n.marks
  if sessionCurrent n then
    (s.judgeFault .draftLimit subjectNone
        (decide (m.maxFwd - m.margin < f.fwd) || decide (m.maxAft - m.margin < f.aft))
        (decide (f.fwd ≤ m.maxFwd - m.releaseMargin) && decide (f.aft ≤ m.maxAft - m.releaseMargin))).judgeFault
      .airDraft subjectNone
      (decide (f.fwd < m.minFwd + m.margin) || decide (f.aft < m.minAft + m.margin))
      (decide (m.minFwd + m.releaseMargin ≤ f.fwd) && decide (m.minAft + m.releaseMargin ≤ f.aft))
  else (s.clearFault .draftLimit subjectNone).clearFault .airDraft subjectNone

/-- DRAFT_DISAGREE (R52). -/
def judgeDisagree (s : State) (n : Snapshot) (f : Figures) : State :=
  if f.readingUsed then
    s.judgeFault .draftDisagree subjectNone (decide (n.tables.draftCount ≤ f.overRun))
      (decide (n.tables.draftCount ≤ f.withinRun))
  else s

/-- STRESS_LIMIT (R53). -/
def judgeStressLimit (s : State) (n : Snapshot) (f : Figures) : State :=
  s.judgeFault .stressLimit subjectNone (decide (1000 ≤ f.peak.value)) (decide (f.peak.value < n.marks.release))

/-- The faults of a VALID publication (R50 to R54, R71). -/
def judgeValid (s : State) (n : Snapshot) (f : Figures) : State :=
  let a := s.judgeFault .hydroOutOfTable TableCode.hydro.code f.hydro !f.hydro
  let b := ((a.judgeWindow n f).judgeDisagree n f).judgeStressLimit n f
  let c := b.clearFault .conditionInvalid subjectNone
  match f.lag with
  | some x => c.judgeLag x
  | none => c

/-- The engine after a VALID publication (R39). -/
def publishValid (s : State) (h : Header) (f : Figures) : State :=
  { s with engine := { s.engine with
      published := .valid h f, number := h.number, latestTrim := some f.trim, overRun := f.overRun
      withinRun := f.withinRun, inFlight := false } }

/-- The engine after an INVALID publication (R39). -/
def publishInvalid (s : State) (h : Header) : State :=
  { s with engine := { s.engine with published := .invalid h, number := h.number, inFlight := false } }

/-- A publication that is VALID: faults, record, step peak, pacing (R39, R67, R82). -/
def completeValid (s : State) (n : Snapshot) : State :=
  let f := s.figuresOf n
  let a := (s.judgeValid n f).publishValid (s.headerOf n) f
  let b := if sessionCurrent n then a.trackPeak f.peak else a
  b.pacePublication n.marks (some f) (sessionCurrent n) s.followed s.sys.mode

/-- A publication that is INVALID (R54, R82). -/
def completeInvalid (s : State) (n : Snapshot) : State :=
  ((s.raiseFault .conditionInvalid subjectNone).publishInvalid (s.headerOf n)).pacePublication n.marks none false
    s.followed s.sys.mode

/-- The beacon of a mode change made by the event, if any; its re-examination is the event's. -/
def beaconIf (s : State) (before : Mode) : State := if s.sys.mode = before then s else s.sendBeacon

/-- The follow-up of a completion: a pending request begins at once (R39). -/
def followUp (s : State) : State :=
  if s.engine.pending then ({ s with engine := { s.engine with pending := false } } : State).beginEvaluation else s

/-- An evaluation completes: it publishes (R39), or is abandoned after a RELOAD (R40). -/
def completeEvaluation (s : State) : State :=
  match s.engine.inFlight, s.engine.snapshot with
  | true, some n =>
    if s.engine.abandon then
      ({ s with engine := { s.engine with pending := false } } : State).beginEvaluation
    else
      (((if s.validNow then s.completeValid n else s.completeInvalid n).beaconIf s.sys.mode).reexamine).followUp
  | _, _ => s

/-! ### A POUR (R23, R27) -/

/-- The POUR of an open session once its fields are read and it has passed R23 (R24 to R28, then the plan
tracker and the pacing block, R27). -/
def processPour (s : State) (f : PourFields) : State :=
  let a := (s.accountPour f).deadbandTest (s.chargedHold f)
  let b := (a.trackPour f.loader f.spout f.belt).pacePour a.reasonSets f.loader
    (!(s.loader f.loader).baselineSeen) f.belt
  b.tellModeIf a.sys.mode

/-- The subject of a BAD_POUR for an out-of-range field: the loader, or NONE (Table 10-5). -/
def badPourSubject (p : List Byte) : Nat := if fieldAt p 0 1 < 4 then fieldAt p 0 1 else subjectNone

/-- A POUR taken for processing, checked in the order of R23. -/
def takePour (s : State) (p : List Byte) : State :=
  match readPour p with
  | none => s.advise .badPour (badPourSubject p)
  | some f =>
    let r := s.loader f.loader
    if r.baselineSeen ∧ f.cumulative < r.lastCum then s.advise .pourRegression f.loader
    else if (match f.spout with
      | some h => s.bank.holdFitted h
      | none => true) then s.processPour f
    else s.advise .badPour f.loader

/-- A telegram the shore line unit takes (R22). -/
def takeShore (s : State) (t : Telegram) : State :=
  let a := s.signOfLife
  if t.kind = kindPour ∧ s.sys.sessionOpen then a.takePour t.payload else a

end State

end Sys2Proof.Machine
end

