-- ==== Sys2Proof/Machine/Modes.lean ====
section
/-! DEFINITION. The mode machine (chapter 10) and the clock's passage: resets, end of settle, table-fault
BYPASS and reload, sessions, CLEAR_SAFE, the scrub, the alarm output's phase, the end of a STORE. -/

namespace Sys2Proof.Machine

namespace State

/-! ### Resets (R169, R176, R198) -/

/-- A reset of the part: every block at its reset values, in BYPASS with the settle of the cause; the ship
store and the queue of waiting commands are kept. A STORE in progress is cut off, its mark clear since its
acceptance (R196). -/
def resetNow (s : State) (cause : ResetCause) : State := State.afterReset cause s.mgmt.store s.pending

/-- The part unpowered: relay closed, alarm output off, nothing runs (R97, R184, notes/assumptions/29.md). -/
def unpowered (s : State) : State :=
  let r := s.resetNow .powerOn
  { r with sys := { r.sys with powered := false, settle := none } }

/-- A table-fault BYPASS (R176): every block at its reset values, the latch set, the alarm STEADY, and
the reload one second away. -/
def tableFaultBypass (s : State) : State :=
  let r := s.resetNow .tableReload
  { r with
    sys := { r.sys with settle := none, reload := some 1, latch := true }
    faults := { r.faults with alarm := .steady } }

/-- A commanded reset that is due performed before anything else is taken (R198, notes/assumptions/7.md). -/
def performDue (s : State) : State := if s.out.resetWait = .due then s.resetNow .commanded else s

/-! ### Loading and entering circuit (R169, R170, R176, R195) -/

/-- Whether the stored image is VALID (R195). -/
def storeValid (s : State) : Bool := s.mgmt.store.mark && s.mgmt.store.bank.firstDamaged.isNone

/-- The ship group loaded into both banks at a settle's end or a reload (R195). -/
def loadStore (s : State) : State :=
  let valid := s.storeValid
  let b := if valid then s.mgmt.store.bank else ShipBank.default
  { s with mgmt := { s.mgmt with
      ship := { s.mgmt.ship with active := b, staging := b }
      storeState := if valid then .valid else .invalid
      unstored := !valid } }

/-- The records that take their reset values from the active tables: densities and addresses (R3, R117). -/
def bindRecords (s : State) : State := s.resetTanks.bindStations

/-- The timers that run on entry to STANDBY (R4, R35, R118, R194). -/
def startTimers (s : State) : State :=
  let a := s.startGaugeTimers.startPresenceTimers
  { a with
    engine := { a.engine with intervalAt := some (a.now + a.bank.evaluationInterval) }
    mgmt := { a.mgmt with scrubAt := some (a.now + 1) } }

/-- The part comes into circuit from BYPASS in a mode (R169, R97, R33). -/
def enterCircuit (s : State) (m : Mode) : State :=
  let a : State := { s with sys := { s.sys with mode := m, settle := none, reload := none, latch := false } }
  let b := a.bindRecords.judgeAlarm.sendBeacon
  if m = .standby then b.startTimers else b

/-- The end of a settle (R169). -/
def endSettle (s : State) : State := s.loadStore.enterCircuit (if s.storeValid then .standby else .unconfigured)

/-- Whether the settle timer has expired. -/
def settleDue (s : State) : Bool := s.sys.powered && s.sys.settle == some 0

/-- The reload one second after a table-fault BYPASS (R176). -/
def reloadAfterFault (s : State) : State :=
  if s.storeValid then s.loadStore.enterCircuit .standby
  else
    let a := s.loadStore
    { a with sys := { a.sys with reload := none } }

/-- Whether the reload of R176 is due. -/
def reloadDue (s : State) : Bool := s.sys.powered && s.sys.reload == some 0

/-- Entry to STANDBY from UNCONFIGURED, told (R170). -/
def leaveUnconfigured (s : State) : State := (s.setMode .standby).startTimers.tellMode

/-! ### Sessions (R171, R172) -/

/-- The session flag, the number and the mode at OPEN_SESSION (R171, step 1). -/
def markOpen (s : State) (number : Nat) : State :=
  { s with sys := { s.sys with sessionOpen := true, sessionNumber := some number, mode := .loading } }

/-- OPEN_SESSION accepted (R171). -/
def openSession (s : State) (number : Nat) : State :=
  let a := (s.markOpen number).openAccount.openTracking.latchReports
  let b := (a.makeSessionOpen number a.totalCargo a.totalBallast).startConditionTimer
  b.openPacing.requestEvaluation.tellMode

/-- The session flag cleared and, in LOADING, the mode STANDBY; an evaluation of the session is no longer
session-current (R172, R38). -/
def markClosed (s : State) : State :=
  { s with
    sys := { s.sys with sessionOpen := false, mode := if s.sys.mode = .loading then .standby else s.sys.mode }
    engine := { s.engine with snapshot := s.engine.snapshot.map fun n => { n with live := false } } }

/-- CLOSE_SESSION accepted (R172). -/
def closeSession (s : State) : State :=
  (s.closeTanks.closePacing.makeSessionClose.closeAccount.closeTracking.closeReports.markClosed).tellModeIf s.sys.mode

/-- CLEAR_SAFE accepted (R174). -/
def clearSafe (s : State) : State :=
  ((s.setMode (if s.sys.sessionOpen then .loading else .standby)).pacingEvent fun s => s.removeReasonAll .safe).tellMode

/-- Whether a CRITICAL active mark is set (R171, R174). -/
def criticalActive (s : State) : Bool := s.faults.marks.any fun m => m.kind.severity = .critical

/-! ### The scrub (R175, R176, R194) -/

/-- A TABLE_FAULT raised by a scrub mismatch (R175, R54). -/
def raiseTableFault (s : State) (c : TableCode) : State :=
  if s.faults.active .tableFault c.code then s
  else
    let a := s.raiseFault .tableFault c.code
    ({ a with engine := { a.engine with damaged := a.engine.damaged || a.engine.inFlight } } : State).afterRaising s.sys.mode

/-- Whether the next scrub check is due (R194). -/
def scrubDue (s : State) : Bool :=
  s.working && match s.mgmt.scrubAt with
    | some d => decide (d ≤ s.now)
    | none => false

/-- One scrub check (R194). -/
def scrub (s : State) : State :=
  let c := s.mgmt.scrubPos
  let a : State := { s with mgmt := { s.mgmt with scrubPos := c.next, scrubAt := some (s.now + 1) } }
  if (s.bank.get c).intact c then a
  else if c.inEvaluationGroup then a.raiseTableFault c
  else a.tableFaultBypass

/-! ### Alarm output phase (R184) -/

/-- Whether the next toggle of a PULSING output is due (R184). -/
def alarmToggleDue (s : State) : Bool :=
  s.sys.powered && s.faults.alarm == .pulsing && decide (s.faults.pulseAt ≤ s.now)

/-- One toggle of the PULSING output (R184). -/
def toggleAlarm (s : State) : State :=
  { s with faults := { s.faults with pulseOn := !s.faults.pulseOn, pulseAt := s.now + 1 } }

/-! ### Interval timers (R35, R33, R163) -/

/-- Whether the evaluation interval timer has expired. -/
def intervalDue (s : State) : Bool :=
  s.working && match s.engine.intervalAt with
    | some d => decide (d ≤ s.now)
    | none => false

/-- The evaluation interval timer's expiry: it requests an evaluation and then restarts, with the interval of the PART
table active after the request (R35; DESIGN CHOICE, notes/assumptions/57.md). -/
def intervalExpired (s : State) : State :=
  let a := s.requestEvaluation
  { a with engine := { a.engine with intervalAt := some (a.now + a.bank.evaluationInterval) } }

/-- Whether the condition timer has expired. -/
def conditionDue (s : State) : Bool :=
  s.working && match s.reports.conditionAt with
    | some d => decide (d ≤ s.now)
    | none => false

/-- The condition timer's expiry: a CONDITION record or REPORT_SKIPPED, and the timer restarts (R163). -/
def conditionExpired (s : State) : State :=
  let r := s.makeCondition
  let a := if r.2 then r.1 else s.advise .reportSkipped subjectNone
  { a with reports := { a.reports with conditionAt := a.conditionDeadline a.reports.interval } }

end State

end Sys2Proof.Machine
end

