-- ==== Sys2Proof/Machine/Validate.lean ====
section
/-! DEFINITION. Commit validation: the plan group (R62, Table 4-3) and the ship group (R191, Tables 11-4
and 11-7). A failure is the table and the entry index that TABLE_INVALID reports. -/

namespace Sys2Proof.Machine

/-- A failed check: the table and the entry index. -/
structure Failure where
  table : TableCode
  entry : Nat
  deriving DecidableEq, Repr

/-- Whether a natural number lies in a range. -/
def inNat (lo hi x : Nat) : Bool := decide (lo ≤ x) && decide (x ≤ hi)

/-- Whether an integer lies in a range. -/
def inInt (lo hi x : Int) : Bool := decide (lo ≤ x) && decide (x ≤ hi)

/-- The first index of a list at which a check fails. -/
def firstBad (l : List Nat) (ok : Nat → Bool) : Option Nat := l.find? fun i => !ok i

/-- A failure of one table at the first bad index. -/
def failAt (t : TableCode) (l : List Nat) (ok : Nat → Bool) : Option Failure :=
  (firstBad l ok).map fun i => { table := t, entry := i }

/-- A failure of a one-entry table, or of an entry known beforehand. -/
def failUnless (t : TableCode) (entry : Nat) (ok : Bool) : Option Failure :=
  if ok then none else some { table := t, entry := entry }

/-- The first failure of a list of checks. -/
def firstFailure (l : List (Option Failure)) : Option Failure := l.findSome? id

/-! ### The plan group (Table 4-3) -/

namespace PlanBank

/-- Check 1: header fields in the ranges of Table 4-1. -/
def headerRanges (b : PlanBank) : Bool :=
  inInt 1 999 b.caution && inInt 1 999 b.pause && inInt 1 999 b.release && inInt 1 1000000 b.lagPause
    && inInt 0 999999 b.lagRelease && inInt (-1000000) (-1) b.leadLimit && inInt (-999999) 0 b.leadRelease
    && inInt 1 30000 b.maxFwd && inInt 1 30000 b.maxAft && inInt 0 29999 b.minFwd && inInt 0 29999 b.minAft
    && inInt 0 2000 b.draftMargin && inInt 0 2000 b.draftReleaseMargin && inNat 0 100000 b.grace
    && inNat 1 8 b.maxPumps && inNat 1 100 b.maxSpeed && inInt 990 1040 b.portDensity && inInt 1 100000 b.deadband
    && inNat 0 60 b.reportInterval && decide (b.reportMask.toNat < 64)
    && (List.range 10).all fun h => inInt 0 2000000 (b.initialCargo h)

/-- Checks 2 to 5: the order of the watermarks, lag marks, draft margins and drafts. -/
def headerOrder (b : PlanBank) : Bool :=
  (decide (b.caution ≤ b.release) && decide (b.release < b.pause) && decide (b.pause < 1000))
    && (decide (b.leadLimit < b.leadRelease) && decide (b.leadRelease ≤ 0) && decide (0 ≤ b.lagRelease)
      && decide (b.lagRelease < b.lagPause))
    && decide (b.draftMargin ≤ b.draftReleaseMargin)
    && (decide (b.minFwd < b.maxFwd) && decide (b.minAft < b.maxAft))

/-- Whether slot j carries the number its place asks for: j + 1 among the plan's steps, 0 after them
(R188). -/
def slotInOrder (b : PlanBank) (j : Nat) : Bool := b.slotNumber j == if j < b.stepCount then j + 1 else 0

/-- Check 7: the fields of a step in the ranges of Table 4-2. -/
def stepRanges (b : PlanBank) (j : Nat) : Bool :=
  inInt 1 20000000 (b.slotCargo j) && inInt 0 2000000 (b.slotBallast j)
    && (List.range 4).all fun l => decide (b.slotAssignCode j l < 10) || b.slotAssignCode j l == 15

/-- Check 8: every hold assigned in a step is fitted in the active ship group. -/
def stepHolds (b : PlanBank) (ship : ShipBank) (j : Nat) : Bool :=
  (List.range 4).all fun l =>
    match b.slotAssign j l with
    | some h => ship.holdFitted h
    | none => true

/-- The sum of the initial cargo of all ten holds. -/
def initialTotal (b : PlanBank) : Int := ((List.range 10).map b.initialCargo).sum

/-- The plan's validation, in the order of Table 4-3 (R62). The entry of a step check is the step's number. A
plan without steps names PLAN_STEPS (DESIGN CHOICE, notes/assumptions/26.md). -/
def validate (b : PlanBank) (ship : ShipBank) : Option Failure :=
  let steps := List.range b.stepCount
  let step := fun (f : Option Failure) => f.map fun x => { x with entry := x.entry + 1 }
  firstFailure
    [failUnless .planHeader 0 b.headerRanges,
     failUnless .planHeader 0 b.headerOrder,
     step (failAt .planSteps (List.range 64) b.slotInOrder),
     failUnless .planSteps 0 (decide (0 < b.stepCount)),
     step (failAt .planSteps steps b.stepRanges),
     step (failAt .planSteps steps (b.stepHolds ship)),
     failUnless .planSteps 1 (decide (b.initialTotal < b.slotCargo 0)),
     step (failAt .planSteps steps fun j => j == 0 || decide (b.slotCargo (j - 1) < b.slotCargo j))]

end PlanBank

/-! ### The ship group (Tables 11-4 and 11-7) -/

namespace ShipBank

/-- The fitted tanks. -/
def fittedTanks (b : ShipBank) : List Nat := (List.range 32).filter b.tankFitted

/-- The fitted pump lines. -/
def fittedLines (b : ShipBank) : List Nat := (List.range 8).filter b.lineFitted

/-- The items judged by check 1: those of fitted tanks and holds, and the fixed weights
(notes/assumptions/25.md). -/
def judgedItems (b : ShipBank) : List Nat :=
  (List.range 48).filter fun i =>
    if i < 32 then b.tankFitted i else if i < 42 then b.holdFitted (i - 32) else true

/-- Check 1 for PART (Table 11-7, Table 10-6). -/
def partRanges (b : ShipBank) : Bool :=
  inNat 1 254 b.ownAddress.toNat && inNat 1 300 b.ackTimeout && inNat 1 600 b.holdTimeout
    && inNat 1 300 b.presenceTimeout && inNat 1 300 b.gaugeTimeout && inNat 1 600 b.stillInterval
    && inNat 1 60 b.evaluationInterval && inNat 1 600 b.silenceTimeout && inNat 1 60 b.beaconInterval
    && inNat 1 600 b.confirmTimeout && inInt 0 2000 b.draftTolerance && inNat 1 10 b.draftCount
    && (List.range 9).all fun k => decide (b.part.mem.u1 (20 + k) ≤ 1)

/-- Check 1 for SHIP. -/
def shipRanges (b : ShipBank) : Bool := inInt 0 5000000 b.lightshipMass && inInt (-30000) 30000 b.lightshipLcg

/-- Check 1 for a ROUTE entry: a role and an action that R101 defines. -/
def routeRanges (b : ShipBank) (a : Nat) : Bool :=
  decide (b.route.mem.u1 (3 * a) ≤ 6) && decide (b.route.mem.u1 (3 * a + 2) ≤ 2)

/-- Check 1 for a tank descriptor. -/
def tankRanges (b : ShipBank) (t : Nat) : Bool :=
  decide (b.tank.mem.u1 (20 * t) ≤ 1)
    && (!b.tankFitted t
      || ((b.tankLine t).isSome || b.tank.mem.u1 (20 * t + 2) == 255)
        && inNat 8 63 (b.tankValve t) && inInt 1 2000000 (b.tankCapacity t) && inInt 990 1040 (b.tankDensity t)
        && inInt 5 1000 (b.tankThreshold t) && inInt 1 200 (b.tankLevelRate t) && inInt 0 500 (b.tankJitter t)
        && inInt (-2000) 2000 (b.tankTrimFactor t) && inInt 0 100000 (b.tankEmptyMark t))

/-- Check 1 for the sounding points of a tank. -/
def soundingRanges (b : ShipBank) (t : Nat) : Bool :=
  (b.points t).all fun p => inInt 0 40000 p.1 && inInt 0 2000000 p.2

/-- Check 1 for an item. -/
def itemRanges (b : ShipBank) (i : Nat) : Bool := inInt (-30000) 30000 (b.itemLcg i) && inInt 0 2000000 (b.itemCapacity i)

/-- Check 1 for an influence figure; the shear factor's range is its width. -/
def influenceRanges (b : ShipBank) (k : Nat) : Bool := inInt (-30000) 30000 (b.momentLever (k / 24) (k % 24))

/-- The influence figures judged: items by fitted stations. -/
def judgedInfluence (b : ShipBank) : List Nat :=
  b.judgedItems.flatMap fun i => b.fittedStations.map fun st => 24 * i + st

/-- Check 1 for a check station. -/
def stationRanges (b : ShipBank) (st : Nat) : Bool :=
  inInt (-10000000) 10000000 (b.sf0 st) && inInt (-100000000) 100000000 (b.bm0 st)
    && inInt 1 10000000 (b.shearLimitPos st) && inInt 1 10000000 (b.shearLimitNeg st)
    && inInt 1 100000000 (b.hoggingLimit st) && inInt 1 100000000 (b.saggingLimit st)

/-- Check 1 for a HYDRO row. -/
def hydroRanges (b : ShipBank) (k : Nat) : Bool :=
  let r := b.hydroRow k
  inInt 0 10000000 r.disp && inInt 0 30000 r.tm && inInt (-30000) 30000 r.lcb && inInt 0 1000000 r.mct

/-- The HYDRO rows fitted, by index. -/
def fittedRows (b : ShipBank) : List Nat := List.range (min b.hydroCount 32)

/-- Check 1 for a pump line descriptor. -/
def lineRanges (b : ShipBank) (l : Nat) : Bool :=
  decide (b.pumpLine.mem.u1 (11 * l) ≤ 1)
    && (!b.lineFitted l || (inNat 1 600 (b.startLimit l) && inNat 1 600 (b.dryRunDelay l)))

/-- Check 1: every field within its range, table by table in code order (Table 11-4). -/
def checkRanges (b : ShipBank) : Option Failure :=
  firstFailure
    [failUnless .part 0 b.partRanges,
     failUnless .ship 0 b.shipRanges,
     failAt .route (List.range 256) b.routeRanges,
     failAt .tank (List.range 32) b.tankRanges,
     failAt .sounding b.fittedTanks b.soundingRanges,
     failAt .item b.judgedItems b.itemRanges,
     failAt .influence b.judgedInfluence b.influenceRanges,
     failAt .station b.fittedStations b.stationRanges,
     failAt .hydro b.fittedRows b.hydroRanges,
     failAt .pumpLine (List.range 8) b.lineRanges]

/-- Check 2: the counts of SHIP. -/
def checkCounts (b : ShipBank) : Bool :=
  inNat 1 10 b.holdCount && inNat 1 24 b.stationCount && inNat 2 32 b.hydroCount
    && b.tankCount == b.fittedTanks.length

/-- Whether each adjacent pair of a list satisfies a relation. -/
def adjacent {α : Type} (r : α → α → Bool) : List α → Bool
  | x :: y :: rest => r x y && adjacent r (y :: rest)
  | _ => true

/-- Check 3: the sounding points of a fitted tank. -/
def checkPoints (b : ShipBank) (t : Nat) : Bool :=
  inNat 2 24 (b.pointCount t) && adjacent (fun p q => decide (p.1 < q.1) && decide (p.2 ≤ q.2)) (b.points t)

/-- Check 4: the limits of a fitted check station. -/
def checkLimits (b : ShipBank) (st : Nat) : Bool :=
  decide (1 ≤ b.shearLimitPos st) && decide (1 ≤ b.shearLimitNeg st) && decide (1 ≤ b.hoggingLimit st)
    && decide (1 ≤ b.saggingLimit st)

/-- Check 5: a HYDRO row displaces more than the row before it. -/
def checkRow (b : ShipBank) (k : Nat) : Bool := k == 0 || decide ((b.hydroRow (k - 1)).disp < (b.hydroRow k).disp)

/-- Check 6 at one address: roles of entries 0 and 255, bindings, one entry for each station, and at most
four CONSOLE entries. `bs` are the station bindings of the table, by rising address. -/
def checkRoute (b : ShipBank) (bs : List (Nat × Byte)) (n : Nat) : Bool :=
  let a : Byte := BitVec.ofNat 8 n
  match b.role a with
  | .none => true
  | role =>
    n != 0 && n != 255
      && (match role with
        | .gauge => decide (b.binding a < 32)
        | .pump => decide (b.binding a < 8) && addressIn bs (b.binding a) == some a
        | .valve => inNat 8 63 (b.binding a) && addressIn bs (b.binding a) == some a
        | .console => decide (((List.range n).countP fun m => b.role (BitVec.ofNat 8 m) == .console) < 4)
        | _ => true)

/-- Check 7: a class 0..3. -/
def checkClass (b : ShipBank) (k : Nat) : Bool := decide (b.cls.mem.u1 k < 4)

/-- Whether a station is bound. -/
def isBound (bs : List (Nat × Byte)) (i : Nat) : Bool := (addressIn bs i).isSome

/-- Check 8: a fitted tank's valve is bound and its line, where named, is fitted. -/
def checkTankLinks (b : ShipBank) (bs : List (Nat × Byte)) (t : Nat) : Bool :=
  isBound bs (b.tankValve t) && match b.tankLine t with
    | some l => b.lineFitted l
    | none => true

/-- Check 9: a fitted line's stations are bound, and its tank set is of up to eight fitted tanks that name
the line. A tank names one line, so no tank is then in two sets. -/
def checkLineLinks (b : ShipBank) (bs : List (Nat × Byte)) (l : Nat) : Bool :=
  isBound bs l && inNat 8 63 (b.seaValve l) && isBound bs (b.seaValve l) && inNat 8 63 (b.overboardValve l)
    && isBound bs (b.overboardValve l) && decide ((b.lineTanks l).length ≤ 8)
    && (b.lineTanks l).all fun t => b.tankFitted t && b.tankLine t == some l

/-- The ship group's validation, in the order of Table 11-4 (R191). -/
def validate (b : ShipBank) : Option Failure :=
  let bs := b.stationBindings
  firstFailure
    [b.checkRanges,
     failUnless .ship 0 b.checkCounts,
     failAt .sounding b.fittedTanks b.checkPoints,
     failAt .station b.fittedStations b.checkLimits,
     failAt .hydro b.fittedRows b.checkRow,
     failAt .route (List.range 256) (b.checkRoute bs),
     failAt .cls (List.range 256) b.checkClass,
     failAt .tank b.fittedTanks (b.checkTankLinks bs),
     failAt .pumpLine b.fittedLines (b.checkLineLinks bs)]

end ShipBank

end Sys2Proof.Machine
end

