-- ==== Sys2Proof/Machine/Mgmt.lean ====
section
/-! DEFINITION. The management responder (chapter 11 and the management sections of the other chapters):
one function per request, from its argument bytes to the state it leaves and the answer it gives; the
coding of the MREPLY (R185). Widths of fields whose range the manual does not state, and the place of the
TIME_UNSET flag, are notes/assumptions/15.md and 22.md. -/

namespace Sys2Proof.Machine

/-- The reasons of a refusal (R185). -/
inductive Reason4 where
  | badRequest | wrongMode | busy | tableInvalid | range | planAbsent | notFound
  deriving DecidableEq, Repr

/-- The code of a refusal's reason (R185). -/
def Reason4.code : Reason4 → Nat
  | .badRequest => 1 | .wrongMode => 2 | .busy => 3 | .tableInvalid => 4 | .range => 5 | .planAbsent => 6
  | .notFound => 7

/-- The answer to a request: ACCEPTED with results, REFUSED with a reason and results (a TABLE_INVALID
carries some), RESET's ACCEPTED, or none yet (STORE, answered when its writing ends). -/
inductive Answer where
  | accepted (results : List Byte)
  | refused (reason : Reason4) (results : List Byte)
  | resetAccepted
  | later
  deriving DecidableEq, Repr

/-- What a request does: the state it leaves and its answer. -/
abbrev Served := State × Answer

/-- A refusal without results, which changes nothing. -/
def State.refuse (s : State) (r : Reason4) : Served := (s, .refused r [])

/-- The results of a TABLE_INVALID: table code and entry index (R185). -/
def failureResults (table entry : Nat) : List Byte := enc1 table ++ enc2 entry

/-- The largest results one MREPLY carries (R185). -/
def replyRoom : Nat := 51

/-- The pieces results are sent in (R185). -/
def replyPieces (results : List Byte) : List (List Byte) := chunks replyRoom results.length results

namespace State

/-! ### MREPLY (R185) -/

/-- The payload of one MREPLY segment. -/
def replyPayload (code : Byte) (status reason idx count : Nat) (piece : List Byte) : List Byte :=
  [code] ++ enc1 status ++ enc1 reason ++ enc1 idx ++ enc1 count ++ piece

/-- One MREPLY of an answer. -/
def replyTelegram (s : State) (src seq code : Byte) (status reason idx count : Nat) (piece : List Byte) : Telegram :=
  { dst := src, src := s.bank.ownAddress, kind := kindMreply, seq := seq
    payload := replyPayload code status reason idx count piece }

/-- An answer sent in its segments, in order (R185). -/
def sendReply (s : State) (src seq code : Byte) (status reason : Nat) (results : List Byte) : State :=
  let ps := replyPieces results
  (ps.zipIdx.foldl
    (fun s p => (s.send .console (s.replyTelegram src seq code status reason (p.2 + 1) ps.length p.1)).1) s)

/-- RESET's MREPLY: the reset is performed when its transmission ends, or at once if it is lost (R198). A
RESET taken while one waits is performed by that one (notes/assumptions/31.md). -/
def sendResetReply (s : State) (src seq code : Byte) : State :=
  let t := s.replyTelegram src seq code 0 0 1 1 []
  match s.out.resetWait with
  | .idle =>
    (({ s with out := { s.out with resetWait := .waiting } } : State).offer .console
      { tel := t, cls := s.bank.classOf kindMreply, resetReply := true }).1
  | _ => (s.send .console t).1

/-- A request's answer sent (R185). -/
def answer (r : Served) (src seq code : Byte) : State :=
  match r.2 with
  | .accepted results => r.1.sendReply src seq code 0 0 results
  | .refused reason results => r.1.sendReply src seq code 1 reason.code results
  | .resetAccepted => r.1.sendResetReply src seq code
  | .later => r.1

/-- Whether the mode is UNCONFIGURED. -/
def unconfigured (s : State) : Bool := s.sys.mode == .unconfigured

/-- The TIME_UNSET flag byte of a reply (R185). -/
def unsetFlag (s : State) : List Byte := encFlag (!s.clock.timeSet)

/-- A time on the seconds count that may be absent, in clock seconds (R185, R187). -/
def encSeconds (s : State) (t : Option Nat) : List Byte := encTime (t.map s.clockSeconds)

/-! ### READ_STATUS, SET_TIME (R186, R187) -/

/-- The GENERAL part of READ_STATUS (Table 11-2). -/
def statusGeneral (s : State) : List Byte :=
  enc1 s.sys.mode.code ++ encFlag s.sys.sessionOpen ++ encOpt (s.sys.sessionNumber.map Int.ofNat)
    ++ enc1 s.sys.cause.code
    ++ enc4 (s.clock.seconds % 4294967296) ++ enc4 s.clock.offset ++ encFlag s.clock.timeSet
    ++ enc2 s.mgmt.ship.gen ++ encFlag s.mgmt.ship.isSealed ++ encFlag s.mgmt.ship.isPending
    ++ enc2 s.mgmt.plan.gen ++ encFlag s.mgmt.plan.isSealed ++ encFlag s.mgmt.plan.isPending
    ++ encFlag (decide (0 < s.plan.stepCount))
    ++ enc1 s.mgmt.storeState.code ++ encFlag s.mgmt.unstored
    ++ enc1 s.faults.alarm.code ++ enc1 s.faults.entries.length ++ encFlag s.faults.overflow
    ++ enc1 s.reports.records.length ++ encOpt (s.reports.records.head?.map fun r => (r.number : Int))
    ++ enc2 s.reports.next ++ enc2 s.reports.dropped
    ++ encFlag s.engine.inFlight ++ encFlag s.engine.pending ++ enc4 s.engine.number

/-- The COUNTERS part of READ_STATUS for a port (Table 11-2). -/
def statusCounters (p : PortState) : List Byte :=
  enc2 p.accepted ++ enc2 p.badFrames ++ enc2 p.foreignSource ++ enc2 p.misdirected ++ enc2 p.trapped
    ++ enc2 p.routeDropped ++ (List.range 4).flatMap fun k => enc2 (nth p.queueDrops k 0)

/-- READ_STATUS (R186). -/
def doReadStatus (s : State) (args : List Byte) : Served :=
  match args with
  | [part] => if part = 0 then (s, .accepted s.statusGeneral) else s.refuse .badRequest
  | [part, port] =>
    if part ≠ 1 then s.refuse .badRequest
    else if port = 0 then (s, .accepted (statusCounters s.out.console))
    else if port = 1 then (s, .accepted (statusCounters s.out.field))
    else if port = 2 then (s, .accepted (statusCounters s.out.shore))
    else s.refuse .badRequest
  | _ => s.refuse .badRequest

/-- The time offset that makes the clock seconds a given value now (R187). -/
def offsetFor (s : State) (seconds : Nat) : Nat := (seconds + (4294967296 - s.clock.seconds % 4294967296)) % 4294967296

/-- SET_TIME (R187). -/
def doSetTime (s : State) (args : List Byte) : Served :=
  if args.length = 4 then
    let o := s.offsetFor (beNat args)
    ({ s with clock := { s.clock with offset := o, timeSet := true } }, .accepted (enc4 s.clock.offset ++ enc4 o))
  else s.refuse .badRequest

/-! ### WRITE_TABLE, READ_TABLE (R189, R190) -/

/-- Whether the staging bank of a table's group is sealed. -/
def sealedFor (s : State) (c : TableCode) : Bool := if c.isPlan then s.mgmt.plan.isSealed else s.mgmt.ship.isSealed

/-- The staging copy of a table. -/
def stagingTable (s : State) (c : TableCode) : TableImage :=
  if c.isPlan then s.mgmt.plan.staging.get c else s.mgmt.ship.staging.get c

/-- The active copy of a table. -/
def activeTable (s : State) (c : TableCode) : TableImage :=
  if c.isPlan then s.mgmt.plan.active.get c else s.mgmt.ship.active.get c

/-- Bytes written into the staging copy of a table, and the group's pending flag set (R189). -/
def writeStaging (s : State) (c : TableCode) (x : Nat) (bs : List Byte) : State :=
  let t := s.stagingTable c
  let u : TableImage := { t with mem := t.mem.writeBytes x bs }
  if c.isPlan then
    { s with mgmt := { s.mgmt with
        plan := { s.mgmt.plan with staging := s.mgmt.plan.staging.set u c, isPending := true } } }
  else
    { s with mgmt := { s.mgmt with
        ship := { s.mgmt.ship with staging := s.mgmt.ship.staging.set u c, isPending := true } } }

/-- WRITE_TABLE (R189). -/
def doWriteTable (s : State) (args : List Byte) : Served :=
  let data := args.drop 3
  if args.length < 4 ∨ 55 < args.length then s.refuse .badRequest
  else
    match TableCode.ofCode (fieldAt args 0 1) with
    | none => s.refuse .range
    | some c =>
      if c.size < fieldAt args 1 2 + data.length then s.refuse .range
      else if s.sealedFor c then s.refuse .busy
      else (s.writeStaging c (fieldAt args 1 2) data, .accepted [])

/-- The generation and sealed flag of a table's group (R190). -/
def groupResults (s : State) (c : TableCode) : List Byte :=
  if c.isPlan then enc2 s.mgmt.plan.gen ++ encFlag s.mgmt.plan.isSealed
  else enc2 s.mgmt.ship.gen ++ encFlag s.mgmt.ship.isSealed

/-- READ_TABLE (R190). The staging copy's check word is computed at the request. -/
def doReadTable (s : State) (args : List Byte) : Served :=
  let x := fieldAt args 2 2
  let n := fieldAt args 4 1
  if args.length ≠ 5 ∨ 1 < fieldAt args 1 1 then s.refuse .badRequest
  else
    match TableCode.ofCode (fieldAt args 0 1) with
    | none => s.refuse .range
    | some c =>
      if n < 1 ∨ 48 < n ∨ c.size < x + n then s.refuse .range
      else if fieldAt args 1 1 = 0 then
        let t := s.activeTable c
        (s, .accepted (t.mem.readBytes x n ++ s.groupResults c ++ enc2 t.check.toNat))
      else
        let t := s.stagingTable c
        (s, .accepted (t.mem.readBytes x n ++ s.groupResults c ++ enc2 (checkWordOf c t.mem).toNat))

/-! ### COMMIT (R191, R192) -/

/-- The refusal of a failed validation. -/
def refuseInvalid (s : State) (f : Failure) : Served :=
  (s, .refused .tableInvalid (failureResults f.table.code f.entry))

/-- The ship group sealed by an accepted COMMIT (R192). -/
def sealShip (s : State) : State :=
  { s with mgmt := { s.mgmt with
      ship := { s.mgmt.ship with staging := s.mgmt.ship.staging.withChecks, isSealed := true, isPending := false } } }

/-- The plan group sealed by an accepted COMMIT (R192). -/
def sealPlan (s : State) : State :=
  { s with mgmt := { s.mgmt with
      plan := { s.mgmt.plan with staging := s.mgmt.plan.staging.withChecks, isSealed := true, isPending := false } } }

/-- LOADING, or SAFE with the session flag set (R191, R197). -/
def sessionMode (s : State) : Bool := s.sys.mode == .loading || s.sys.mode == .safe && s.sys.sessionOpen

/-- COMMIT of the ship group (R191, R192, R170): in UNCONFIGURED it switches at the acceptance. -/
def commitShip (s : State) : Served :=
  if s.sessionMode then s.refuse .wrongMode
  else if s.mgmt.writing.isSome then s.refuse .busy
  else if s.mgmt.ship.isSealed then s.refuse .busy
  else
    match s.mgmt.ship.staging.validate with
    | some f => s.refuseInvalid f
    | none =>
      (if s.unconfigured then s.sealShip.switchShip.leaveUnconfigured else s.sealShip.requestEvaluation,
        .accepted (enc2 (succWrap16 s.mgmt.ship.gen)))

/-- COMMIT of the plan group (R62, R191, R192). -/
def commitPlan (s : State) : Served :=
  if s.unconfigured then s.refuse .wrongMode
  else if s.mgmt.plan.isSealed then s.refuse .busy
  else
    match s.mgmt.plan.staging.validate s.bank with
    | some f => s.refuseInvalid f
    | none => (s.sealPlan.requestEvaluation, .accepted (enc2 (succWrap16 s.mgmt.plan.gen)))

/-- COMMIT (R191). -/
def doCommit (s : State) (args : List Byte) : Served :=
  match args with
  | [g] => if g = 0 then s.commitShip else if g = 1 then s.commitPlan else s.refuse .badRequest
  | _ => s.refuse .badRequest

/-! ### STORE, RELOAD, RESET, REQUEST_EVALUATION (R196 to R199) -/

/-- The lowest table code with an active TABLE_FAULT (R196). -/
def faultedTable (s : State) : Option TableCode :=
  TableCode.shipTables.find? fun c => s.faults.active .tableFault c.code

/-- The writing of a STORE begun: the mark cleared, the active group taken (R196). -/
def beginStore (s : State) (src seq : Byte) : State :=
  { s with mgmt := { s.mgmt with
      store := { s.mgmt.store with mark := false }
      storeState := .writing
      writing := some { src := src, seq := seq, bank := s.bank, gen := s.mgmt.ship.gen, deadline := s.now + 4 } } }

/-- STORE (R196); its reply is sent when the writing ends. -/
def doStore (s : State) (src seq : Byte) (args : List Byte) : Served :=
  if args ≠ [] then s.refuse .badRequest
  else if s.unconfigured then s.refuse .wrongMode
  else if s.mgmt.writing.isSome then s.refuse .busy
  else if s.mgmt.ship.isSealed then s.refuse .busy
  else
    match s.faultedTable with
    | some c => (s, .refused .tableInvalid (failureResults c.code 0))
    | none => (s.beginStore src seq, .later)

/-- The request code of STORE (Table 11-1). -/
def codeStore : Byte := 6

/-- The end of a STORE's writing (R196): every table read back matches, or the first that does not. -/
def endStore (s : State) : State :=
  match s.mgmt.writing with
  | none => s
  | some j =>
    match j.bank.firstDamaged with
    | none =>
      let a : State := { s with mgmt := { s.mgmt with
        store := { bank := j.bank, mark := true }, storeState := .valid, writing := none, unstored := false } }
      (a.clearFault .storeFailed subjectNone).sendReply j.src j.seq codeStore 0 0 (enc2 j.gen)
    | some c =>
      let a : State := { s with mgmt := { s.mgmt with
        store := { bank := j.bank, mark := false }, storeState := .invalid, writing := none } }
      (a.raiseFault .storeFailed subjectNone).sendReply j.src j.seq codeStore 1 Reason4.tableInvalid.code
        (failureResults c.code 0)

/-- Whether a STORE's writing has ended by its 4 s (R196). -/
def storeDue (s : State) : Bool :=
  s.sys.powered && match s.mgmt.writing with
    | some j => decide (j.deadline ≤ s.now)
    | none => false

/-- Both ship banks replaced by the stored image, which this load has judged VALID (R195, R197). -/
def replaceShip (s : State) : State :=
  let b := s.mgmt.store.bank
  { s with
    mgmt := { s.mgmt with
      ship := { active := b, staging := b, gen := succWrap16 s.mgmt.ship.gen, isSealed := false, isPending := false }
      storeState := .valid
      unstored := false }
    engine := { s.engine with abandon := s.engine.inFlight } }

/-- The effects of a RELOAD of a VALID image (R197). -/
def reloadShip (s : State) : State :=
  let a := s.replaceShip.clearTableFaults.reactToShip s.bank
  if s.unconfigured then
    let b := a.leaveUnconfigured
    b.requestEvaluation
  else
    let b := a.reexamine
    if b.engine.inFlight then b else b.requestEvaluation

/-- RELOAD (R197). -/
def doReload (s : State) (args : List Byte) : Served :=
  if args ≠ [] then s.refuse .badRequest
  else if s.sessionMode then s.refuse .wrongMode
  else if s.mgmt.writing.isSome then s.refuse .busy
  else if !s.mgmt.store.mark then (s, .refused .tableInvalid (failureResults 0 0))
  else
    match s.mgmt.store.bank.firstDamaged with
    | some c => (s, .refused .tableInvalid (failureResults c.code 0))
    | none => (s.reloadShip, .accepted (enc2 (succWrap16 s.mgmt.ship.gen)))

/-- RESET (R198). -/
def doReset (s : State) (args : List Byte) : Served :=
  if args = [] then (s, .resetAccepted) else s.refuse .badRequest

/-- REQUEST_EVALUATION (R199): the reply says 0, an evaluation began, or 1, the pending flag was set. -/
def doRequestEvaluation (s : State) (args : List Byte) : Served :=
  if args ≠ [] then s.refuse .badRequest
  else if s.unconfigured then s.refuse .wrongMode
  else (s.requestEvaluation, .accepted (encFlag s.engine.inFlight ++ enc4 s.engine.number))

/-! ### READ_TANK, READ_STATION, SET_STATION_SERVICE (R20, R129, R130) -/

/-- The fill figure of a tank, permille (R20). -/
def fillFigure (s : State) (t : Nat) : Int := min 2000 (roundDiv (1000 * (s.tank t).volume) (s.bank.tankCapacity t))

/-- The anchor of a tank, present while STILL after the first accepted sample (Table 1-2). -/
def anchorOf (m : Motion) : Option MassAt :=
  match m with
  | .still a => a
  | _ => none

/-- The results of READ_TANK (R20). -/
def tankResults (s : State) (t : Nat) : List Byte :=
  let r := s.tank t
  let a := anchorOf r.motion
  let e := r.motion.extreme
  let o := r.motion.operation
  enc1 r.motion.code ++ enc1 r.gauge.code ++ enc2 r.rawLevel.toNat ++ encFigure r.corrected ++ encS2 r.trimUsed
    ++ encFigure r.volume ++ enc2 r.density.toNat ++ enc1 (if r.source = .descriptor then 0 else 1) ++ encFigure r.mass
    ++ enc2 (s.fillFigure t).toNat
    ++ encOpt (a.map MassAt.mass) ++ s.unsetFlag ++ s.encSeconds (a.map MassAt.time)
    ++ encOpt (e.map MassAt.mass) ++ s.encSeconds (e.map MassAt.time)
    ++ encOpt (o.map Operation.startMass) ++ s.encSeconds (o.map Operation.startTime)
    ++ encOpt (o.map fun o => if o.gaugeLost then 1 else 0)
    ++ encFigure r.uncertainty ++ enc1 r.rejectRun ++ encOpt (r.lastSample.map fun b => (b.toNat : Int))
    ++ s.encSeconds r.lastAccepted ++ enc2 r.accepted ++ enc2 r.rejected

/-- READ_TANK (R20). -/
def doReadTank (s : State) (args : List Byte) : Served :=
  match args with
  | [t] =>
    if s.unconfigured then s.refuse .wrongMode
    else if s.bank.tankFitted t.toNat then (s, .accepted (s.tankResults t.toNat)) else s.refuse .range
  | _ => s.refuse .badRequest

/-- The last STATE fields of a station's kind, each possibly absent (R130). -/
def lastStateResults (i : Nat) (r : StationRec) : List Byte :=
  if i < 8 then
    match r.last with
    | some (.pump run mode speed flow c) =>
      ([run.code, mode.code, speed, flow, if c then 1 else 0] : List Nat).flatMap fun n => encOpt (some n)
    | _ => (List.range 5).flatMap fun _ => encOpt none
  else
    match r.last with
    | some (.valve pos opening c) =>
      ([pos.code, opening, if c then 1 else 0] : List Nat).flatMap fun n => encOpt (some n)
    | _ => (List.range 3).flatMap fun _ => encOpt none

/-- The results of READ_STATION (R130). A run state NONE is sent as an absent field (DESIGN CHOICE,
notes/assumptions/46.md), and the held order as a flag and a reason that may be absent (DESIGN CHOICE,
notes/assumptions/59.md). -/
def stationResults (s : State) (i : Nat) : List Byte :=
  let r := s.station i
  let o := r.outstanding
  enc1 (if i < 8 then 0 else 1) ++ enc1 (s.boundAddress i).toNat ++ enc1 r.presence.code ++ lastStateResults i r
    ++ s.unsetFlag ++ s.encSeconds r.lastTime
    ++ (if i < 8 then encOpt (r.runState.map fun x => (x.code : Int)) else [])
    ++ encOpt (o.map fun x => (x.seq.toNat : Int)) ++ encOpt (o.map fun x => (x.type.code : Int))
    ++ encOpt (o.map fun x => if x.console.isSome then 0 else 1)
    ++ encOpt (o.bind fun x => x.console.map fun c => (c.toNat : Int)) ++ s.encSeconds (o.map Outstanding.forwarded)
    ++ encOpt (o.map fun x => ((x.deadline - s.now : Nat) : Int))
    ++ encOpt (r.lastClosing.map fun c => (c.code : Int))
    ++ encFlag (s.heldOf i).isSome ++ encOpt ((s.heldOf i).map fun h => (h.reason.code : Int))
    ++ enc2 r.recorded ++ enc2 r.rejected ++ enc2 r.forwarded ++ enc2 r.refused ++ enc2 r.timeouts ++ enc2 r.lateAcks

/-- Whether a station index names a bound station. -/
def stationBound (s : State) (i : Nat) : Bool := decide (i < 64) && (s.station i).address.isSome

/-- READ_STATION (R130). -/
def doReadStation (s : State) (args : List Byte) : Served :=
  match args with
  | [i] =>
    if s.unconfigured then s.refuse .wrongMode
    else if s.stationBound i.toNat then (s, .accepted (s.stationResults i.toNat)) else s.refuse .range
  | _ => s.refuse .badRequest

/-- SET_STATION_SERVICE (R129): direction 0 IN, 1 OUT. -/
def doSetStationService (s : State) (args : List Byte) : Served :=
  match args with
  | [i, d] =>
    if 1 < d.toNat then s.refuse .badRequest
    else if s.unconfigured then s.refuse .wrongMode
    else if s.stationBound i.toNat then
      let a := if d = 1 then s.serviceOut i.toNat else s.serviceIn i.toNat
      (a, .accepted (enc1 (s.station i.toNat).presence.code ++ enc1 (a.station i.toNat).presence.code))
    else s.refuse .range
  | _ => s.refuse .badRequest

/-! ### READ_CONDITION, SET_FIXED_WEIGHT (R57, R58, R59) -/

/-- The header of a published record, none for NONE (R55). -/
def publishedHeader : Published → Option Header
  | .none => none
  | .invalid h => some h
  | .valid h _ => some h

/-- The code of a validity: NONE, VALID, INVALID (R55). -/
def validityCode : Published → Nat
  | .none => 0 | .valid _ _ => 1 | .invalid _ => 2

/-- The first fields of a READ_CONDITION reply: number, validity, completion time (R57). -/
def conditionHead (s : State) : List Byte :=
  let h := publishedHeader s.engine.published
  enc4 s.engine.number ++ enc1 (validityCode s.engine.published)
    ++ (match h with
      | some h => encFlag h.completion.unset
      | none => s.unsetFlag)
    ++ encTime (h.map fun h => h.completion.sec)

/-- The generations and session mark of a header. -/
def headerResults (h : Header) : List Byte :=
  enc2 h.shipGen ++ enc2 h.planGen ++ encOpt (h.session.map Int.ofNat)

/-- The figures of the SUMMARY part (R57). -/
def summaryResults (f : Figures) : List Byte :=
  encFigure f.disp ++ encFigure f.lcg ++ encFigure f.tm ++ encFigure f.lcb ++ encFigure f.mct ++ encS2 f.trim
    ++ encFigure f.fwd ++ encFigure f.aft ++ encFlag f.hydro ++ enc2 f.peak.value.toNat ++ enc1 f.peak.station
    ++ enc1 f.peak.quantity.code ++ enc1 f.band.code ++ encFigure f.cargo ++ encFigure f.ballast
    ++ encFigure f.uncertainty ++ encOpt f.lag ++ enc1 f.overRun ++ enc1 f.withinRun

/-- The figures of the STATION part (R57). -/
def stationFigResults (f : StationFig) : List Byte :=
  encFigure f.sf ++ encFigure f.gsf ++ encFigure f.bm ++ encFigure f.gbm ++ enc2 f.uShear.toNat
    ++ enc2 f.uShearGuarded.toNat ++ enc2 f.uMoment.toNat ++ enc2 f.uMomentGuarded.toNat

/-- The figures of a READ_CONDITION part, `none` where the reply is refused RANGE (R57). Without a VALID record a
STATION reply ends with the fields of `conditionHead` (DESIGN CHOICE, notes/assumptions/42.md). -/
def conditionPart (s : State) (station : Option Nat) : Option (List Byte) :=
  match station, s.engine.published with
  | none, .none => some []
  | none, .invalid h => some (headerResults h)
  | none, .valid h f => some (headerResults h ++ summaryResults f)
  | some st, .valid _ f => (f.stations[st]?).map stationFigResults
  | some _, _ => some []

/-- READ_CONDITION once its arguments are read (R57). -/
def readCondition (s : State) (station : Option Nat) (report : Bool) : Served :=
  if s.unconfigured then s.refuse .wrongMode
  else if (station.map fun st => decide (st < s.bank.stationCount)).getD true then
    match s.conditionPart station with
    | none => s.refuse .range
    | some part =>
      if report then
        let r := s.makeCondition
        (r.1, .accepted (s.conditionHead ++ part ++ encFlag r.2))
      else (s, .accepted (s.conditionHead ++ part))
  else s.refuse .range

/-- READ_CONDITION (R57): part 0 SUMMARY, 1 STATION with an index; then the report flag. A flag byte above 1 is
refused BAD_REQUEST (DESIGN CHOICE, notes/assumptions/43.md). -/
def doReadCondition (s : State) (args : List Byte) : Served :=
  match args with
  | [part, report] =>
    if part = 0 ∧ report.toNat ≤ 1 then s.readCondition none (report == 1) else s.refuse .badRequest
  | [part, st, report] =>
    if part = 1 ∧ report.toNat ≤ 1 then s.readCondition (some st.toNat) (report == 1) else s.refuse .badRequest
  | _ => s.refuse .badRequest

/-- A fixed weight set (R58). -/
def setWeight (s : State) (w : Nat) (m : Int) : State :=
  { s with engine := { s.engine with weights := upd s.engine.weights w fun _ => m } }

/-- SET_FIXED_WEIGHT (R58, R59). -/
def doSetFixedWeight (s : State) (args : List Byte) : Served :=
  let w := fieldAt args 0 1
  let m := signedOf 4 (fieldAt args 1 4)
  if args.length ≠ 5 then s.refuse .badRequest
  else if s.unconfigured then s.refuse .wrongMode
  else if 5 < w ∨ m < 0 ∨ 1000000 < m then s.refuse .range
  else
    let before := nth s.engine.weights w 0
    let a := s.setWeight w m
    (if s.sessionMode ∧ 10000 ≤ absInt (m - before) then a.advise .fixedWeightStep w else a,
      .accepted (encS4 before ++ encS4 m))

/-! ### MANUAL_PAUSE, MANUAL_RESUME (R95, R96) -/

/-- The results of MANUAL_PAUSE and MANUAL_RESUME: state, reason set, grace mark (R95). -/
def pauseResults (s : State) (l : Nat) : List Byte :=
  enc1 (s.pause l).state.code ++ enc2 (s.pause l).reasons.toNat ++ encCum (s.pause l).grace

/-- MANUAL_PAUSE and MANUAL_RESUME up to their change of the reason set (R95, R96). -/
def doManual (s : State) (args : List Byte) (f : Nat → State → State) : Served :=
  match args with
  | [l] =>
    if !s.sys.sessionOpen then s.refuse .wrongMode
    else if 3 < l.toNat then s.refuse .range
    else
      let a := s.pacingEvent (f l.toNat)
      (a, .accepted (a.pauseResults l.toNat))
  | _ => s.refuse .badRequest

/-- MANUAL_PAUSE (R95). -/
def doManualPause (s : State) (args : List Byte) : Served := s.doManual args fun l s => s.addReason l .manual

/-- MANUAL_RESUME (R96). -/
def doManualResume (s : State) (args : List Byte) : Served := s.doManual args fun l s => s.removeReason l .manual

/-! ### OPEN_SESSION, CLOSE_SESSION, CLEAR_SAFE (R171, R172, R174) -/

/-- OPEN_SESSION (R171). -/
def doOpenSession (s : State) (args : List Byte) : Served :=
  let n := beNat args
  if args.length ≠ 2 then s.refuse .badRequest
  else if s.sys.mode ≠ .standby then s.refuse .wrongMode
  else if n = 0 then s.refuse .range
  else if s.criticalActive then s.refuse .wrongMode
  else if s.plan.stepCount = 0 then s.refuse .planAbsent
  else if s.mgmt.ship.isSealed then s.refuse .busy
  else (s.openSession n, .accepted (enc2 n))

/-- CLOSE_SESSION (R172). -/
def doCloseSession (s : State) (args : List Byte) : Served :=
  if args ≠ [] then s.refuse .badRequest
  else if s.sessionMode then (s.closeSession, .accepted [])
  else s.refuse .wrongMode

/-- CLEAR_SAFE (R174). -/
def doClearSafe (s : State) (args : List Byte) : Served :=
  if args ≠ [] then s.refuse .badRequest
  else if s.sys.mode ≠ .safe ∨ s.criticalActive then s.refuse .wrongMode
  else (s.clearSafe, .accepted [])

/-! ### ACK_FAULT, READ_FAULTS, READ_REPORT (R164, R182, R183) -/

/-- One entry acknowledged; answers whether it changed (R182, Table 10-4). -/
def acknowledge (s : State) (k : FaultKind) (subject : Nat) : State × Nat :=
  match s.faults.acknowledge k subject with
  | none => (s, 0)
  | some (f, n) => (s.withFaults f k subject transitionAcknowledged n, 1)

/-- Entries acknowledged in table order (R182). -/
def acknowledgeAll (s : State) (es : List FaultEntry) : State × Nat :=
  es.foldl (fun a e => let r := a.1.acknowledge e.kind e.subject; (r.1, a.2 + r.2)) (s, 0)

/-- ACK_FAULT (R182): scope 0 ONE with kind code and subject, 1 ALL. -/
def doAckFault (s : State) (args : List Byte) : Served :=
  match args with
  | [scope] =>
    if scope = 1 then
      let r := s.acknowledgeAll s.faults.entries
      (r.1, .accepted (enc1 r.2))
    else s.refuse .badRequest
  | [scope, kind, subject] =>
    if scope ≠ 0 then s.refuse .badRequest
    else
      match FaultKind.ofCode kind.toNat with
      | none => s.refuse .badRequest
      | some k =>
        if (s.faults.entry k subject.toNat).isSome then
          let r := s.acknowledge k subject.toNat
          (r.1, .accepted (enc1 r.2))
        else s.refuse .notFound
  | _ => s.refuse .badRequest

/-- The fields of one entry ahead of its times (R183). -/
def entryHead (e : FaultEntry) : List Byte :=
  enc1 e.kind.code ++ enc1 e.subject ++ enc1 e.kind.severity.code ++ enc1 e.state.code

/-- The times and raise count of one entry (R183). -/
def entryTail (e : FaultEntry) : List Byte := enc4 e.first.sec ++ enc4 e.last.sec ++ enc2 e.count

/-- The entries of a READ_FAULTS reply; one flag byte stands ahead of the first time (R185), that of the clock at the
reply (DESIGN CHOICE, notes/assumptions/60.md). -/
def entriesResults (s : State) : List FaultEntry → List Byte
  | [] => []
  | e :: es => entryHead e ++ s.unsetFlag ++ entryTail e ++ es.flatMap fun e => entryHead e ++ entryTail e

/-- READ_FAULTS (R183): part 0 ENTRIES, 1 COUNTERS; then the start index. -/
def doReadFaults (s : State) (args : List Byte) : Served :=
  match args with
  | [part, start] =>
    let n := start.toNat
    let es := s.faults.entries
    if part = 0 then
      if es.length ≤ n ∧ ¬(n = 0 ∧ es = []) then s.refuse .range
      else
        (s, .accepted (enc1 es.length ++ encFlag s.faults.overflow
          ++ encS4 (s.faults.marks.countP fun m => m.waiting) ++ enc1 s.faults.alarm.code
          ++ s.entriesResults ((es.drop n).take 3)))
    else if part = 1 then
      if 12 < n then s.refuse .range
      else (s, .accepted ((List.range (13 - n)).flatMap fun k => enc2 (nth s.out.advisories (n + k) 0)))
    else s.refuse .badRequest
  | _ => s.refuse .badRequest

/-- READ_REPORT (R164). -/
def doReadReport (s : State) (args : List Byte) : Served :=
  let n := fieldAt args 0 2
  let k := fieldAt args 2 1
  if args.length ≠ 3 then s.refuse .badRequest
  else if s.unconfigured then s.refuse .wrongMode
  else if n = 0 ∨ k < 1 ∨ 15 < k then s.refuse .range
  else
    match s.reports.records.find? fun r => r.number = n with
    | none => s.refuse .notFound
    | some r => if r.segments < k then s.refuse .range else (s, .accepted (r.segment k))

/-! ### The responder (R185) -/

/-- A request carried out by its code (Table 11-1). -/
def serve (s : State) (src seq : Byte) (code : Nat) (args : List Byte) : Served :=
  if code = 1 then s.doReadStatus args
  else if code = 2 then s.doSetTime args
  else if code = 3 then s.doWriteTable args
  else if code = 4 then s.doReadTable args
  else if code = 5 then s.doCommit args
  else if code = 6 then s.doStore src seq args
  else if code = 7 then s.doReload args
  else if code = 8 then s.doReset args
  else if code = 9 then s.doRequestEvaluation args
  else if code = 16 then s.doReadTank args
  else if code = 17 then s.doReadStation args
  else if code = 18 then s.doSetStationService args
  else if code = 19 then s.doReadCondition args
  else if code = 20 then s.doSetFixedWeight args
  else if code = 21 then s.doManualPause args
  else if code = 22 then s.doManualResume args
  else if code = 23 then s.doOpenSession args
  else if code = 24 then s.doCloseSession args
  else if code = 25 then s.doClearSafe args
  else if code = 26 then s.doAckFault args
  else if code = 27 then s.doReadFaults args
  else if code = 28 then s.doReadReport args
  else s.refuse .badRequest

/-- A MGMT telegram at the responder: the request carried out, then its answer (R185). -/
def takeRequest (s : State) (src seq code : Byte) (args : List Byte) : State :=
  answer (s.serve src seq code.toNat args) src seq code

end State

end Sys2Proof.Machine
end

