-- ==== Sys2Proof/Machine/Route.lean ====
section
/-! DEFINITION. Dispatch (chapter 6): a telegram accepted on a port is judged for a foreign source, shown
to the block that inspects it, and forwarded, trapped, dropped or consumed. -/

namespace Sys2Proof.Machine

/-- What the inspecting block did with a telegram: took it, or took and consumed it (R102, R125). -/
inductive Inspected where
  | untaken | taken | consumed
  deriving DecidableEq, Repr

namespace State

/-- A route action applied to a telegram toward a port; the counters are those of the port it arrived at
(R104). -/
def applyAction (s : State) (a : Action) (arrived toward : Port) (t : Telegram) : State :=
  match a with
  | .pass => (s.send toward t).1
  | .trap => s.modPort arrived fun p => { p with trapped := satSucc p.trapped }
  | .drop => s.modPort arrived fun p => { p with routeDropped := satSucc p.routeDropped }

/-- A telegram for the part that no block takes (R98). -/
def countMisdirected (s : State) (p : Port) : State := s.modPort p fun x => { x with misdirected := satSucc x.misdirected }

/-- A telegram from a foreign source discarded (R100). -/
def discardForeign (s : State) (p : Port) : State :=
  (s.modPort p fun x => { x with foreignSource := satSucc x.foreignSource }).advise .foreignSource (portCode p)

/-- Inspection of a telegram from the field port (R102, step 1). -/
def inspect (s : State) (t : Telegram) : State × Inspected :=
  if t.kind = kindSounding then
    if s.bank.role t.src = .gauge ∧ s.bank.tankFitted (s.bank.binding t.src) then
      ((s.takeSounding (s.bank.binding t.src) (fieldAt t.payload 0 2) (byteAt t.payload 2) (byteAt t.payload 3)).judgeDryRuns,
        .taken)
    else (s, .untaken)
  else if t.kind = kindDraft then
    if s.bank.role t.src = .draft then (s.takeDraft t.payload, .taken) else (s, .untaken)
  else if t.kind = kindState then
    match s.bank.stationOf t.src with
    | some i => (s.takeState i t.payload, .taken)
    | none => (s, .untaken)
  else if t.kind = kindAck then
    match s.bank.stationOf t.src with
    | some i => (s.takeAck i t.payload, if s.consumesAck i t.payload then .consumed else .taken)
    | none => (s, .untaken)
  else (s, .untaken)

/-- The onward path of a telegram from the field port after its inspection (R102, steps 2 to 4). -/
def onwardField (s : State) (t : Telegram) (i : Inspected) : State :=
  if i = .consumed then s
  else if t.dst = s.bank.ownAddress then if i = .untaken then s.countMisdirected .field else s
  else if (s.bank.role t.dst).fieldSide then s
  else s.applyAction (s.bank.action t.src) .field .console t

/-- Dispatch from the field port in STANDBY, LOADING and SAFE (R102). -/
def dispatchField (s : State) (t : Telegram) : State := let r := s.inspect t; r.1.onwardField t r.2

/-- The destination's action applied to an ORDER that is not screened; with TRAP the console is answered
REFUSED ROUTE (R103). One that finds no place in the field queue is lost unanswered (DESIGN CHOICE,
notes/assumptions/61.md). -/
def unscreenedOrder (s : State) (t : Telegram) : State :=
  let a := s.applyAction (s.bank.action t.dst) .console .field t
  if s.bank.action t.dst = .trap then a.syntheticAck t.src t.seq t.dst outcomeRefused RefuseReason.route.code else a

/-- Dispatch of an ORDER from the console port to another address than the part's own (R103). -/
def dispatchOrder (s : State) (t : Telegram) : State :=
  if t.dst = allNodes then s.advise .badOrder subjectNone
  else
    match s.bank.stationOf t.dst with
    | some i => s.takeOrder i t
    | none => if s.bank.role t.dst = .console then s else s.unscreenedOrder t

/-- Dispatch from the console port in STANDBY, LOADING and SAFE (R103). A MGMT to a CONSOLE-role address stays on the
console side (DESIGN CHOICE, notes/assumptions/50.md). -/
def dispatchConsole (s : State) (t : Telegram) : State :=
  if t.dst = s.bank.ownAddress then
    if t.kind = kindMgmt then s.takeRequest t.src t.seq (byteAt t.payload 0) (t.payload.drop 1)
    else s.countMisdirected .console
  else if t.kind = kindOrder then s.dispatchOrder t
  else if s.bank.role t.dst = .console then s
  else s.applyAction (s.bank.action t.dst) .console .field t

/-- Dispatch from the shore port (R105). -/
def dispatchShore (s : State) (t : Telegram) : State :=
  if t.dst = s.bank.ownAddress ∨ t.dst = allNodes then if s.working then s.takeShore t else s
  else s.countMisdirected .shore

/-- Dispatch in UNCONFIGURED: the default route, and management (R106). -/
def dispatchDefault (s : State) (p : Port) (t : Telegram) : State :=
  match p with
  | .console =>
    if t.dst = s.bank.ownAddress ∧ t.kind = kindMgmt then
      s.takeRequest t.src t.seq (byteAt t.payload 0) (t.payload.drop 1)
    else (s.send .field t).1
  | .field => if t.dst = s.bank.ownAddress then s.countMisdirected .field else (s.send .console t).1
  | .shore => s.dispatchShore t

/-- Whether R100 discards a telegram. -/
def foreign (s : State) (p : Port) (t : Telegram) : Bool :=
  t.src == s.bank.ownAddress
    || s.working && (t.kind == kindOrder || t.kind == kindMgmt)
      && match p with
        | .field => true
        | .console => s.bank.role t.src != .console
        | .shore => false

/-- Dispatch of an accepted telegram (R100, R102, R103, R105, R106). -/
def dispatch (s : State) (p : Port) (t : Telegram) : State :=
  if s.foreign p t then s.discardForeign p
  else if s.working then
    match p with
    | .console => s.dispatchConsole t
    | .field => s.dispatchField t
    | .shore => s.dispatchShore t
  else s.dispatchDefault p t

/-- A frame that fails acceptance (R99). -/
def discardBad (s : State) (p : Port) : State :=
  (s.modPort p fun x => { x with badFrames := satSucc x.badFrames }).advise .badCheck (portCode p)

/-- A frame accepted and counted (R99). -/
def countAccepted (s : State) (p : Port) : State := s.modPort p fun x => { x with accepted := satSucc x.accepted }

/-- A telegram whose check word is right arrives on a port (R97, R99). The accepted counter takes the ACK of a part
order too (DESIGN CHOICE, notes/assumptions/51.md). -/
def receive (s : State) (p : Port) (t : Telegram) : State :=
  if s.sys.mode = .bypass then s
  else if t.acceptable then (s.countAccepted p).dispatch p t
  else s.discardBad p

/-- A frame is delimited on a port (R97, R99). -/
def receiveFrame (s : State) (p : Port) (bytes : List Byte) : State :=
  match parseFrame bytes with
  | some t => s.receive p t
  | none => if s.sys.mode = .bypass then s else s.discardBad p

/-- The MGMT telegram of a request to the part (R185). -/
def request (s : State) (src seq code : Byte) (args : List Byte) : State :=
  s.receive .console
    { dst := s.bank.ownAddress, src := src, kind := kindMgmt, seq := seq, payload := code :: args }

/-! ### End of a transmission (R111, R198) -/

/-- A port's transmission ends: the next head is taken, and a RESET waiting for this MREPLY is due. -/
def endTransmission (s : State) (p : Port) : State :=
  match (s.out.port p).sending with
  | none => s
  | some e =>
    let o := s.out.setPort p (PortState.start { s.out.port p with sending := none })
    { s with out := { o with resetWait := if e.resetReply then .due else o.resetWait } }

end State

end Sys2Proof.Machine
end

