-- ==== Sys2Proof/Machine/Supply.lean ====
section
/-! DEFINITION. The meanings of the supply and reset commands. -/

namespace Sys2Proof.Machine

/-- What a command does to the part: nothing while it is unpowered; else a commanded reset that is due is
performed first (R198, notes/assumptions/7.md, 29.md), and then the command has its effect. -/
def act (f : State → State) (s : State) : State := if s.sys.powered then f s.performDue else s

/-- A timer's expiry, which has its effect only when the timer has reached its deadline
(notes/assumptions/2.md). -/
def onDue (due : State → Bool) (f : State → State) (s : State) : State := if due s then f s else s

/-- POWER_ON (R169). -/
def execPowerOn (s : State) : Host.Outcome State Fault Refusal :=
  .next (s.resetNow .powerOn)

/-- POWER_LOSS (R97, R184, R196). -/
def execPowerLoss (s : State) : Host.Outcome State Fault Refusal :=
  .next (s.unpowered)

/-- SUPPLY_DIP (R169): a reset of a powered part. -/
def execSupplyDip (s : State) : Host.Outcome State Fault Refusal :=
  .next (if s.sys.powered then s.resetNow .supplyDip else s)

/-- SETTLE_END (R169). -/
def execSettleEnd (s : State) : Host.Outcome State Fault Refusal :=
  .next (act (onDue State.settleDue State.endSettle) s)

/-- TABLE_FAULT_RELOAD (R176). -/
def execTableFaultReload (s : State) : Host.Outcome State Fault Refusal :=
  .next (act (onDue State.reloadDue State.reloadAfterFault) s)

/-- COMMANDED_RESET (R198): a reset that is due is performed. -/
def execCommandedReset (s : State) : Host.Outcome State Fault Refusal :=
  .next (if s.sys.powered then s.performDue else s)

end Sys2Proof.Machine
end

