-- ==== Sys2Proof/Machine/Clock.lean ====
section
/-! DEFINITION. What the part does with no command waiting: its first due event, in a fixed order, or one
second passes (notes/assumptions/1.md, 3.md). -/

namespace Sys2Proof.Machine

/-- A command when a test holds. -/
def dueIf (b : Bool) (i : Instr) : Option Instr := if b then some i else none

/-- The command of the first index of a list at which a test holds. -/
def dueAt (l : List Nat) (due : Nat → Bool) (i : Nat → Instr) : Option Instr := (l.find? due).map i

namespace State

/-- The first event of the part that is due now (notes/assumptions/3.md). -/
def dueEvent (s : State) : Option Instr :=
  [dueIf (s.sys.powered && s.out.resetWait == .due) .commandedReset,
   dueIf s.settleDue .settleEnd,
   dueIf s.reloadDue .tableFaultReload,
   dueIf (s.sys.powered && s.engine.inFlight && s.engine.snapshot.isSome) .evaluationComplete,
   dueAt (List.range 32) s.gaugeDue .gaugeTimeout,
   dueAt (List.range 32) s.stillDue .stillIntervalExpiry,
   dueIf s.silenceDue .shoreSilenceExpiry,
   dueIf (s.sys.powered && s.beaconDue) .beaconTimerExpiry,
   dueIf s.intervalDue .evaluationIntervalExpiry,
   dueAt stationIndices s.presenceDue .presenceTimeout,
   dueAt stationIndices s.ackDue .ackTimeout,
   dueAt stationIndices s.holdDue .holdDeadline,
   dueIf s.startLimitDue .startLimitDeadline,
   dueAt pumpLines s.dryDue .dryRunTrip,
   dueAt loaders s.confirmDue .confirmTimerExpiry,
   dueIf s.conditionDue .conditionTimerExpiry,
   dueIf s.storeDue .storeWritingEnd,
   dueIf s.scrubDue .scrubCheck,
   dueIf s.alarmToggleDue .alarmPulseToggle].findSome? id

/-- One second passes: the seconds count outside BYPASS (R187), the settle timer and the second before the
reload in BYPASS (R169, R176), nothing while unpowered. -/
def advanceSecond (s : State) : State :=
  if !s.sys.powered then s
  else if s.sys.mode = .bypass then
    { s with sys := { s.sys with settle := s.sys.settle.map Nat.pred, reload := s.sys.reload.map Nat.pred } }
  else { s with clock := { s.clock with seconds := s.clock.seconds + 1 } }

end State

end Sys2Proof.Machine
end

