-- ==== Sys2Proof/Machine/Arrivals.lean ====
section
/-! DEFINITION. The meanings of the arrivals: a frame on a port, and the telegrams the blocks inspect,
each arriving on its own port with a right check word (notes/assumptions/4.md); and the end of a
transmission. -/

namespace Sys2Proof.Machine

/-- The SOUNDING telegram (Table 6-7). -/
def soundingTelegram (dst src seq : Byte) (level : Word16) (status sample : Byte) : Telegram :=
  { dst := dst, src := src, kind := kindSounding, seq := seq, payload := soundingPayload level status sample }

/-- The DRAFT telegram (Table 6-7). -/
def draftTelegram (dst src seq : Byte) (fwd aft : Word16) (status : Byte) : Telegram :=
  { dst := dst, src := src, kind := kindDraft, seq := seq, payload := draftPayload fwd aft status }

/-- The STATE telegram (Table 6-8). -/
def stateTelegram (dst src seq : Byte) (report : StateReport) : Telegram :=
  { dst := dst, src := src, kind := kindState, seq := seq, payload := statePayload report }

/-- The ACK telegram (Table 6-10). -/
def ackTelegram (dst src seq : Byte) (station orderSeq outcome reason : Byte) : Telegram :=
  { dst := dst, src := src, kind := kindAck, seq := seq, payload := [station, orderSeq, outcome, reason] }

/-- The ORDER telegram (Table 6-9). -/
def consoleOrderTelegram (dst src seq : Byte) (orderType mode speed : Byte) : Telegram :=
  { dst := dst, src := src, kind := kindOrder, seq := seq, payload := [orderType, mode, speed] }

/-- The POUR telegram (Table 6-12). -/
def pourTelegram (dst src seq : Byte) (loader spout : Byte) (cumulative : Word32) (belt : Byte) (rate : Word16) :
    Telegram :=
  { dst := dst, src := src, kind := kindPour, seq := seq, payload := pourPayload loader spout cumulative belt rate }

/-- The terminal's SHORE_BEACON telegram. -/
def shoreBeaconTelegram (dst src seq : Byte) (payload : List Byte) : Telegram :=
  { dst := dst, src := src, kind := kindShoreBeacon, seq := seq, payload := payload }

/-- FRAME_RECEIVE (R99). -/
def execFrameReceive (port : Port) (bytes : List Byte) (s : State) : Host.Outcome State Fault Refusal :=
  .next (act (State.receiveFrame · port bytes) s)

/-- SOUNDING on the field port (R5). -/
def execSounding (dst src seq : Byte) (level : Word16) (status sample : Byte) (s : State) : Host.Outcome State Fault Refusal :=
  .next (act (State.receive · .field (soundingTelegram dst src seq level status sample)) s)

/-- DRAFT on the field port (R41). -/
def execDraft (dst src seq : Byte) (fwd aft : Word16) (status : Byte) (s : State) : Host.Outcome State Fault Refusal :=
  .next (act (State.receive · .field (draftTelegram dst src seq fwd aft status)) s)

/-- STATE on the field port (R119). -/
def execState (dst src seq : Byte) (report : StateReport) (s : State) : Host.Outcome State Fault Refusal :=
  .next (act (State.receive · .field (stateTelegram dst src seq report)) s)

/-- ACK on the field port (R125). -/
def execAck (dst src seq : Byte) (station orderSeq outcome reason : Byte) (s : State) : Host.Outcome State Fault Refusal :=
  .next (act (State.receive · .field (ackTelegram dst src seq station orderSeq outcome reason)) s)

/-- ORDER on the console port (R133). -/
def execOrder (dst src seq : Byte) (orderType mode speed : Byte) (s : State) : Host.Outcome State Fault Refusal :=
  .next (act (State.receive · .console (consoleOrderTelegram dst src seq orderType mode speed)) s)

/-- POUR on the shore port (R23). -/
def execPour (dst src seq : Byte) (loader spout : Byte) (cumulative : Word32) (belt : Byte) (rate : Word16) (s : State) : Host.Outcome State Fault Refusal :=
  .next (act (State.receive · .shore (pourTelegram dst src seq loader spout cumulative belt rate)) s)

/-- SHORE_BEACON of the terminal on the shore port (R22). -/
def execShoreBeacon (dst src seq : Byte) (payload : List Byte) (s : State) : Host.Outcome State Fault Refusal :=
  .next (act (State.receive · .shore (shoreBeaconTelegram dst src seq payload)) s)

/-- TRANSMISSION_END (R111). -/
def execTransmissionEnd (port : Port) (s : State) : Host.Outcome State Fault Refusal :=
  .next (act (State.endTransmission · port) s)

end Sys2Proof.Machine
end

