-- ==== Sys2Proof/Machine/Requests.lean ====
section
/-! DEFINITION. The meanings of the management requests: each is the MGMT telegram that carries the
request's code and argument bytes to the part on the console port (R185). -/

namespace Sys2Proof.Machine

/-- A request whose code is in no row of Table 11-1 (R185). -/
def execMgmtUnknownCode (src seq code : Byte) (args : List Byte) (s : State) : Host.Outcome State Fault Refusal :=
  .next (act (State.request · src seq code args) s)

/-- READ_STATUS (R186). -/
def execReadStatus (src seq : Byte) (args : List Byte) (s : State) : Host.Outcome State Fault Refusal :=
  .next (act (State.request · src seq 1 args) s)

/-- SET_TIME (R187). -/
def execSetTime (src seq : Byte) (args : List Byte) (s : State) : Host.Outcome State Fault Refusal :=
  .next (act (State.request · src seq 2 args) s)

/-- WRITE_TABLE (R189). -/
def execWriteTable (src seq : Byte) (args : List Byte) (s : State) : Host.Outcome State Fault Refusal :=
  .next (act (State.request · src seq 3 args) s)

/-- READ_TABLE (R190). -/
def execReadTable (src seq : Byte) (args : List Byte) (s : State) : Host.Outcome State Fault Refusal :=
  .next (act (State.request · src seq 4 args) s)

/-- COMMIT (R191). -/
def execCommit (src seq : Byte) (args : List Byte) (s : State) : Host.Outcome State Fault Refusal :=
  .next (act (State.request · src seq 5 args) s)

/-- STORE (R196). -/
def execStore (src seq : Byte) (args : List Byte) (s : State) : Host.Outcome State Fault Refusal :=
  .next (act (State.request · src seq 6 args) s)

/-- RELOAD (R197). -/
def execReload (src seq : Byte) (args : List Byte) (s : State) : Host.Outcome State Fault Refusal :=
  .next (act (State.request · src seq 7 args) s)

/-- RESET (R198). -/
def execReset (src seq : Byte) (args : List Byte) (s : State) : Host.Outcome State Fault Refusal :=
  .next (act (State.request · src seq 8 args) s)

/-- REQUEST_EVALUATION (R199). -/
def execRequestEvaluation (src seq : Byte) (args : List Byte) (s : State) : Host.Outcome State Fault Refusal :=
  .next (act (State.request · src seq 9 args) s)

/-- READ_TANK (R20). -/
def execReadTank (src seq : Byte) (args : List Byte) (s : State) : Host.Outcome State Fault Refusal :=
  .next (act (State.request · src seq 16 args) s)

/-- READ_STATION (R130). -/
def execReadStation (src seq : Byte) (args : List Byte) (s : State) : Host.Outcome State Fault Refusal :=
  .next (act (State.request · src seq 17 args) s)

/-- SET_STATION_SERVICE (R129). -/
def execSetStationService (src seq : Byte) (args : List Byte) (s : State) : Host.Outcome State Fault Refusal :=
  .next (act (State.request · src seq 18 args) s)

/-- READ_CONDITION (R57). -/
def execReadCondition (src seq : Byte) (args : List Byte) (s : State) : Host.Outcome State Fault Refusal :=
  .next (act (State.request · src seq 19 args) s)

/-- SET_FIXED_WEIGHT (R58). -/
def execSetFixedWeight (src seq : Byte) (args : List Byte) (s : State) : Host.Outcome State Fault Refusal :=
  .next (act (State.request · src seq 20 args) s)

/-- MANUAL_PAUSE (R95). -/
def execManualPause (src seq : Byte) (args : List Byte) (s : State) : Host.Outcome State Fault Refusal :=
  .next (act (State.request · src seq 21 args) s)

/-- MANUAL_RESUME (R96). -/
def execManualResume (src seq : Byte) (args : List Byte) (s : State) : Host.Outcome State Fault Refusal :=
  .next (act (State.request · src seq 22 args) s)

/-- OPEN_SESSION (R171). -/
def execOpenSession (src seq : Byte) (args : List Byte) (s : State) : Host.Outcome State Fault Refusal :=
  .next (act (State.request · src seq 23 args) s)

/-- CLOSE_SESSION (R172). -/
def execCloseSession (src seq : Byte) (args : List Byte) (s : State) : Host.Outcome State Fault Refusal :=
  .next (act (State.request · src seq 24 args) s)

/-- CLEAR_SAFE (R174). -/
def execClearSafe (src seq : Byte) (args : List Byte) (s : State) : Host.Outcome State Fault Refusal :=
  .next (act (State.request · src seq 25 args) s)

/-- ACK_FAULT (R182). -/
def execAckFault (src seq : Byte) (args : List Byte) (s : State) : Host.Outcome State Fault Refusal :=
  .next (act (State.request · src seq 26 args) s)

/-- READ_FAULTS (R183). -/
def execReadFaults (src seq : Byte) (args : List Byte) (s : State) : Host.Outcome State Fault Refusal :=
  .next (act (State.request · src seq 27 args) s)

/-- READ_REPORT (R164). -/
def execReadReport (src seq : Byte) (args : List Byte) (s : State) : Host.Outcome State Fault Refusal :=
  .next (act (State.request · src seq 28 args) s)

end Sys2Proof.Machine
end

