-- ==== Sys2Proof/Machine/Timers.lean ====
section
/-! DEFINITION. The meanings of the timer events and of the ends of an evaluation and of a STORE's writing. -/

namespace Sys2Proof.Machine

/-- GAUGE_TIMEOUT (R11), with the dry-run judgement of the changed gauge status (R150). -/
def execGaugeTimeout (tank : Nat) (s : State) : Host.Outcome State Fault Refusal :=
  .next (act (onDue (State.gaugeDue · tank) (fun s => (s.gaugeTimedOut tank).judgeDryRuns)) s)

/-- STILL_INTERVAL_EXPIRY (R16). -/
def execStillIntervalExpiry (tank : Nat) (s : State) : Host.Outcome State Fault Refusal :=
  .next (act (onDue (State.stillDue · tank) (State.stillExpired · tank)) s)

/-- SHORE_SILENCE_EXPIRY (R32). -/
def execShoreSilenceExpiry (s : State) : Host.Outcome State Fault Refusal :=
  .next (act (onDue State.silenceDue State.silenceExpired) s)

/-- BEACON_TIMER_EXPIRY (R33). -/
def execBeaconTimerExpiry (s : State) : Host.Outcome State Fault Refusal :=
  .next (act (onDue State.beaconDue State.sendBeacon) s)

/-- EVALUATION_INTERVAL_EXPIRY (R35). -/
def execEvaluationIntervalExpiry (s : State) : Host.Outcome State Fault Refusal :=
  .next (act (onDue State.intervalDue State.intervalExpired) s)

/-- EVALUATION_COMPLETE (R39). -/
def execEvaluationComplete (s : State) : Host.Outcome State Fault Refusal :=
  .next (act State.completeEvaluation s)

/-- PRESENCE_TIMEOUT (R121). -/
def execPresenceTimeout (station : Nat) (s : State) : Host.Outcome State Fault Refusal :=
  .next (act (onDue (State.presenceDue · station) (State.presenceTimedOut · station)) s)

/-- ACK_TIMEOUT (R127). -/
def execAckTimeout (station : Nat) (s : State) : Host.Outcome State Fault Refusal :=
  .next (act (onDue (State.ackDue · station) (State.ackTimedOut · station)) s)

/-- HOLD_DEADLINE (R147). -/
def execHoldDeadline (station : Nat) (s : State) : Host.Outcome State Fault Refusal :=
  .next (act (onDue (State.holdDue · station) (State.holdExpired · station)) s)

/-- START_LIMIT_DEADLINE (R149). -/
def execStartLimitDeadline (s : State) : Host.Outcome State Fault Refusal :=
  .next (act (onDue State.startLimitDue State.startLimitExpired) s)

/-- DRY_RUN_TRIP (R151). -/
def execDryRunTrip (line : Nat) (s : State) : Host.Outcome State Fault Refusal :=
  .next (act (onDue (State.dryDue · line) (State.dryTrip · line)) s)

/-- CONFIRM_TIMER_EXPIRY (R88). -/
def execConfirmTimerExpiry (loader : Nat) (s : State) : Host.Outcome State Fault Refusal :=
  .next (act (onDue (State.confirmDue · loader) (State.confirmExpired · loader)) s)

/-- CONDITION_TIMER_EXPIRY (R163). -/
def execConditionTimerExpiry (s : State) : Host.Outcome State Fault Refusal :=
  .next (act (onDue State.conditionDue State.conditionExpired) s)

/-- SCRUB_CHECK (R194). -/
def execScrubCheck (s : State) : Host.Outcome State Fault Refusal :=
  .next (act (onDue State.scrubDue State.scrub) s)

/-- ALARM_PULSE_TOGGLE (R184). -/
def execAlarmPulseToggle (s : State) : Host.Outcome State Fault Refusal :=
  .next (act (onDue State.alarmToggleDue State.toggleAlarm) s)

/-- STORE_WRITING_END (R196). -/
def execStoreWritingEnd (s : State) : Host.Outcome State Fault Refusal :=
  .next (act State.endStore s)

end Sys2Proof.Machine
end

