-- ==== Sys2Proof/Machine/Dispatch.lean ====
section
/-! DEFINITION. One arm per command: the meaning of each, called by its full name. -/

namespace Sys2Proof.Machine

/-- The effect of a command on everything but the queue of waiting commands. -/
def exec (i : Instr) (s : State) : Host.Outcome State Fault Refusal :=
  match i with
  | .powerOn => Sys2Proof.Machine.execPowerOn s
  | .powerLoss => Sys2Proof.Machine.execPowerLoss s
  | .supplyDip => Sys2Proof.Machine.execSupplyDip s
  | .settleEnd => Sys2Proof.Machine.execSettleEnd s
  | .tableFaultReload => Sys2Proof.Machine.execTableFaultReload s
  | .commandedReset => Sys2Proof.Machine.execCommandedReset s
  | .frameReceive port bytes => Sys2Proof.Machine.execFrameReceive port bytes s
  | .sounding dst src seq level status sample => Sys2Proof.Machine.execSounding dst src seq level status sample s
  | .draft dst src seq fwd aft status => Sys2Proof.Machine.execDraft dst src seq fwd aft status s
  | .state dst src seq report => Sys2Proof.Machine.execState dst src seq report s
  | .ack dst src seq station orderSeq outcome reason => Sys2Proof.Machine.execAck dst src seq station orderSeq outcome reason s
  | .order dst src seq orderType mode speed => Sys2Proof.Machine.execOrder dst src seq orderType mode speed s
  | .pour dst src seq loader spout cumulative belt rate => Sys2Proof.Machine.execPour dst src seq loader spout cumulative belt rate s
  | .shoreBeacon dst src seq payload => Sys2Proof.Machine.execShoreBeacon dst src seq payload s
  | .transmissionEnd port => Sys2Proof.Machine.execTransmissionEnd port s
  | .gaugeTimeout tank => Sys2Proof.Machine.execGaugeTimeout tank s
  | .stillIntervalExpiry tank => Sys2Proof.Machine.execStillIntervalExpiry tank s
  | .shoreSilenceExpiry => Sys2Proof.Machine.execShoreSilenceExpiry s
  | .beaconTimerExpiry => Sys2Proof.Machine.execBeaconTimerExpiry s
  | .evaluationIntervalExpiry => Sys2Proof.Machine.execEvaluationIntervalExpiry s
  | .evaluationComplete => Sys2Proof.Machine.execEvaluationComplete s
  | .presenceTimeout station => Sys2Proof.Machine.execPresenceTimeout station s
  | .ackTimeout station => Sys2Proof.Machine.execAckTimeout station s
  | .holdDeadline station => Sys2Proof.Machine.execHoldDeadline station s
  | .startLimitDeadline => Sys2Proof.Machine.execStartLimitDeadline s
  | .dryRunTrip line => Sys2Proof.Machine.execDryRunTrip line s
  | .confirmTimerExpiry loader => Sys2Proof.Machine.execConfirmTimerExpiry loader s
  | .conditionTimerExpiry => Sys2Proof.Machine.execConditionTimerExpiry s
  | .scrubCheck => Sys2Proof.Machine.execScrubCheck s
  | .alarmPulseToggle => Sys2Proof.Machine.execAlarmPulseToggle s
  | .storeWritingEnd => Sys2Proof.Machine.execStoreWritingEnd s
  | .mgmtUnknownCode src seq code args => Sys2Proof.Machine.execMgmtUnknownCode src seq code args s
  | .readStatus src seq args => Sys2Proof.Machine.execReadStatus src seq args s
  | .setTime src seq args => Sys2Proof.Machine.execSetTime src seq args s
  | .writeTable src seq args => Sys2Proof.Machine.execWriteTable src seq args s
  | .readTable src seq args => Sys2Proof.Machine.execReadTable src seq args s
  | .commit src seq args => Sys2Proof.Machine.execCommit src seq args s
  | .store src seq args => Sys2Proof.Machine.execStore src seq args s
  | .reload src seq args => Sys2Proof.Machine.execReload src seq args s
  | .reset src seq args => Sys2Proof.Machine.execReset src seq args s
  | .requestEvaluation src seq args => Sys2Proof.Machine.execRequestEvaluation src seq args s
  | .readTank src seq args => Sys2Proof.Machine.execReadTank src seq args s
  | .readStation src seq args => Sys2Proof.Machine.execReadStation src seq args s
  | .setStationService src seq args => Sys2Proof.Machine.execSetStationService src seq args s
  | .readCondition src seq args => Sys2Proof.Machine.execReadCondition src seq args s
  | .setFixedWeight src seq args => Sys2Proof.Machine.execSetFixedWeight src seq args s
  | .manualPause src seq args => Sys2Proof.Machine.execManualPause src seq args s
  | .manualResume src seq args => Sys2Proof.Machine.execManualResume src seq args s
  | .openSession src seq args => Sys2Proof.Machine.execOpenSession src seq args s
  | .closeSession src seq args => Sys2Proof.Machine.execCloseSession src seq args s
  | .clearSafe src seq args => Sys2Proof.Machine.execClearSafe src seq args s
  | .ackFault src seq args => Sys2Proof.Machine.execAckFault src seq args s
  | .readFaults src seq args => Sys2Proof.Machine.execReadFaults src seq args s
  | .readReport src seq args => Sys2Proof.Machine.execReadReport src seq args s
end Sys2Proof.Machine
end

