-- ==== Sys2Proof/Safety.lean ====
section
/-! DEFINITION. What counts as a sound state and a sound step, in the terms the statements use: the blocks
of the state and which of them a step may change; when the part takes commands; and the invariants the
manual states of the part at every instant. -/

namespace Sys2Proof.Machine

/-! ### Blocks and frames -/

/-- The parts of the state, for saying what a command leaves unchanged. `session` is the session flag and
number, `supply` the power, settle, reload, reset cause and latch; `ship` and `plan` are the table groups,
`store` the ship store with its state and the STORE being written, `scrub` the scrub's rotation. -/
inductive Block where
  | pending | mode | session | supply | clock | out | faults | ship | plan | store | scrub
  | tanks | shore | engine | tracker | pacing | stations | screen | reports
  deriving DecidableEq, Repr

/-- Whether two states agree in a block. -/
def State.agree (s t : State) : Block → Prop
  | .pending => t.pending = s.pending
  | .mode => t.sys.mode = s.sys.mode
  | .session => t.sys.sessionOpen = s.sys.sessionOpen ∧ t.sys.sessionNumber = s.sys.sessionNumber
  | .supply =>
    t.sys.powered = s.sys.powered ∧ t.sys.settle = s.sys.settle ∧ t.sys.reload = s.sys.reload
      ∧ t.sys.cause = s.sys.cause ∧ t.sys.latch = s.sys.latch
  | .clock => t.clock = s.clock
  | .out => t.out = s.out
  | .faults => t.faults = s.faults
  | .ship => t.mgmt.ship = s.mgmt.ship
  | .plan => t.mgmt.plan = s.mgmt.plan
  | .store =>
    t.mgmt.store = s.mgmt.store ∧ t.mgmt.storeState = s.mgmt.storeState ∧ t.mgmt.writing = s.mgmt.writing
      ∧ t.mgmt.unstored = s.mgmt.unstored
  | .scrub => t.mgmt.scrubPos = s.mgmt.scrubPos ∧ t.mgmt.scrubAt = s.mgmt.scrubAt
  | .tanks => t.tanks = s.tanks
  | .shore => t.shore = s.shore
  | .engine => t.engine = s.engine
  | .tracker => t.tracker = s.tracker
  | .pacing => t.pacing = s.pacing
  | .stations => t.stations = s.stations
  | .screen => t.screen = s.screen
  | .reports => t.reports = s.reports

/-- The frame of a step: `t` agrees with `s` in every block but those listed. -/
def State.onlyChanges (l : List Block) (s t : State) : Prop := ∀ b, b ∉ l → s.agree t b

/-! ### When the part takes commands -/

/-- The part is powered and no commanded reset is due ahead of the next command (R198). -/
def State.ready (s : State) : Prop := s.sys.powered = true ∧ s.out.resetWait ≠ .due

/-- The part processes telegrams: every mode other than BYPASS. -/
def State.inCircuit (s : State) : Prop := s.ready ∧ s.sys.mode ≠ .bypass

/-- Every block runs: STANDBY, LOADING or SAFE. -/
def State.inService (s : State) : Prop := s.ready ∧ s.working = true

/-- A source from which the part takes a telegram on the field or shore port: 1..254 and not its own
address (R99, R100). -/
def State.otherNode (s : State) (src : Byte) : Prop := src ≠ 0 ∧ src ≠ 255 ∧ src ≠ s.bank.ownAddress

/-- A source whose MGMT telegrams reach the management responder: another node, and outside UNCONFIGURED
one of role CONSOLE (R100, R185). The part's own address is one that a telegram can be sent to. -/
def State.manager (s : State) (src : Byte) : Prop :=
  s.otherNode src ∧ s.bank.ownAddress ≠ 0 ∧ (s.working = true → s.bank.role src = .console)

/-- The console port sends nothing and holds nothing, so that one reply enters it and leaves at once. -/
def State.consoleIdle (s : State) : Prop := s.out.console.queue = [] ∧ s.out.console.sending = none

/-- The one-segment MREPLY of a request (R185). -/
def State.reply (s : State) (src seq code : Byte) (status reason : Nat) (results : List Byte) : Telegram :=
  { dst := src, src := s.bank.ownAddress, kind := kindMreply, seq := seq
    payload := [code, byteOf status 0, byteOf reason 0, 1, 1] ++ results }

/-- Every block at its reset values in BYPASS, with the cause of the reset (R3, R21, R34, R63, R76, R98, R117,
R131, R153, R168, R187, R188). -/
structure State.atReset (t : State) (c : ResetCause) : Prop where
  mode : t.sys.mode = .bypass
  session : t.sys.sessionOpen = false ∧ t.sys.sessionNumber = none
  cause : t.sys.cause = c
  clock : t.clock = { seconds := 0, offset := 0, timeSet := false }
  out : t.out = Out.reset
  faults : t.faults.entries = [] ∧ t.faults.marks = []
  ship : t.mgmt.ship.gen = 0 ∧ t.mgmt.ship.isSealed = false ∧ t.mgmt.ship.isPending = false
  plan : t.mgmt.plan = Group.resetPlan
  writing : t.mgmt.writing = none
  scrub : t.mgmt.scrubPos = .part
  tanks : ∀ i < 32, ∃ d, t.tank i = TankRec.reset d
  shore : t.shore = Shore.reset
  engine : t.engine = Engine.reset
  tracker : t.tracker = Tracker.reset
  pacing : t.pacing = Pacing.reset
  stations : ∀ i < 64, t.station i = StationRec.reset none
  screen : t.screen = Screen.reset
  reports : t.reports = Reports.reset c

/-- The part restarted by power-on, a supply dip or a commanded reset: every block at its reset values (`atReset`),
powered, the settle of the cause running, reload, table-fault latch and alarm line clear (R168, R169), the
ship store and the queue of commands kept. -/
def State.restarted (s t : State) (c : ResetCause) (settle : Nat) : Prop :=
  t.atReset c ∧ t.sys.powered = true ∧ t.sys.settle = some settle ∧ t.sys.reload = none ∧ t.sys.latch = false
    ∧ t.faults.alarm = .clear ∧ t.mgmt.store = s.mgmt.store ∧ t.pending = s.pending

/-! ### Arrivals -/

/-- A payload length that Table 6-5 does not give the kind (R99, check 5); the first byte of a STATE agrees with
its length. -/
def wrongLength (kind : Byte) (payload : List Byte) : Prop :=
  (kind = 0x21 ∧ payload.length ≠ 4) ∨ (kind = 0x22 ∧ payload.length ≠ 5)
    ∨ (kind = 0x23 ∧ ¬(payload.length = 7 ∧ payload.head? = some 0) ∧ ¬(payload.length = 4 ∧ payload.head? = some 1))
    ∨ (kind = 0x24 ∧ payload.length ≠ 4) ∨ (kind = 0x41 ∧ payload.length ≠ 3)
    ∨ ((kind = 0x51 ∨ kind = 0x52 ∨ kind = 0x53) ∧ payload.length = 0) ∨ (kind = 0x54 ∧ payload.length < 10)
    ∨ (kind = 0x61 ∧ payload.length ≠ 9) ∨ (kind = 0x62 ∧ payload.length ≠ 7) ∨ (kind = 0x63 ∧ payload.length ≠ 1)

/-- A telegram that passes checks 4 and 5 of R99 and can be framed. -/
def Telegram.admitted (x : Telegram) : Prop :=
  x.payload.length ≤ 56 ∧ x.src ≠ 0 ∧ x.src ≠ 255 ∧ x.dst ≠ 0 ∧ ¬wrongLength x.kind x.payload

/-- A telegram that R100 discards as coming from a foreign source. -/
def State.fromForeign (s : State) (p : Port) (x : Telegram) : Prop :=
  x.src = s.bank.ownAddress
    ∨ (s.working = true ∧ (x.kind = 0x41 ∨ x.kind = 0x51) ∧ (p = .field ∨ p = .console ∧ s.bank.role x.src ≠ .console))

/-- A telegram on the field port that no block inspects: by its kind, or by the role of its source (R102). -/
def State.uninspected (s : State) (x : Telegram) : Prop :=
  (x.kind = 0x21 → s.bank.role x.src ≠ .gauge) ∧ (x.kind = 0x22 → s.bank.role x.src ≠ .draft)
    ∧ (x.kind = 0x23 ∨ x.kind = 0x24 → s.bank.role x.src ≠ .pump ∧ s.bank.role x.src ≠ .valve)

/-- A telegram passed on to another port, unchanged: with room in the queue it enters by class and age (PAUSE and
RESUME as class 0). Nothing but the ports changes. -/
def State.passesOn (s t : State) (p : Port) (x : Telegram) : Prop :=
  ((s.out.port p).queue.length < portCapacity p → t.out.port p = ((s.out.port p).offer (portCapacity p)
      { tel := x, cls := if x.kind = 0x62 ∨ x.kind = 0x63 then 0 else s.bank.classOf x.kind, resetReply := false }).port)
    ∧ s.onlyChanges [.out] t

/-- The synthetic ACK of an order, as an entry of the console queue (R108, Table 6-10): from the part to a
console, about the station of an address, with an outcome and a reason. -/
def State.ackEntry (s : State) (console address seq : Byte) (outcome reason : Nat) : QEntry :=
  { tel :=
      { dst := console, src := s.bank.ownAddress, kind := 0x24, seq := seq
        payload := [address, seq, byteOf outcome 0, byteOf reason 0] }
    cls := s.bank.classOf 0x24, resetReply := false }

/-- An ORDER finds no place in the field queue: the queue is full, and either ORDER's class evicts nothing or no
queued telegram can be evicted (R110). -/
def State.fieldFull (s : State) : Prop :=
  32 ≤ s.out.field.queue.length ∧ (2 ≤ s.bank.classOf 0x41 ∨ ∀ e ∈ s.out.field.queue, e.cls < 2)

/-- A POUR taken for processing is rejected with an advisory (R22, R23): it is a sign of life for silence supervision,
the advisory is counted, and no loader, hold or unattributed figure changes; where it ends no shore silence, nothing
but the shore unit and the ports does. -/
structure State.pourRejected (s t : State) (k : Advisory) : Prop where
  signOfLife : t.shore = { s.shore with silence := .watching (s.now + s.bank.silenceTimeout) }
  counted : nth t.out.advisories k.index 0 = satSucc (nth s.out.advisories k.index 0)
  quiet : s.shore.silence ≠ .silent → s.onlyChanges [.shore, .out] t
  frame : s.onlyChanges [.shore, .pacing, .out, .faults, .tracker, .reports] t

/-! ### The movement of a tank -/

/-- FILLING. -/
def Motion.isFilling : Motion → Bool
  | .filling _ _ => true
  | _ => false

/-- Whether a mass changes a tank to FILLING (R15, R16): in STILL it lies the threshold or more above the anchor and
does not first turn the tank to EMPTYING, in EMPTYING the threshold or more above the extreme. -/
def Motion.turnsToFilling (motion : Motion) (mass threshold : Int) : Bool :=
  match motion with
  | .still (some a) => decide (a.mass - threshold < mass) && decide (a.mass + threshold ≤ mass)
  | .emptying e _ => decide (e.mass ≤ mass) && decide (e.mass + threshold ≤ mass)
  | _ => false

/-! ### Records of a step advance -/

/-- The STEP record that an advance makes of the step `j` places after the active step `a` (R68, R154, R160): the
active step with its peak and paused seconds, a step passed at once with none. -/
def State.stepRecord (s : State) (a : ActiveStep) (j : Nat) : ReportRec where
  number := nextNumber^[j] s.reports.next
  kind := .step
  time := s.stamp
  isPartial := false
  gaugeLost := false
  body :=
    [bodyQuantity (a.k + j : Nat), s.bodyTime s.now, bodyQuantity s.totalCargo, bodyQuantity s.totalBallast,
        bodyQuantity (s.totalBallast - s.ballastOf (a.k + j))]
      ++ if j = 0 then
          [bodyOpt (a.peak.map Peak.value), bodyOpt (a.peak.map fun p => (p.station : Int)),
            bodyOpt (a.peak.map fun p => (p.quantity.code : Int)), bodyQuantity (a.pausedAt s.now)]
        else [absentCode, absentCode, absentCode, 0]

/-- The report store after `n` step records of an advance from step `a` (R154): they join in step order with
consecutive numbers, and beyond 96 records the oldest leave and are counted. -/
def State.reportsAfterSteps (s : State) (a : ActiveStep) (n : Nat) : Reports :=
  let held := s.reports.records.length
  let excess := held + n - max 96 held
  { s.reports with
    records := (s.reports.records ++ (List.range n).map (s.stepRecord a)).drop excess
    next := nextNumber^[n] s.reports.next
    dropped := satSucc^[excess] s.reports.dropped }

/-! ### Judgements by two marks -/

/-- A fault judged between two states: active where its raising condition holds, clear where only its clearing
condition does, else as it was. -/
def Faults.judgedTo (f g : Faults) (k : FaultKind) (subject : Nat) (raised cleared : Prop) : Prop :=
  (raised → g.active k subject = true) ∧ (¬raised → cleared → g.active k subject = false)
    ∧ (¬raised → ¬cleared → g.active k subject = f.active k subject)

/-- A pause reason that follows a fault: added where the fault has become active, removed where it has become
clear, else as it was (R77). -/
def State.reasonFollows (s t : State) (l : Nat) (r : Reason) (k : FaultKind) : Prop :=
  let before := s.faults.active k subjectNone
  let after := t.faults.active k subjectNone
  (t.pause l).reasons.has r
    = if before = after then (s.pause l).reasons.has r else after

/-- The SAFE reason where the mode may have become SAFE (R94). -/
def State.safeFollows (s t : State) (l : Nat) : Prop :=
  (t.pause l).reasons.has .safe
    = ((s.pause l).reasons.has .safe || decide (t.sys.mode = .safe ∧ s.sys.mode ≠ .safe))

/-! ### Loaders and publications -/

/-- Whether a loader is adverse at some station and quantity whose guarded utilisation in a record is at or above a
mark (R79, R80). -/
def State.adverseOver (s : State) (f : Figures) (l : Nat) (mark : Int) : Prop :=
  ∃ h st g, s.standsFor l = some h ∧ f.stations[st]? = some g
    ∧ (0 < s.bank.shearFactor (32 + h) st * g.sf ∧ mark ≤ g.uShearGuarded
      ∨ 0 < s.bank.momentLever (32 + h) st * g.bm ∧ mark ≤ g.uMomentGuarded)

/-- The faults a VALID publication of a record judges, in a sound fault table (R51 to R54, R71, R81). The fault of
the hydro flag (R50) has a statement of its own. -/
structure State.faultsJudged (s t : State) (n : Snapshot) (f : Figures) : Prop where
  draftLimit : sessionCurrent n = true → s.faults.judgedTo t.faults .draftLimit subjectNone
    (n.marks.maxFwd - n.marks.margin < f.fwd ∨ n.marks.maxAft - n.marks.margin < f.aft)
    (f.fwd ≤ n.marks.maxFwd - n.marks.releaseMargin ∧ f.aft ≤ n.marks.maxAft - n.marks.releaseMargin)
  airDraft : sessionCurrent n = true → s.faults.judgedTo t.faults .airDraft subjectNone
    (f.fwd < n.marks.minFwd + n.marks.margin ∨ f.aft < n.marks.minAft + n.marks.margin)
    (n.marks.minFwd + n.marks.releaseMargin ≤ f.fwd ∧ n.marks.minAft + n.marks.releaseMargin ≤ f.aft)
  noWindow : sessionCurrent n = false →
    t.faults.active .draftLimit subjectNone = false ∧ t.faults.active .airDraft subjectNone = false
  disagree : s.faults.judgedTo t.faults .draftDisagree subjectNone
    (f.readingUsed = true ∧ n.tables.draftCount ≤ f.overRun) (f.readingUsed = true ∧ n.tables.draftCount ≤ f.withinRun)
  stressLimit : s.faults.judgedTo t.faults .stressLimit subjectNone (1000 ≤ f.peak.value) (f.peak.value < n.marks.release)
  invalid : t.faults.active .conditionInvalid subjectNone = false
  lag : s.faults.judgedTo t.faults .ballastLag subjectNone (∃ x, f.lag = some x ∧ s.plan.lagPause ≤ x)
    (∃ x, f.lag = some x ∧ x < s.plan.lagRelease)
  ahead : s.faults.judgedTo t.faults .deballastAhead subjectNone (∃ x, f.lag = some x ∧ x ≤ s.plan.leadLimit)
    (∃ x, f.lag = some x ∧ s.plan.leadRelease < x)
  ballastDriven : s.faults.judgedTo t.faults .stressBallastDriven subjectNone
    (f.band = .pause ∧ ∀ l < 4, ¬s.adverseOver f l n.marks.pause) (f.band = .normal ∨ f.band = .caution)

/-- The reasons of one loader after a VALID publication in a session (R80, R82). -/
structure State.loaderPaced (s t : State) (n : Snapshot) (f : Figures) (l : Nat) : Prop where
  awaiting : (t.pause l).reasons.has .awaitingCondition
    = (!sessionCurrent n && (s.pause l).reasons.has .awaitingCondition)
  stressAdded : sessionCurrent n = true →
    f.band = .limit ∨ (s.pause l).reasons.has .stress = false ∧ s.adverseOver f l n.marks.pause →
    (t.pause l).reasons.has .stress = true
  stressRemoved : sessionCurrent n = true → f.band ≠ .limit → (s.pause l).reasons.has .stress = true →
    ¬s.adverseOver f l n.marks.release → (t.pause l).reasons.has .stress = false
  stressKept : sessionCurrent n = false ∨ f.band ≠ .limit ∧
      ((s.pause l).reasons.has .stress = true ∧ s.adverseOver f l n.marks.release
        ∨ (s.pause l).reasons.has .stress = false ∧ ¬s.adverseOver f l n.marks.pause) →
    (t.pause l).reasons.has .stress = (s.pause l).reasons.has .stress
  draft : s.reasonFollows t l .draft .draftLimit
  lag : s.reasonFollows t l .ballastLag .ballastLag
  invalid : s.reasonFollows t l .conditionInvalid .conditionInvalid
  safe : s.safeFollows t l
  others : ∀ r, r = .offPlan ∨ r = .planComplete ∨ r = .shoreSilent ∨ r = .manual →
    (t.pause l).reasons.has r = (s.pause l).reasons.has r

/-- The reasons of one loader after an INVALID publication in a session: CONDITION_INVALID and SAFE may be added,
nothing else changes (R82). -/
structure State.loaderPacedInvalid (s t : State) (l : Nat) : Prop where
  invalid : s.reasonFollows t l .conditionInvalid .conditionInvalid
  safe : s.safeFollows t l
  others : ∀ r, r ≠ .conditionInvalid → r ≠ .safe → (t.pause l).reasons.has r = (s.pause l).reasons.has r

/-- The rows of R72 between a POUR's two states, by the loader's current assignment after the step advance: a
RUNNING belt over another hold sets the off-plan flag with its reason and fault, a match clears them, and any
other POUR leaves them. -/
def State.offPlanJudged (s t : State) (l : Nat) (spout : Option Nat) (belt : Belt) : Prop :=
  let wanted := t.assignment l
  let flag := nth s.tracker.offPlan l false
  let astray : Prop := belt = .running ∧ (wanted = none ∨ wanted ≠ spout)
  (astray → nth t.tracker.offPlan l false = true
      ∧ (flag = false → (t.pause l).reasons.has .offPlan = true ∧ t.faults.active .offPlan l = true)) ∧
  (¬astray → spout = wanted → flag = true → nth t.tracker.offPlan l false = false
      ∧ (t.pause l).reasons.has .offPlan = false ∧ t.faults.active .offPlan l = false) ∧
  ((astray ∧ flag = true) ∨ (¬astray ∧ ¬(spout = wanted ∧ flag = true)) → nth t.tracker.offPlan l false = flag
      ∧ (t.pause l).reasons.has .offPlan = (s.pause l).reasons.has .offPlan
      ∧ t.faults.active .offPlan l = s.faults.active .offPlan l)

/-- The overpour test of a POUR that leaves a loader at a last cumulative, for the open episode `e` of a loader
that is not released by the POUR (R89, R173): beyond the grace mark the episode takes the figure and, the first
time, OVERPOUR is raised, with SAFE where its escalation is on; at or below it nothing changes. -/
def State.overpourJudged (s t : State) (l c : Nat) (e : Episode) : Prop :=
  ∀ g, e.grace = some g →
    (g < c → (t.pause l).state.episode.bind Episode.overpour = some (max c (e.overpour.getD 0))
      ∧ (e.overpour = none → t.faults.active .overpour l = true
        ∧ (s.faults.active .overpour l = false → s.bank.safeOverpour = true → t.sys.mode = .safe))) ∧
    (c ≤ g → (t.pause l).state.episode.bind Episode.overpour = e.overpour
      ∧ t.faults.active .overpour l = s.faults.active .overpour l)

/-! ### Invariants -/

/-- Every image of a ship bank is in canonical form. -/
def ShipBank.canonical (b : ShipBank) : Bool := TableCode.shipTables.all fun c => (b.get c).mem.wf

/-- Both images of a plan bank are in canonical form. -/
def PlanBank.canonical (b : PlanBank) : Bool := b.header.mem.wf && b.steps.mem.wf

/-- Every table image the part holds is in canonical form: the banks, the ship store, a STORE being
written and the tables of a snapshot. -/
def State.canonical (s : State) : Bool :=
  s.mgmt.ship.active.canonical && s.mgmt.ship.staging.canonical && s.mgmt.plan.active.canonical
    && s.mgmt.plan.staging.canonical && s.mgmt.store.bank.canonical
    && s.mgmt.writing.all (fun j => j.bank.canonical) && s.engine.snapshot.all fun n => n.tables.canonical

/-- A settle or the second before a reload runs only in BYPASS (R169, R176); a session is open in LOADING,
and otherwise only in SAFE (R171 to R173). -/
def State.modeSound (s : State) : Prop :=
  (s.sys.settle.isSome ∨ s.sys.reload.isSome → s.sys.mode = .bypass)
    ∧ (s.sys.sessionOpen = true → s.sys.mode = .loading ∨ s.sys.mode = .safe)
    ∧ (s.sys.mode = .loading → s.sys.sessionOpen = true)

/-- One port: no more queued than its slots, lower-numbered classes ahead of higher (R110), and nothing
queued while the transmit side is free (R111). -/
def PortState.sound (p : PortState) (capacity : Nat) : Prop :=
  p.queue.length ≤ capacity ∧ p.queue.Pairwise (fun a b => a.cls ≤ b.cls) ∧ (p.sending = none → p.queue = [])

/-- The three ports are sound. -/
def State.portsSound (s : State) : Prop :=
  s.out.console.sound 32 ∧ s.out.field.sound 32 ∧ s.out.shore.sound 16

/-- The fault table (R178, R179): at most 32 entries, one for a kind and subject; one mark for a kind and
subject; a mark waits only while it has no entry and the table is full; a mark that does not wait is
that of an ACTIVE entry, and every ACTIVE entry has such a mark. -/
structure Faults.sound (f : Faults) : Prop where
  capacity : f.entries.length ≤ 32
  oneEntry : f.entries.Pairwise fun a b => ¬(a.kind = b.kind ∧ a.subject = b.subject)
  oneMark : f.marks.Pairwise fun a b => ¬(a.kind = b.kind ∧ a.subject = b.subject)
  waits : ∀ m ∈ f.marks, m.waiting = true →
    f.entries.length = 32 ∧ ∀ e ∈ f.entries, ¬(e.kind = m.kind ∧ e.subject = m.subject)
  entered : ∀ m ∈ f.marks, m.waiting = false →
    ∃ e ∈ f.entries, e.kind = m.kind ∧ e.subject = m.subject ∧ e.state ≠ .clearedUnack
  marked : ∀ e ∈ f.entries, e.state ≠ .clearedUnack →
    ∃ m ∈ f.marks, m.kind = e.kind ∧ m.subject = e.subject ∧ m.waiting = false

/-- The alarm line is STEADY while a CRITICAL entry is present, a CRITICAL mark waits or the table-fault
latch is set (R184). -/
def State.alarmSound (s : State) : Prop :=
  (s.sys.latch = true ∨ (∃ e ∈ s.faults.entries, e.kind.severity = .critical)
      ∨ (∃ m ∈ s.faults.marks, m.waiting = true ∧ m.kind.severity = .critical)) → s.faults.alarm = .steady

/-- The held-order list holds at most 16 entries, at most one for a station (R144), and never a PUMP_STOP
(R136). -/
def State.heldSound (s : State) : Prop :=
  s.screen.held.length ≤ 16 ∧ (s.screen.held.Pairwise fun a b => a.station ≠ b.station)
    ∧ ∀ h ∈ s.screen.held, h.order.type ≠ .pumpStop

/-- Whether each record of a list carries the number after the record before it, up to a next number. -/
def consecutive (next : Nat) : List ReportRec → Prop
  | [] => True
  | [r] => nextNumber r.number = next
  | r :: q :: rest => nextNumber r.number = q.number ∧ consecutive next (q :: rest)

/-- The report store holds at most 96 records with consecutive numbers, 1 following 65535, the next number
after the last (R154). -/
def State.reportsSound (s : State) : Prop :=
  s.reports.records.length ≤ 96 ∧ consecutive s.reports.next s.reports.records
    ∧ 1 ≤ s.reports.next ∧ s.reports.next ≤ 65535

/-- A loader's pause record is FREE exactly when its reason set is empty (R76); the set holds SAFE exactly
while the mode is SAFE (R76, R94); outside a session it holds no other reason (R77). -/
def State.pausesSound (s : State) : Prop :=
  ∀ l < 4, ((s.pause l).state = .free ↔ (s.pause l).reasons = 0)
    ∧ ((s.pause l).reasons.has .safe = true ↔ s.sys.mode = .safe)
    ∧ (s.sys.sessionOpen = false → (s.pause l).reasons.remove .safe = 0)

/-- The sum of a figure over the four loader records. -/
def State.sumLoaders (s : State) (f : LoaderRec → Int) : Int := ((List.range 4).map fun l => f (s.loader l)).sum

/-- The relations of R21: each hold's mass is its opening cargo plus its attributed tonnage; each loader's
session tonnage is its last cumulative less its baseline; within a session the attributed tonnage of all
holds plus the session unattributed tonnage is the sum of the session tonnages, and the ship group is not
sealed (R171, R191). A spout names a hold of the part, and a loader without a baseline has its reset
figures. -/
structure State.tonnageSound (s : State) : Prop where
  balanced : ∀ h < 10, (s.hold h).balanced = true
  spout : ∀ l < 4, ∀ h, (s.loader l).spout = some h → h < 10
  tonnage : ∀ l < 4, (s.loader l).sessionTonnage = ((s.loader l).lastCum : Int) - ((s.loader l).baseline : Int)
  fresh : ∀ l < 4, (s.loader l).baselineSeen = false → (s.loader l).lastCum = 0 ∧ (s.loader l).baseline = 0
  unsealed : s.sys.sessionOpen = true → s.mgmt.ship.isSealed = false
  conserved : s.sys.sessionOpen = true →
    ((List.range 10).map fun h => (s.hold h).attributed).sum + s.shore.unattributed
      = s.sumLoaders LoaderRec.sessionTonnage
  unattributed : s.sys.sessionOpen = true → s.shore.unattributed = s.sumLoaders LoaderRec.unattributed

/-! ### The switch of the ship group -/

/-- One tank record at a ship-group switch, but for what the uncertainty growth of an evaluation start (R13)
changes in a LOST tank (R2). -/
structure State.tankReacts (s t : State) (k : Nat) : Prop where
  kept : s.bank.tankFitted k = true → t.bank.tankFitted k = true →
    t.tank k = { s.tank k with
        density := if (s.tank k).source = .descriptor then t.bank.tankDensity k else (s.tank k).density
        gauge := (t.tank k).gauge, uncertainty := (t.tank k).uncertainty }
      ∧ ((s.tank k).gauge.isLost = false →
        (t.tank k).gauge = (s.tank k).gauge ∧ (t.tank k).uncertainty = (s.tank k).uncertainty)
  fitted : s.bank.tankFitted k = false → t.bank.tankFitted k = true →
    t.tank k = { TankRec.reset (t.bank.tankDensity k) with gaugeTimer := some s.now }
  removed : s.bank.tankFitted k = true → t.bank.tankFitted k = false →
    t.tank k = TankRec.reset (t.bank.tankDensity k) ∧ (s.faults.sound → t.faults.active .gaugeFault k = false
      ∧ t.faults.active .gaugeLost k = false ∧ t.faults.active .tankOverrange k = false)

/-- One station record at a ship-group switch: bound by the new route table; kept, but for what a held order
forwarded after the switch changes, where its address is; else started afresh, the faults of an address given up
cleared (R116). -/
structure State.stationReacts (s t : State) (i : Nat) : Prop where
  bound : (t.station i).address = addressIn t.bank.stationBindings i
  kept : (s.station i).address = (t.station i).address → (t.station i).presence = (s.station i).presence
    ∧ (t.station i).presenceAt = (s.station i).presenceAt ∧ (t.station i).last = (s.station i).last
    ∧ (t.station i).lastTime = (s.station i).lastTime
    ∧ (s.heldOf i = none → t.station i = s.station i)
  renewed : (s.station i).address ≠ (t.station i).address →
    t.station i = { StationRec.reset (t.station i).address with
        presenceAt := if (t.station i).address.isSome then some (s.now + t.bank.presenceTimeout) else none }
      ∧ ((s.station i).address ≠ none → s.faults.sound → t.faults.active .stationSilent i = false
        ∧ t.faults.active .orderTimeout i = false ∧ t.faults.active .pumpTripped i = false)

/-- The blocks' reactions to a new active ship bank (R193, steps 4 and 5): tank records (R2), hold records (R31),
stations (R116), held orders and dry-run supervision (R152), every TABLE_FAULT cleared (R175). -/
structure State.reactsToShip (s t : State) : Prop where
  tanks : ∀ k < 32, s.tankReacts t k
  holds : ∀ h < 10, t.hold h = if t.bank.holdFitted h then s.hold h else HoldRec.reset
  stations : ∀ i < 64, s.stationReacts t i
  held : ∀ x ∈ t.screen.held, (s.station x.station).address = (t.station x.station).address
  dryRuns : ∀ l < 8, nth t.screen.tripped l false = false
    ∧ nth t.screen.dryAt l none = if t.dryCondition l then some (s.now + t.bank.dryRunDelay l) else none
  tableFaults : s.faults.sound → ∀ c ∈ TableCode.shipTables, t.faults.active .tableFault c.code = false

end Sys2Proof.Machine
end

