-- ==== Sys2Proof/WellFormed.lean ====
section
/-! DEFINITION. Which commands can exist at all: an index that names a tank, station, line or loader of
the part (Table 3 of 00_scope.md), a payload that fits a telegram (R113), and an unknown request code
that really is in no row of Table 11-1 (R185). -/

namespace Sys2Proof

/-- A MGMT telegram holds at most 56 payload bytes, the first of which is the request code (R113, R185). -/
def argsFit (args : List Byte) : Bool := args.length ≤ 55

/-- The request codes of Table 11-1 are 1 to 9 and 16 to 28. -/
def knownRequestCode (code : Byte) : Bool :=
  (1 ≤ code.toNat && code.toNat ≤ 9) || (16 ≤ code.toNat && code.toNat ≤ 28)

/-- The well-formedness check of a command. -/
def Instr.wellFormed : Instr → Bool
  | .powerOn => true
  | .powerLoss => true
  | .supplyDip => true
  | .settleEnd => true
  | .tableFaultReload => true
  | .commandedReset => true
  | .frameReceive _ _ => true
  | .sounding .. => true
  | .draft .. => true
  | .state .. => true
  | .ack .. => true
  | .order .. => true
  | .pour .. => true
  | .shoreBeacon _ _ _ payload => payload.length ≤ 56
  | .transmissionEnd _ => true
  | .gaugeTimeout tank => tank < 32
  | .stillIntervalExpiry tank => tank < 32
  | .shoreSilenceExpiry => true
  | .beaconTimerExpiry => true
  | .evaluationIntervalExpiry => true
  | .evaluationComplete => true
  | .presenceTimeout station => station < 64
  | .ackTimeout station => station < 64
  | .holdDeadline station => station < 64
  | .startLimitDeadline => true
  | .dryRunTrip line => line < 8
  | .confirmTimerExpiry loader => loader < 4
  | .conditionTimerExpiry => true
  | .scrubCheck => true
  | .alarmPulseToggle => true
  | .storeWritingEnd => true
  | .mgmtUnknownCode _ _ code args => !knownRequestCode code && argsFit args
  | .readStatus _ _ args => argsFit args
  | .setTime _ _ args => argsFit args
  | .writeTable _ _ args => argsFit args
  | .readTable _ _ args => argsFit args
  | .commit _ _ args => argsFit args
  | .store _ _ args => argsFit args
  | .reload _ _ args => argsFit args
  | .reset _ _ args => argsFit args
  | .requestEvaluation _ _ args => argsFit args
  | .readTank _ _ args => argsFit args
  | .readStation _ _ args => argsFit args
  | .setStationService _ _ args => argsFit args
  | .readCondition _ _ args => argsFit args
  | .setFixedWeight _ _ args => argsFit args
  | .manualPause _ _ args => argsFit args
  | .manualResume _ _ args => argsFit args
  | .openSession _ _ args => argsFit args
  | .closeSession _ _ args => argsFit args
  | .clearSafe _ _ args => argsFit args
  | .ackFault _ _ args => argsFit args
  | .readFaults _ _ args => argsFit args
  | .readReport _ _ args => argsFit args

end Sys2Proof
end

