-- ==== Sys2Proof/Certificates/Slice0/Obligations.lean ====
section
/-! DEFINITION. The statements for the provers. `s` is the state a command finds and `t` the one it leaves;
`s.onlyChanges l t` is the frame: every block not listed is as it was. Where a statement needs a sound
fault table or held-order list, that invariant is a statement of its own below. -/

open Sys2Proof Sys2Proof.Machine

/-! ### The queue of commands, supply and reset -/

/-- One step runs the command at the front of the queue on the state with the queue's rest (95, each row of
the table is one whole step). -/
def Obligations.StepRunsTheFrontCommand : Prop :=
  ∀ (c : Instr) (rest : List Instr) (s : State),
    step { s with pending := c :: rest } = exec c { s with pending := rest }

/-- With no command waiting a step runs the first due event, and with none due a second passes: the seconds
count outside BYPASS, the settle in BYPASS. The empty queue's meaning is the model's choice (log 1). -/
def Obligations.EmptyQueueRunsADueEventOrASecond : Prop :=
  ∀ s : State, s.pending = [] →
    (∀ c, s.dueEvent = some c → step s = exec c s) ∧
    (s.dueEvent = none → s.sys.powered = true →
      ∃ t, step s = .next t ∧
        (s.sys.mode ≠ .bypass →
          t.clock = { s.clock with seconds := s.clock.seconds + 1 } ∧ s.onlyChanges [.clock] t) ∧
        (s.sys.mode = .bypass →
          t.sys.settle = s.sys.settle.map Nat.pred ∧ t.clock = s.clock ∧ s.onlyChanges [.supply] t))

/-- POWER_ON, SUPPLY_DIP and a due COMMANDED_RESET answer a next state with every block at its reset values, the
settle of the cause running, the table-fault latch, the reload and the alarm line clear, and the ship store
kept; a power loss keeps the ship store alone; an unpowered part does nothing but power on. The state of an
unpowered part is the model's choice (log 29). -/
def Obligations.SupplyEventsResetThePart : Prop :=
  (∀ s : State, ∃ t, exec .powerOn s = .next t ∧ s.restarted t .powerOn 3) ∧
  (∀ s : State, s.sys.powered = true → ∃ t, exec .supplyDip s = .next t ∧ s.restarted t .supplyDip 1) ∧
  (∀ s : State, s.sys.powered = true → s.out.resetWait = .due →
    ∃ t, exec .commandedReset s = .next t ∧ s.restarted t .commanded 1) ∧
  (∀ s : State, ∃ t, exec .powerLoss s = .next t ∧ t.sys.powered = false ∧ t.relayClosed = true
      ∧ t.alarmOutput = false ∧ t.mgmt.store = s.mgmt.store ∧ t.pending = s.pending) ∧
  (∀ (c : Instr) (s : State), s.sys.powered = false → c ≠ .powerOn → c ≠ .powerLoss → exec c s = .next s)

/-- At the end of the settle the ship group is loaded into both banks and the part comes into circuit: in
STANDBY with the timers running when the store is valid, else in UNCONFIGURED with the default tables. -/
def Obligations.SettleEndLoadsTheShipStore : Prop :=
  ∀ s : State, s.ready → s.sys.settle = some 0 →
    ∃ t, exec .settleEnd s = .next t ∧ t.sys.settle = none ∧ t.mgmt.store = s.mgmt.store
      ∧ t.mgmt.ship.gen = s.mgmt.ship.gen ∧ t.shore.beaconAt = some (s.now + t.bank.beaconInterval)
      ∧ (s.storeValid = true →
          t.sys.mode = .standby ∧ t.mgmt.ship.active = s.mgmt.store.bank ∧ t.mgmt.ship.staging = s.mgmt.store.bank
            ∧ t.mgmt.unstored = false ∧ t.mgmt.storeState = .valid
            ∧ t.engine.intervalAt = some (s.now + t.bank.evaluationInterval)
            ∧ (∀ i < 32, t.bank.tankFitted i = true →
                t.tank i = { TankRec.reset (t.bank.tankDensity i) with gaugeTimer := some s.now })
            ∧ (∀ i < 64, (t.station i).address = addressIn t.bank.stationBindings i
                ∧ ((t.station i).address.isSome → (t.station i).presenceAt = some (s.now + t.bank.presenceTimeout))))
      ∧ (s.storeValid = false →
          t.sys.mode = .unconfigured ∧ t.mgmt.ship.active = ShipBank.default
            ∧ t.mgmt.ship.staging = ShipBank.default ∧ t.mgmt.unstored = true ∧ t.mgmt.storeState = .invalid)
      ∧ s.onlyChanges [.mode, .supply, .ship, .store, .scrub, .tanks, .stations, .engine, .shore, .out, .faults] t

/-- One second after a table-fault BYPASS the ship group is reloaded: a valid image brings STANDBY with the
latch clear and the cause kept; an invalid one leaves BYPASS, latch and alarm as they are. -/
def Obligations.TableFaultReloadNeedsAValidImage : Prop :=
  ∀ s : State, s.ready → s.sys.reload = some 0 →
    ∃ t, exec .tableFaultReload s = .next t ∧ t.sys.reload = none ∧ t.sys.cause = s.sys.cause
      ∧ (s.storeValid = true → t.sys.mode = .standby ∧ t.sys.latch = false ∧ t.bank = s.mgmt.store.bank
          ∧ t.engine.intervalAt = some (s.now + t.bank.evaluationInterval))
      ∧ (s.storeValid = false → t.sys.mode = s.sys.mode ∧ t.sys.latch = s.sys.latch ∧ t.faults = s.faults
          ∧ t.out = s.out ∧ s.onlyChanges [.supply, .ship, .store] t)

/-! ### The passage -/

/-- The bytes of a telegram, laid out with length byte and check word, are received as that telegram; and a
frame of a telegram has the effect of the command that carries the telegram. -/
def Obligations.FramesArriveAsTheirTelegrams : Prop :=
  (∀ t : Telegram, t.payload.length ≤ 56 → parseFrame t.frame = some t) ∧
  (∀ (s : State) (dst src seq : Byte) (level : Word16) (status sample : Byte),
    exec (.frameReceive .field (soundingTelegram dst src seq level status sample).frame) s
      = exec (.sounding dst src seq level status sample) s) ∧
  (∀ (s : State) (dst src seq : Byte) (fwd aft : Word16) (status : Byte),
    exec (.frameReceive .field (draftTelegram dst src seq fwd aft status).frame) s
      = exec (.draft dst src seq fwd aft status) s) ∧
  (∀ (s : State) (dst src seq : Byte) (r : StateReport),
    exec (.frameReceive .field (stateTelegram dst src seq r).frame) s = exec (.state dst src seq r) s) ∧
  (∀ (s : State) (dst src seq st q o r : Byte),
    exec (.frameReceive .field (ackTelegram dst src seq st q o r).frame) s = exec (.ack dst src seq st q o r) s) ∧
  (∀ (s : State) (dst src seq ty m v : Byte),
    exec (.frameReceive .console (consoleOrderTelegram dst src seq ty m v).frame) s
      = exec (.order dst src seq ty m v) s) ∧
  (∀ (s : State) (dst src seq l h : Byte) (c : Word32) (b : Byte) (r : Word16),
    exec (.frameReceive .shore (pourTelegram dst src seq l h c b r).frame) s = exec (.pour dst src seq l h c b r) s) ∧
  (∀ (s : State) (dst src seq : Byte) (p : List Byte), p.length ≤ 56 →
    exec (.frameReceive .shore (shoreBeaconTelegram dst src seq p).frame) s = exec (.shoreBeacon dst src seq p) s) ∧
  (∀ (s : State) (src seq code : Byte) (args : List Byte), s.ready → args.length ≤ 55 →
    exec (.frameReceive .console
        ({ dst := s.bank.ownAddress, src := src, kind := kindMgmt, seq := seq, payload := code :: args } : Telegram).frame) s
      = .next (s.request src seq code args))

/-- What becomes of a frame outside BYPASS. One that fails a check of R99 (size, length byte, check word,
addresses, the kind's length) is discarded: bad-frame counter and BAD_CHECK. One that passes is counted
accepted; from a foreign source it is discarded and counted; for the part but taken by no block it is
misdirected (in UNCONFIGURED on the field port by the model's reading, log 24); the route action of its
governing entry passes it on unchanged, or traps or drops and counts it; a trapped ORDER is answered
REFUSED, reason ROUTE; in UNCONFIGURED everything else passes on. That a console's MGMT to a CONSOLE-role address
stays on the console side, and that an unscreened ORDER which finds no place in the field queue is not answered, is
the model's choice (logs 50 and 61). Nothing but the ports changes. -/
def Obligations.BadFramesAreCountedAndDiscarded : Prop :=
  (∀ (s : State) (p : Port) (bs : List Byte), s.inCircuit →
    (bs.length < 7 ∨ 63 < bs.length ∨ (byteAt bs 4).toNat + 7 ≠ bs.length
      ∨ beNat (bs.drop (bs.length - 2)) ≠ (crc (bs.take (bs.length - 2))).toNat
      ∨ byteAt bs 0 = 0 ∨ byteAt bs 1 = 0 ∨ byteAt bs 1 = 255
      ∨ wrongLength (byteAt bs 2) ((bs.drop 5).take (bs.length - 7))) →
    ∃ t, exec (.frameReceive p bs) s = .next t
      ∧ (t.out.port p).badFrames = satSucc (s.out.port p).badFrames
      ∧ (t.out.port p).accepted = (s.out.port p).accepted
      ∧ nth t.out.advisories Advisory.badCheck.index 0 = satSucc (nth s.out.advisories Advisory.badCheck.index 0)
      ∧ s.onlyChanges [.out] t) ∧
  (∀ (s : State) (p : Port) (x : Telegram), s.inCircuit → x.admitted → s.fromForeign p x →
    ∃ t, exec (.frameReceive p x.frame) s = .next t
      ∧ (t.out.port p).accepted = satSucc (s.out.port p).accepted
      ∧ (t.out.port p).foreignSource = satSucc (s.out.port p).foreignSource
      ∧ nth t.out.advisories Advisory.foreignSource.index 0
          = satSucc (nth s.out.advisories Advisory.foreignSource.index 0)
      ∧ s.onlyChanges [.out] t) ∧
  (∀ (s : State) (p : Port) (x : Telegram), s.inCircuit → x.admitted → ¬s.fromForeign p x →
    (p = .console ∧ s.working = true ∧ x.dst = s.bank.ownAddress ∧ x.kind ≠ 0x51
      ∨ p = .field ∧ x.dst = s.bank.ownAddress ∧ (s.working = false ∨ s.uninspected x)
      ∨ p = .shore ∧ x.dst ≠ s.bank.ownAddress ∧ x.dst ≠ 255) →
    exec (.frameReceive p x.frame) s = .next ((s.countAccepted p).modPort p fun q =>
      { q with misdirected := satSucc q.misdirected })) ∧
  (∀ (s : State) (p q : Port) (x : Telegram), s.inService → x.admitted → ¬s.fromForeign p x →
    x.dst ≠ s.bank.ownAddress →
    (p = .field ∧ q = .console ∧ s.uninspected x ∨ p = .console ∧ q = .field ∧ x.kind ≠ 0x41) →
    let here := (s.bank.role x.dst).fieldSide = true ∧ p = .field ∨ s.bank.role x.dst = .console ∧ p = .console
    let action := s.bank.action (if p = .field then x.src else x.dst)
    let a := s.countAccepted p
    (here → exec (.frameReceive p x.frame) s = .next a) ∧
    (¬here → action = .trap →
      exec (.frameReceive p x.frame) s = .next (a.modPort p fun r => { r with trapped := satSucc r.trapped })) ∧
    (¬here → action = .drop → exec (.frameReceive p x.frame) s
      = .next (a.modPort p fun r => { r with routeDropped := satSucc r.routeDropped })) ∧
    (¬here → action = .pass → ∃ t, exec (.frameReceive p x.frame) s = .next t ∧ a.passesOn t q x)) ∧
  (∀ (s : State) (x : Telegram), s.inService → x.admitted → s.bank.role x.src = .console →
    x.src ≠ s.bank.ownAddress → x.dst ≠ s.bank.ownAddress → x.kind = 0x41 → x.dst ≠ 255 →
    (s.bank.role x.dst = .none ∨ s.bank.role x.dst = .other ∨ s.bank.role x.dst = .gauge
      ∨ s.bank.role x.dst = .draft) →
    let a := s.countAccepted .console
    (s.bank.action x.dst = .pass → ∃ t, exec (.frameReceive .console x.frame) s = .next t ∧ a.passesOn t .field x) ∧
    (s.bank.action x.dst = .trap → ∃ t, exec (.frameReceive .console x.frame) s = .next t
      ∧ (t.out.port .console).trapped = satSucc (s.out.port .console).trapped
      ∧ (s.consoleIdle → t.out.console.sending = some (s.ackEntry x.src x.dst x.seq 17 23))
      ∧ s.onlyChanges [.out] t) ∧
    (s.bank.action x.dst = .drop → exec (.frameReceive .console x.frame) s
      = .next (a.modPort .console fun r => { r with routeDropped := satSucc r.routeDropped }))) ∧
  (∀ (s : State) (p q : Port) (x : Telegram), s.inCircuit → s.working = false → x.admitted →
    x.src ≠ s.bank.ownAddress →
    (p = .console ∧ q = .field ∧ ¬(x.dst = s.bank.ownAddress ∧ x.kind = 0x51)
      ∨ p = .field ∧ q = .console ∧ x.dst ≠ s.bank.ownAddress) →
    ∃ t, exec (.frameReceive p x.frame) s = .next t ∧ (s.countAccepted p).passesOn t q x)

/-- At the end of a transmission the head of the queue leaves it and its transmission begins; a RESET that
waited for the telegram becomes due; the other ports are untouched. -/
def Obligations.TransmissionEndTakesTheNextHead : Prop :=
  ∀ (s : State) (p : Port) (e : QEntry), s.ready → (s.out.port p).sending = some e →
    ∃ t, exec (.transmissionEnd p) s = .next t
      ∧ t.out.port p = { s.out.port p with sending := (s.out.port p).queue.head?, queue := (s.out.port p).queue.tail }
      ∧ (∀ q, q ≠ p → t.out.port q = s.out.port q)
      ∧ t.out.resetWait = (if e.resetReply then .due else s.out.resetWait)
      ∧ t.out.advisories = s.out.advisories ∧ s.onlyChanges [.out] t

/-- An offer at a busy port whose queue is in class order: with room the telegram enters behind its own and
lower-numbered classes; at a full queue classes 2 and 3 are dropped, and classes 0 and 1 evict the newest
of class 3, else of class 2, and enter the queue without it, else are dropped. The other telegrams keep
their order. -/
def Obligations.OfferFollowsClassAndAge : Prop :=
  ∀ (p : PortState) (capacity : Nat) (e : QEntry), p.sending ≠ none →
    p.queue.Pairwise (fun a b => a.cls ≤ b.cls) →
    let enter := fun q : List QEntry => q.filter (fun x => x.cls ≤ e.cls) ++ e :: q.filter (fun x => e.cls < x.cls)
    let newest := fun c : Fin 4 => (p.queue.filter fun x => x.cls = c).getLast?
    let r := p.offer capacity e
    (p.queue.length < capacity → r.ok = true ∧ r.lost = none ∧ r.port = { p with queue := enter p.queue }) ∧
    (capacity ≤ p.queue.length → 2 ≤ e.cls → r.ok = false ∧ r.lost = some e ∧ r.port.queue = p.queue
      ∧ nth r.port.queueDrops e.cls 0 = satSucc (nth p.queueDrops e.cls 0)) ∧
    (capacity ≤ p.queue.length → e.cls < 2 → ∀ v, (newest 3).or (newest 2) = some v →
      r.ok = true ∧ r.lost = some v ∧ r.port.queue.length = p.queue.length
        ∧ r.port.queue = enter (p.queue.filter (fun x => x.cls < v.cls)
            ++ (p.queue.filter fun x => x.cls = v.cls).dropLast ++ p.queue.filter fun x => v.cls < x.cls)
        ∧ (e :: p.queue).Perm (v :: r.port.queue) ∧ r.port.queue.Pairwise (fun a b => a.cls ≤ b.cls)
        ∧ nth r.port.queueDrops v.cls 0 = satSucc (nth p.queueDrops v.cls 0)) ∧
    (capacity ≤ p.queue.length → e.cls < 2 → (newest 3).or (newest 2) = none →
      r.ok = false ∧ r.lost = some e ∧ r.port.queue = p.queue)

/-! ### Tank accounting -/

/-- A repeat, a FAULT sample and an implausible sample before the fourth touch neither level nor mass: only
the counters, the reject run, the gauge status and GAUGE_FAULT change as R5 to R7 say. -/
def Obligations.RejectedSoundingsKeepTheMass : Prop :=
  ∀ (s : State) (dst src seq : Byte) (level : Word16) (status sample : Byte) (k : Nat),
    s.inService → s.otherNode src → dst ≠ 0 → s.bank.role src = .gauge → s.bank.binding src = k →
    s.bank.tankFitted k = true →
    let r := s.tank k
    let bad : Bool := decide (status ≠ 0) || decide (40000 < level.toNat)
    (r.lastSample = some sample →
      ∃ t, exec (.sounding dst src seq level status sample) s = .next t
        ∧ t.tank k = { r with rejected := satSucc r.rejected } ∧ (∀ i, i ≠ k → t.tank i = s.tank i)
        ∧ s.onlyChanges [.tanks, .out, .screen] t) ∧
    (r.lastSample ≠ some sample → bad = true →
      ∃ t, exec (.sounding dst src seq level status sample) s = .next t
        ∧ t.tank k = { r with
            lastSample := some sample, rejected := satSucc r.rejected
            gauge := if r.gauge.isLost then r.gauge else .fault }
        ∧ (∀ i, i ≠ k → t.tank i = s.tank i) ∧ (s.faults.sound → t.faults.active .gaugeFault k = true)
        ∧ s.onlyChanges [.tanks, .faults, .out, .screen] t) ∧
    (r.lastSample ≠ some sample → bad = false → s.plausible k level.toNat = false → r.rejectRun < 3 →
      ∃ t, exec (.sounding dst src seq level status sample) s = .next t
        ∧ t.tank k = { r with
            lastSample := some sample, rejected := satSucc r.rejected, rejectRun := r.rejectRun + 1 }
        ∧ (∀ i, i ≠ k → t.tank i = s.tank i)
        ∧ nth t.out.advisories Advisory.gaugeReject.index 0 = satSucc (nth s.out.advisories Advisory.gaugeReject.index 0)
        ∧ s.onlyChanges [.tanks, .out, .screen] t)

/-- An accepted sample updates its tank alone: level, trim correction, volume and mass at the record's
density, LIVE, the gauge faults cleared, TANK_OVERRANGE by the last point. The mass at the density before says
whether the tank changes to FILLING: on that change in a session the density is the port water density with source
PORT, and on every other sample both are kept; the extreme of a change to FILLING is the mass at the new density. -/
def Obligations.AcceptedSampleSetsLevelVolumeMass : Prop :=
  ∀ (s : State) (dst src seq : Byte) (level : Word16) (status sample : Byte) (k : Nat),
    s.inService → s.otherNode src → dst ≠ 0 → s.bank.role src = .gauge → s.bank.binding src = k →
    s.bank.tankFitted k = true → (s.tank k).lastSample ≠ some sample → status = 0 → level.toNat ≤ 40000 →
    (s.plausible k level.toNat = true ∨ 3 ≤ (s.tank k).rejectRun) →
    ∃ t, exec (.sounding dst src seq level status sample) s = .next t ∧
      (let r := s.tank k
       let v := t.tank k
       let turns := r.motion.turnsToFilling (roundDiv (v.volume * r.density) 1000) (s.bank.tankThreshold k)
       v.rawLevel = level.toNat ∧ v.trimUsed = s.engine.latestTrim.getD 0
        ∧ v.corrected = max 0 ((level.toNat : Int) + roundDiv (v.trimUsed * s.bank.tankTrimFactor k) 1000)
        ∧ v.volume = interpolate (s.bank.points k) v.corrected
        ∧ v.mass = roundDiv (v.volume * v.density) 1000
        ∧ v.gauge = .live ∧ v.uncertainty = (if r.gauge.isLost then 0 else r.uncertainty)
        ∧ v.lastAccepted = some s.now ∧ v.gaugeTimer = some s.now ∧ v.rejectRun = 0
        ∧ v.accepted = satSucc r.accepted ∧ v.rejected = r.rejected ∧ v.lastSample = some sample
        ∧ turns = (v.motion.isFilling && !r.motion.isFilling)
        ∧ (turns = true → ∃ o, v.motion = .filling { mass := v.mass, time := s.now } o)
        ∧ (turns = true → s.sys.sessionOpen = true → v.density = s.plan.portDensity ∧ v.source = .port)
        ∧ (turns = false ∨ s.sys.sessionOpen = false → v.density = r.density ∧ v.source = r.source)
        ∧ (s.faults.sound → t.faults.active .gaugeFault k = false
            ∧ (r.gauge.isLost = true → t.faults.active .gaugeLost k = false)
            ∧ t.faults.active .tankOverrange k = aboveLast (s.bank.points k) v.corrected)) ∧
      (∀ i, i ≠ k → t.tank i = s.tank i) ∧ s.onlyChanges [.tanks, .faults, .out, .reports, .screen] t

/-- The movement state judged on a mass, every row of R15 and R16; a change to FILLING in a session sets the density
to the port water density, the source to PORT and the mass to that of the same volume, and nothing else touches
them (R10). -/
def Obligations.MovementFollowsTheMass : Prop :=
  ∀ (s : State) (k : Nat), k < 32 →
    let r := s.tank k
    let m := r.mass
    let th := s.bank.tankThreshold k
    let v := (s.judgeMotion k).tank k
    let here : MassAt := { mass := v.mass, time := s.now }
    (r.motion = .still none → v.motion = .still (some here)) ∧
    (∀ a, r.motion = .still (some a) →
      (m ≤ a.mass - th → v.motion = .emptying here { startMass := a.mass, startTime := s.now, gaugeLost := false }) ∧
      (a.mass - th < m → a.mass + th ≤ m →
        v.motion = .filling here { startMass := a.mass, startTime := s.now, gaugeLost := false }) ∧
      (a.mass - th < m → m < a.mass + th → v = r)) ∧
    (∀ e o, r.motion = .emptying e o →
      (m < e.mass → v.motion = .emptying here o) ∧
      (e.mass ≤ m → e.mass + th ≤ m →
        v.motion = .filling here { startMass := e.mass, startTime := e.time, gaugeLost := false }) ∧
      (e.mass ≤ m → m < e.mass + th → v = r)) ∧
    (∀ e o, r.motion = .filling e o →
      (e.mass < m → v.motion = .filling here o) ∧
      (m ≤ e.mass → m ≤ e.mass - th →
        v.motion = .emptying here { startMass := e.mass, startTime := e.time, gaugeLost := false }) ∧
      (m ≤ e.mass → e.mass - th < m → v = r)) ∧
    (r.motion.turnsToFilling m th = true → s.sys.sessionOpen = true →
      v.density = s.plan.portDensity ∧ v.source = .port ∧ v.mass = roundDiv (r.volume * s.plan.portDensity) 1000) ∧
    (r.motion.turnsToFilling m th = false ∨ s.sys.sessionOpen = false →
      v.density = r.density ∧ v.source = r.source ∧ v.mass = m) ∧
    (∀ i, i ≠ k → (s.judgeMotion k).tank i = s.tank i)

/-- A due gauge timeout makes the gauge LOST and marks an open operation, the mass held; a due still
interval closes the operation at its extreme, with a BALLAST record in a session, and anchors the tank at
its mass. -/
def Obligations.TankTimersLoseGaugesAndCloseOperations : Prop :=
  (∀ (s : State) (k a : Nat), s.ready → s.working = true → s.bank.tankFitted k = true →
    (s.tank k).gaugeTimer = some a → a + s.bank.gaugeTimeout ≤ s.now →
    ∃ t, exec (.gaugeTimeout k) s = .next t
      ∧ t.tank k = { s.tank k with gauge := .lost s.now, gaugeTimer := none, motion := (s.tank k).motion.markLost }
      ∧ (∀ i, i ≠ k → t.tank i = s.tank i) ∧ (s.faults.sound → t.faults.active .gaugeLost k = true)
      ∧ s.onlyChanges [.tanks, .faults, .out, .screen] t) ∧
  (∀ (s : State) (k : Nat) (e : MassAt) (o : Operation) (fill : Bool), s.ready → s.working = true →
    (s.tank k).motion = (if fill then .filling e o else .emptying e o) → e.time + s.bank.stillInterval ≤ s.now →
    ∃ t, exec (.stillIntervalExpiry k) s = .next t
      ∧ t.tank k = { s.tank k with motion := .still (some { mass := (s.tank k).mass, time := s.now }) }
      ∧ (∀ i, i ≠ k → t.tank i = s.tank i)
      ∧ (s.sys.sessionOpen = true → t.reports.records.getLast? = some
          { number := s.reports.next, kind := .ballast, time := s.stamp, isPartial := false, gaugeLost := o.gaugeLost
            body := [bodyQuantity k, if fill then 0 else 1, s.bodyTime o.startTime, bodyQuantity o.startMass,
              s.bodyTime e.time, bodyQuantity e.mass, bodyQuantity (absInt (e.mass - o.startMass))] })
      ∧ (s.sys.sessionOpen = false → t.reports = s.reports)
      ∧ s.onlyChanges [.tanks, .out, .reports] t)

/-! ### Shore line -/

/-- The first POUR of a loader in a session that passes the checks sets its baseline and charges no hold; the
off-plan test follows it. -/
def Obligations.FirstPourSetsTheBaseline : Prop :=
  ∀ (s : State) (dst src seq l h : Byte) (c : Word32) (b : Byte) (rate : Word16) (belt : Belt),
    s.inService → s.sys.sessionOpen = true → s.otherNode src → dst ≠ 0 → (dst = s.bank.ownAddress ∨ dst = allNodes) →
    l.toNat < 4 → c.toNat ≤ 4000000000 → beltOf b.toNat = some belt →
    (h.toNat = 15 ∨ s.bank.holdFitted h.toNat = true) → (s.loader l.toNat).baselineSeen = false →
    ∃ t, exec (.pour dst src seq l h c b rate) s = .next t
      ∧ t.loader l.toNat = { s.loader l.toNat with
          baselineSeen := true, baseline := c.toNat, lastCum := c.toNat, sessionTonnage := 0
          spout := if h.toNat < 10 then some h.toNat else none, belt := belt, lastPour := some s.now }
      ∧ (∀ m, m ≠ l.toNat → t.loader m = s.loader m) ∧ (∀ k, t.hold k = s.hold k)
      ∧ t.shore.unattributed = s.shore.unattributed
      ∧ t.shore.silence = .watching (s.now + s.bank.silenceTimeout)
      ∧ (s.faults.sound → s.offPlanJudged t l.toNat (if h.toNat < 10 then some h.toNat else none) belt)
      ∧ s.onlyChanges [.shore, .pacing, .tracker, .reports, .out, .faults, .mode, .screen, .stations] t

/-- A later POUR charges its delta to the hold of the previous POUR, or counts it as unattributed. The off-plan test
follows, and for a loader that stays not FREE (no shore silence ends with the POUR) the overpour test: OVERPOUR once an
episode, beyond its grace mark. A POUR with a field out of range or over an unfitted hold is rejected with BAD_POUR,
one below the last cumulative with POUR_REGRESSION, the first failure deciding: it changes no loader, hold or
unattributed figure. One without a session is a sign of life only. -/
def Obligations.LaterPourChargesThePreviousSpout : Prop :=
  (∀ (s : State) (dst src seq l h : Byte) (c : Word32) (b : Byte) (rate : Word16) (belt : Belt),
    s.inService → s.sys.sessionOpen = true → s.mgmt.ship.isSealed = false → s.otherNode src → dst ≠ 0 →
    (dst = s.bank.ownAddress ∨ dst = allNodes) → l.toNat < 4 → c.toNat ≤ 4000000000 → beltOf b.toNat = some belt →
    (h.toNat = 15 ∨ s.bank.holdFitted h.toNat = true) → (s.loader l.toNat).baselineSeen = true →
    let r := s.loader l.toNat
    let d : Int := (c.toNat : Int) - (r.lastCum : Int)
    r.lastCum ≤ c.toNat →
      ∃ t, exec (.pour dst src seq l h c b rate) s = .next t
        ∧ t.loader l.toNat = { r with
            lastCum := c.toNat, sessionTonnage := (c.toNat : Int) - (r.baseline : Int)
            spout := if h.toNat < 10 then some h.toNat else none, belt := belt, lastPour := some s.now
            unattributed := if r.spout = none then r.unattributed + d else r.unattributed }
        ∧ (∀ m, m ≠ l.toNat → t.loader m = s.loader m)
        ∧ (∀ k, k < 10 → r.spout = some k →
            t.hold k = { s.hold k with attributed := (s.hold k).attributed + d, mass := (s.hold k).mass + d })
        ∧ (∀ k, r.spout ≠ some k → t.hold k = s.hold k)
        ∧ t.shore.unattributed = (if r.spout = none then s.shore.unattributed + d else s.shore.unattributed)
        ∧ (s.faults.sound → s.offPlanJudged t l.toNat (if h.toNat < 10 then some h.toNat else none) belt)
        ∧ (s.faults.sound → s.mgmt.plan.isSealed = false → s.shore.silence ≠ .silent →
            ∀ e, (s.pause l.toNat).state.episode = some e → (s.pause l.toNat).reasons ≠ 0 →
              (t.pause l.toNat).reasons ≠ 0 → s.overpourJudged t l.toNat c.toNat e)
        ∧ s.onlyChanges [.shore, .pacing, .tracker, .reports, .out, .faults, .mode, .screen, .stations, .engine,
            .tanks, .plan] t) ∧
  (∀ (s : State) (dst src seq l h : Byte) (c : Word32) (b : Byte) (rate : Word16), s.inService → s.otherNode src →
    dst ≠ 0 → (dst = s.bank.ownAddress ∨ dst = allNodes) →
    let inRange := l.toNat < 4 ∧ c.toNat ≤ 4000000000 ∧ (h.toNat < 10 ∨ h.toNat = 15) ∧ b.toNat ≤ 2
    let regresses := (s.loader l.toNat).baselineSeen = true ∧ c.toNat < (s.loader l.toNat).lastCum
    (s.sys.sessionOpen = true →
      (¬inRange → ∃ t, exec (.pour dst src seq l h c b rate) s = .next t ∧ s.pourRejected t .badPour) ∧
      (inRange → regresses →
        ∃ t, exec (.pour dst src seq l h c b rate) s = .next t ∧ s.pourRejected t .pourRegression) ∧
      (inRange → ¬regresses → h.toNat < 10 → s.bank.holdFitted h.toNat = false →
        ∃ t, exec (.pour dst src seq l h c b rate) s = .next t ∧ s.pourRejected t .badPour)) ∧
    (s.sys.sessionOpen = false → ∃ t, exec (.pour dst src seq l h c b rate) s = .next t
      ∧ t.shore = { s.shore with silence := .watching (s.now + s.bank.silenceTimeout) }
      ∧ (s.shore.silence ≠ .silent → t.out.advisories = s.out.advisories ∧ s.onlyChanges [.shore, .out] t)
      ∧ s.onlyChanges [.shore, .pacing, .out, .faults, .tracker, .reports] t))

/-- The terminal's SHORE_BEACON is a sign of life: silence supervision watches from now, and SHORE_SILENT
and its pause reason go; nothing is read from it. -/
def Obligations.ShoreTelegramIsASignOfLife : Prop :=
  ∀ (s : State) (dst src seq : Byte) (payload : List Byte), s.inService → s.otherNode src → dst ≠ 0 →
    (dst = s.bank.ownAddress ∨ dst = allNodes) → payload.length ≤ 56 →
    ∃ t, exec (.shoreBeacon dst src seq payload) s = .next t
      ∧ t.shore = { s.shore with silence := .watching (s.now + s.bank.silenceTimeout) }
      ∧ (s.shore.silence ≠ .silent → s.onlyChanges [.shore, .out] t)
      ∧ (s.shore.silence = .silent → s.faults.sound →
          t.faults.active .shoreSilent (portCode .shore) = false ∧ ∀ l < 4, (t.pause l).reasons.has .shoreSilent = false)
      ∧ s.onlyChanges [.shore, .pacing, .out, .faults, .tracker, .reports] t

/-- A due silence timer raises SHORE_SILENT and, in a session, adds its reason to every loader; a due beacon
timer sends a beacon with the mode and the count of loaders not FREE, and restarts. The beacon takes one shore
sequence number; only where the full shore queue drops a telegram can QUEUE_DROP's ALERT to the shore take more. -/
def Obligations.ShoreTimersRaiseSilenceAndSendBeacons : Prop :=
  (∀ (s : State) (d : Nat), s.ready → s.working = true → s.shore.silence = .watching d → d ≤ s.now →
    ∃ t, exec .shoreSilenceExpiry s = .next t ∧ t.shore = { s.shore with silence := .silent }
      ∧ (s.faults.sound → t.faults.active .shoreSilent (portCode .shore) = true)
      ∧ (s.sys.sessionOpen = true → ∀ l < 4, (t.pause l).reasons = (s.pause l).reasons.add .shoreSilent)
      ∧ (s.sys.sessionOpen = false → t.pacing = s.pacing)
      ∧ s.onlyChanges [.shore, .pacing, .out, .faults, .tracker, .reports] t) ∧
  (∀ (s : State) (d : Nat), s.ready → s.shore.beaconAt = some d → d ≤ s.now →
    ∃ t, exec .beaconTimerExpiry s = .next t
      ∧ t.shore = { s.shore with beaconAt := some (s.now + s.bank.beaconInterval) }
      ∧ (s.out.shore.queue.length < 16 ∨ s.bank.alertShore .advisory = false → t.out.shore.seq = s.out.shore.seq + 1)
      ∧ (s.out.shore.queue = [] → s.out.shore.sending = none → t.out.shore.sending = some
          { tel :=
              { dst := 255, src := s.bank.ownAddress, kind := 0x64, seq := s.out.shore.seq
                payload := [byteOf s.sys.mode.code 0, byteOf s.notFree 0] }
            cls := s.bank.classOf 0x64, resetReply := false })
      ∧ s.onlyChanges [.out, .shore] t)

/-! ### Condition engine -/

/-- A DRAFT of a DRAFT-role source becomes the draft reading, OK only with status 0 and both drafts in
range. -/
def Obligations.DraftBecomesTheReading : Prop :=
  ∀ (s : State) (dst src seq : Byte) (fwd aft : Word16) (status : Byte), s.inService → s.otherNode src → dst ≠ 0 →
    s.bank.role src = .draft →
    ∃ t, exec (.draft dst src seq fwd aft status) s = .next t
      ∧ t.engine = { s.engine with
          reading := some { fwd := fwd.toNat, aft := aft.toNat
                            ok := decide (status = 0 ∧ fwd.toNat ≤ 30000 ∧ aft.toNat ≤ 30000), arrival := s.now } }
      ∧ s.onlyChanges [.engine, .out] t

/-- At the interval timer's expiry an evaluation in flight only sets the pending flag, and an idle engine
begins one, its snapshot taking the masses, weights and tables as they stand; groups that are sealed
switch at that start, and the blocks react to a new ship group: tank, hold and station records, held orders,
dry-run supervision and TABLE_FAULT. An outstanding or held order whose station has lost its address is
answered WITHDRAWN to its console; that of several held orders the oldest is answered first is the model's choice
(log 37). The timer restarts with the interval active after the request: the order of the two at a switch is the
model's choice (log 57). -/
def Obligations.IntervalExpiryBeginsOrCoalesces : Prop :=
  (∀ (s : State) (d : Nat), s.ready → s.working = true → s.engine.intervalAt = some d → d ≤ s.now →
    (s.engine.inFlight = true →
      ∃ t, exec .evaluationIntervalExpiry s = .next t
        ∧ t.engine = { s.engine with pending := true, intervalAt := some (s.now + s.bank.evaluationInterval) }
        ∧ s.onlyChanges [.engine] t) ∧
    (s.engine.inFlight = false → ∃ t n, exec .evaluationIntervalExpiry s = .next t
        ∧ t.engine.inFlight = true ∧ t.engine.snapshot = some n
        ∧ t.engine.intervalAt = some (s.now + t.bank.evaluationInterval)
        ∧ t.engine.pending = s.engine.pending ∧ t.engine.published = s.engine.published
        ∧ (∀ i < 48, n.mass i = t.itemMass i) ∧ (∀ i < 32, n.unc i = t.itemUncertainty i) ∧ n.tables = t.bank
        ∧ n.shipGen = t.mgmt.ship.gen ∧ n.planGen = t.mgmt.plan.gen
        ∧ t.mgmt.ship = (if s.mgmt.ship.isSealed then
            { active := s.mgmt.ship.staging, staging := s.mgmt.ship.staging, gen := succWrap16 s.mgmt.ship.gen
              isSealed := false, isPending := false } else s.mgmt.ship)
        ∧ t.mgmt.plan = (if s.mgmt.plan.isSealed then
            { active := s.mgmt.plan.staging, staging := s.mgmt.plan.staging, gen := succWrap16 s.mgmt.plan.gen
              isSealed := false, isPending := false } else s.mgmt.plan)
        ∧ (s.mgmt.ship.isSealed = true → s.reactsToShip t ∧ t.mgmt.unstored = true)
        ∧ (s.mgmt.ship.isSealed = false → s.mgmt.plan.isSealed = false → s.onlyChanges [.engine, .tanks] t)
        ∧ s.onlyChanges [.ship, .plan, .store, .tanks, .shore, .engine, .tracker, .pacing, .stations, .screen,
            .reports, .out, .faults] t)) ∧
  (∀ (s : State) (bs : List (Nat × Byte)) (i : Nat) (o : Outstanding) (a c : Byte), i < 64 → s.consoleIdle →
    (s.station i).address = some a → addressIn bs i ≠ some a → (s.station i).outstanding = some o →
    o.console = some c → (s.rebindStation bs i).out.console.sending = some (s.ackEntry c a o.seq 20 0)) ∧
  (∀ (s : State) (old : Nat → Option Byte) (x : Held) (rest : List Held), s.consoleIdle →
    s.screen.held = x :: rest → (s.station x.station).address ≠ old x.station →
    (s.withdrawHeld old).out.console.sending
      = some (s.ackEntry x.order.console ((old x.station).getD 0) x.order.seq 20 0))

/-- An evaluation that completes publishes a record: VALID with the figures of its snapshot, the faults judged
on them and the loaders paced by them, or INVALID when it is damaged or a TABLE_FAULT is active, raising
CONDITION_INVALID and taking the part into SAFE. A pending request then begins a new evaluation; an evaluation
whose ship bank a RELOAD has replaced is abandoned for a new one and publishes nothing. -/
def Obligations.CompletionPublishesARecord : Prop :=
  ∀ (s : State) (n : Snapshot), s.ready → s.engine.inFlight = true → s.engine.snapshot = some n →
    let header : Header :=
      { number := s.nextEvaluation, shipGen := n.shipGen, planGen := n.planGen, session := n.session
        completion := s.stamp }
    (s.engine.abandon = false →
      ∃ t, exec .evaluationComplete s = .next t ∧ t.engine.number = s.nextEvaluation
        ∧ (s.engine.damaged = false → s.faults.anyActive .tableFault = false →
            t.engine.published = .valid header (s.figuresOf n) ∧ t.engine.latestTrim = some n.trim
              ∧ (s.faults.sound → s.faultsJudged t n (s.figuresOf n))
              ∧ (s.engine.pending = false → s.sys.sessionOpen = true →
                  ∀ l < 4, s.loaderPaced t n (s.figuresOf n) l))
        ∧ (s.engine.damaged = true ∨ s.faults.anyActive .tableFault = true →
            t.engine.published = .invalid header ∧ t.engine.latestTrim = s.engine.latestTrim
              ∧ (s.faults.sound → t.faults.active .conditionInvalid subjectNone = true)
              ∧ (s.faults.sound → s.faults.active .conditionInvalid subjectNone = false →
                  s.sys.mode = .standby ∨ s.sys.mode = .loading → t.sys.mode = .safe)
              ∧ (s.engine.pending = false → s.sys.sessionOpen = true → ∀ l < 4, s.loaderPacedInvalid t l))
        ∧ (s.engine.pending = false → t.engine.inFlight = false ∧ t.engine.snapshot = some n
            ∧ s.onlyChanges [.engine, .faults, .out, .mode, .tracker, .pacing, .reports, .shore, .screen, .stations] t)
        ∧ (s.engine.pending = true → t.engine.inFlight = true ∧ t.engine.pending = false
            ∧ (∃ m, t.engine.snapshot = some m ∧ m.tables = t.bank ∧ m.shipGen = t.mgmt.ship.gen
                ∧ m.planGen = t.mgmt.plan.gen)
            ∧ s.onlyChanges [.engine, .faults, .out, .mode, .tracker, .pacing, .reports, .shore, .screen, .stations,
                .ship, .plan, .store, .tanks] t)) ∧
    (s.engine.abandon = true →
      ∃ t, exec .evaluationComplete s = .next t ∧ t.engine.published = s.engine.published
        ∧ t.engine.number = s.engine.number ∧ t.engine.latestTrim = s.engine.latestTrim
        ∧ t.engine.inFlight = true ∧ t.engine.pending = false ∧ t.engine.abandon = false
        ∧ (∃ m, t.engine.snapshot = some m ∧ m.tables = t.bank ∧ m.shipGen = t.mgmt.ship.gen
            ∧ m.planGen = t.mgmt.plan.gen)
        ∧ (s.mgmt.ship.isSealed = false → s.mgmt.plan.isSealed = false → s.onlyChanges [.engine, .tanks] t)
        ∧ s.onlyChanges [.ship, .plan, .store, .tanks, .shore, .engine, .tracker, .pacing, .stations, .screen,
            .reports, .out, .faults] t)

/-- R44: the trim is rounded half away from zero and clamped to -9999..9999; a clamp, and an MCT of 0 or below
(trim 0), set the hydro flag. -/
def Obligations.TrimIsRoundedAndClamped : Prop :=
  ∀ n : Snapshot,
    (0 < n.mct →
      (let x := roundDiv (n.disp * (n.lcb - n.lcg)) (10 * n.mct)
       n.trim = max (-9999) (min 9999 x) ∧ (x < -9999 ∨ 9999 < x → n.hydro = true))) ∧
    (n.mct ≤ 0 → n.trim = 0 ∧ n.hydro = true) ∧ -9999 ≤ n.trim ∧ n.trim ≤ 9999

/-- R45: the aft draft takes half the trim, truncated toward zero, and the forward draft the rest. -/
def Obligations.DraftsDifferByTheTrim : Prop :=
  ∀ n : Snapshot,
    (let h : Int := if 0 ≤ n.trim then n.trim / 2 else -(-n.trim / 2)
     n.aft = n.tm + h ∧ n.fwd = n.tm - (n.trim - h)) ∧ n.aft - n.fwd = n.trim
      ∧ (n.trim = -627 → n.aft = n.tm - 313 ∧ n.fwd = n.tm + 314)

/-- R50: HYDRO_OUT_OF_TABLE follows the hydro flag at a VALID publication, and the record carries the flag. -/
def Obligations.HydroFlagDrivesItsFault : Prop :=
  ∀ (s : State) (n : Snapshot), s.ready → s.faults.sound → s.engine.inFlight = true → s.engine.snapshot = some n →
    s.engine.abandon = false → s.validNow = true →
    (n.hydro = true ↔ n.outsideHydro = true ∨ n.mct ≤ 0 ∨ n.trim ≠ n.rawTrim) ∧
    ∃ t, exec .evaluationComplete s = .next t ∧ t.faults.active .hydroOutOfTable TableCode.hydro.code = n.hydro
      ∧ ∃ h f, t.engine.published = .valid h f ∧ f.hydro = n.hydro

/-- R49: the peak is the largest guarded utilisation over the fitted stations, at the lowest station and shear
before moment where several share it; the band follows from it by the watermarks of the snapshot. -/
def Obligations.PeakIsTheFirstLargestFigure : Prop :=
  (∀ fs : List StationFig, (∀ f ∈ fs, 0 ≤ f.uShearGuarded ∧ 0 ≤ f.uMomentGuarded) → fs ≠ [] →
    let p := peakOf fs
    (∀ f ∈ fs, f.uShearGuarded ≤ p.value ∧ f.uMomentGuarded ≤ p.value) ∧
    (∃ f, fs[p.station]? = some f ∧
      (p.quantity = .shear → f.uShearGuarded = p.value) ∧
      (p.quantity = .moment → f.uMomentGuarded = p.value ∧ f.uShearGuarded < p.value)) ∧
    (∀ st f, st < p.station → fs[st]? = some f → f.uShearGuarded < p.value ∧ f.uMomentGuarded < p.value)) ∧
  (∀ (m : Marks) (x : Int), m.caution ≤ m.pause → m.pause ≤ 1000 →
    (bandOf m x = .normal ↔ x < m.caution) ∧ (bandOf m x = .caution ↔ m.caution ≤ x ∧ x < m.pause) ∧
    (bandOf m x = .pause ↔ m.pause ≤ x ∧ x < 1000) ∧ (bandOf m x = .limit ↔ 1000 ≤ x)) ∧
  (∀ (n : Snapshot) (o w : Nat) (used : Bool) (lag : Option Int),
    let f := n.figures o w used lag
    f.stations = n.tables.fittedStations.map n.stationFig ∧ f.peak = peakOf f.stations ∧ f.band = bandOf n.marks f.peak.value)

/-- Rounding: to the nearest multiple and half away from zero; rounding up for guards and utilisation. -/
def Obligations.DivisionsRoundAsTheManualSays : Prop :=
  (∀ n d : Int, d ≠ 0 →
    let r := n - roundDiv n d * d
    2 * r.natAbs ≤ d.natAbs ∧ (2 * r.natAbs = d.natAbs → n.natAbs < (roundDiv n d * d).natAbs)) ∧
  (∀ n d : Int, 0 < d → n ≤ ceilDiv n d * d ∧ (ceilDiv n d - 1) * d < n)

/-! ### Plan tracker and pacing -/

/-- A step advance completes, one record each, the steps from the active one on whose cargo targets are met, and
stops at the first whose target lies above the total cargo, or completes the plan with PLAN_COMPLETE on every
loader of a session; it touches no mass and no table, and nothing at all where no step is active. The STEP records
join the report store in step order under consecutive numbers. Steps done counts every record, without the bound of
Table 4-4 (log 44). -/
def Obligations.AdvanceStopsAtAnUnmetTarget : Prop :=
  ∀ s : State,
    (∀ a, s.tracker.tracking = .tracking a →
      (∀ b, s.advance.tracker.tracking = .tracking b →
        a.k ≤ b.k ∧ (∀ j, a.k ≤ j → j < b.k → s.targetOf j ≤ s.totalCargo) ∧ s.totalCargo < s.targetOf b.k
          ∧ s.advance.tracker.stepsDone = s.tracker.stepsDone + (b.k - a.k)
          ∧ s.advance.reports = s.reportsAfterSteps a (b.k - a.k)) ∧
      (s.advance.tracker.tracking = .complete →
        (∀ j, a.k ≤ j → j ≤ max a.k s.plan.stepCount → s.targetOf j ≤ s.totalCargo)
          ∧ s.advance.tracker.stepsDone = s.tracker.stepsDone + (max a.k s.plan.stepCount - a.k + 1)
          ∧ s.advance.reports = s.reportsAfterSteps a (max a.k s.plan.stepCount - a.k + 1)
          ∧ (s.sys.sessionOpen = true → ∀ l < 4, (s.advance.pause l).reasons.has .planComplete = true)) ∧
      (s.totalCargo < s.targetOf a.k → s.advance = s)) ∧
    ((∀ a, s.tracker.tracking ≠ .tracking a) → s.advance = s) ∧
    s.onlyChanges [.tracker, .pacing, .out, .reports] s.advance

/-- MANUAL_PAUSE adds MANUAL to one loader and MANUAL_RESUME removes it: an empty set that fills opens an
episode with its grace mark and confirm timer, one that empties releases the loader, and one that stays
filled keeps state, timer and grace mark; the other loaders are untouched. -/
def Obligations.ManualRequestsMoveOneReason : Prop :=
  (∀ (s : State) (src seq l : Byte), s.inCircuit → s.manager src → s.sys.sessionOpen = true → l.toNat < 4 →
    ∃ t, exec (.manualPause src seq [l]) s = .next t
      ∧ (t.pause l.toNat).reasons = (s.pause l.toNat).reasons.add .manual
      ∧ ((s.pause l.toNat).reasons = 0 →
          (t.pause l.toNat).timer = some (s.now + s.bank.confirmTimeout) ∧
          ∃ ep, (t.pause l.toNat).state = .pauseSent ep
            ∧ ep.grace = (s.knownCumulative l.toNat).map (fun c => c + s.plan.grace) ∧ ep.startTime = s.now
            ∧ ep.union = Reason.manual.single ∧ ep.confirmed = none ∧ ep.overpour = none)
      ∧ ((s.pause l.toNat).reasons ≠ 0 → (t.pause l.toNat).state.code = (s.pause l.toNat).state.code
          ∧ (t.pause l.toNat).grace = (s.pause l.toNat).grace ∧ (t.pause l.toNat).timer = (s.pause l.toNat).timer)
      ∧ (∀ m, m ≠ l.toNat → t.pause m = s.pause m) ∧ s.onlyChanges [.pacing, .out, .tracker] t) ∧
  (∀ (s : State) (src seq l : Byte), s.inCircuit → s.manager src → s.sys.sessionOpen = true → l.toNat < 4 →
    ∃ t, exec (.manualResume src seq [l]) s = .next t
      ∧ (t.pause l.toNat).reasons = (s.pause l.toNat).reasons.remove .manual
      ∧ ((s.pause l.toNat).reasons ≠ 0 → (t.pause l.toNat).reasons = 0 →
          (t.pause l.toNat).state = .free ∧ (t.pause l.toNat).timer = none
            ∧ (s.faults.sound → t.faults.active .pauseUnconfirmed l.toNat = false
                ∧ t.faults.active .overpour l.toNat = false))
      ∧ ((t.pause l.toNat).reasons ≠ 0 → (t.pause l.toNat).state.code = (s.pause l.toNat).state.code
          ∧ (t.pause l.toNat).grace = (s.pause l.toNat).grace ∧ (t.pause l.toNat).timer = (s.pause l.toNat).timer)
      ∧ (∀ m, m ≠ l.toNat → t.pause m = s.pause m)
      ∧ s.onlyChanges [.pacing, .out, .faults, .tracker, .reports] t)

/-- A due confirm timer raises PAUSE_UNCONFIRMED and stops; the loader stays as it is. -/
def Obligations.ConfirmTimerRaisesPauseUnconfirmed : Prop :=
  ∀ (s : State) (l d : Nat), s.ready → s.working = true → (s.pause l).timer = some d → d ≤ s.now →
    ∃ t, exec (.confirmTimerExpiry l) s = .next t ∧ t.pause l = { s.pause l with timer := none }
      ∧ (∀ m, m ≠ l → t.pause m = s.pause m) ∧ (s.faults.sound → t.faults.active .pauseUnconfirmed l = true)
      ∧ s.onlyChanges [.pacing, .faults, .out] t

/-! ### Station table -/

/-- A STATE of a bound station that passes its checks is recorded with presence and its timer; one that
fails is only counted. What the other stations last reported is untouched. -/
def Obligations.StateTelegramIsRecordedOrCounted : Prop :=
  ∀ (s : State) (dst src seq : Byte) (report : StateReport) (i : Nat), s.inService → s.otherNode src → dst ≠ 0 →
    s.bank.stationOf src = some i →
    let r := s.station i
    (∀ x, readState (decide (i < 8)) (statePayload report) = some x →
      ∃ t, exec (.state dst src seq report) s = .next t
        ∧ (t.station i).last = some x ∧ (t.station i).lastTime = some s.now
        ∧ (t.station i).recorded = satSucc r.recorded
        ∧ (r.presence = .outOfService →
            (t.station i).presence = .outOfService ∧ (t.station i).presenceAt = r.presenceAt)
        ∧ (r.presence ≠ .outOfService →
            (t.station i).presence = .present ∧ (t.station i).presenceAt = some (s.now + s.bank.presenceTimeout))
        ∧ (s.faults.sound → r.presence = .silent → t.faults.active .stationSilent i = false)
        ∧ (∀ j, j ≠ i → (t.station j).last = (s.station j).last ∧ (t.station j).presence = (s.station j).presence
            ∧ (t.station j).presenceAt = (s.station j).presenceAt)
        ∧ s.onlyChanges [.screen, .stations, .out, .faults] t) ∧
    (readState (decide (i < 8)) (statePayload report) = none →
      ∃ t, exec (.state dst src seq report) s = .next t ∧ t.station i = { r with rejected := satSucc r.rejected }
        ∧ (∀ j, j ≠ i → t.station j = s.station j)
        ∧ nth t.out.advisories Advisory.badState.index 0 = satSucc (nth s.out.advisories Advisory.badState.index 0)
        ∧ s.onlyChanges [.stations, .out] t)

/-- An ACK with the sequence of its station's outstanding order closes that order with the ACK's outcome and
clears ORDER_TIMEOUT; any other ACK of a station is late and only counted. -/
def Obligations.AckClosesTheMatchingOrder : Prop :=
  ∀ (s : State) (dst src seq st q o reason : Byte) (i : Nat), s.inService → s.otherNode src → dst ≠ 0 →
    s.bank.stationOf src = some i →
    let r := s.station i
    (∀ x, r.outstanding = some x → x.seq = q → s.heldSound →
      ∃ t, exec (.ack dst src seq st q o reason) s = .next t
        ∧ (t.station i).lastClosing = some (if o = 0 then .done else if o = 1 then .refusedLocal else .failed)
        ∧ (s.heldOf i = none → (t.station i).outstanding = none
            ∧ (x.type = .pumpStart → o ≠ 0 → t.holdsSlot i = false))
        ∧ (s.faults.sound → t.faults.active .orderTimeout i = false)
        ∧ s.onlyChanges [.screen, .stations, .out, .faults] t) ∧
    ((∀ x, r.outstanding = some x → x.seq ≠ q) →
      ∃ t, exec (.ack dst src seq st q o reason) s = .next t ∧ t.station i = { r with lateAcks := satSucc r.lateAcks }
        ∧ (∀ j, j ≠ i → t.station j = s.station j)
        ∧ nth t.out.advisories Advisory.lateAck.index 0 = satSucc (nth s.out.advisories Advisory.lateAck.index 0)
        ∧ s.onlyChanges [.stations, .out] t)

/-- A due ACK deadline closes the outstanding order as TIMEOUT and raises ORDER_TIMEOUT; a due presence timer
makes its station SILENT and raises STATION_SILENT. -/
def Obligations.StationTimersTimeOutOrdersAndPresence : Prop :=
  (∀ (s : State) (i : Nat) (x : Outstanding), s.ready → s.working = true → s.heldSound → s.heldOf i = none →
    (s.station i).outstanding = some x → x.deadline ≤ s.now →
    ∃ t, exec (.ackTimeout i) s = .next t ∧ (t.station i).outstanding = none
      ∧ (t.station i).lastClosing = some .timeout ∧ (t.station i).timeouts = satSucc (s.station i).timeouts
      ∧ (x.type = .pumpStart → t.holdsSlot i = false)
      ∧ (s.faults.sound → t.faults.active .orderTimeout i = true)
      ∧ s.onlyChanges [.screen, .stations, .out, .faults] t) ∧
  (∀ (s : State) (i d : Nat), s.ready → s.working = true → (s.station i).presenceAt = some d → d ≤ s.now →
    ∃ t, exec (.presenceTimeout i) s = .next t ∧ (t.station i).presence = .silent ∧ (t.station i).presenceAt = none
      ∧ (t.station i).last = (s.station i).last
      ∧ (∀ j, j ≠ i → (t.station j).presence = (s.station j).presence)
      ∧ (s.faults.sound → t.faults.active .stationSilent i = true)
      ∧ s.onlyChanges [.screen, .stations, .out, .faults] t)

/-! ### Order screen -/

/-- An ORDER of a console for a station has the outcome its judgement gives: refused and counted; held at the
tail of the list, its setpoint clamped, or refused at a full list; or forwarded and outstanding, a start taking
the slot and a stop superseding and freeing it. A held entry of the station is first answered SUPERSEDED and
leaves the list; an order that finds no place in the field queue is answered QUEUE_FULL and lost; one with bad
content, or for all nodes, only counts BAD_ORDER. -/
def Obligations.OrderHasTheOutcomeOfItsJudgement : Prop :=
  (∀ (s : State) (dst src seq ty m v : Byte) (i : Nat), s.inService → s.otherNode src →
      s.bank.role src = .console → dst ≠ 0 → dst ≠ allNodes → dst ≠ s.bank.ownAddress → s.bank.stationOf dst = some i →
      s.heldOf i = none → ∀ o, Machine.State.readOrder i (consoleOrderTelegram dst src seq ty m v) = some o →
      let r := s.station i
      let taken := { order := s.clamped o, station := i, arrival := s.now, deadline := s.now + s.bank.holdTimeout
                     reason := .awaitingAck : Held }
      let sent : Outstanding :=
        { seq := seq, type := o.type, mode := m, setpoint := (s.clamped o).speed, console := some src
          forwarded := s.now, deadline := s.now + s.bank.ackTimeout }
      (∀ why, s.judge i o = .refuse why →
        ∃ t, exec (.order dst src seq ty m v) s = .next t ∧ t.station i = { r with refused := satSucc r.refused }
          ∧ (∀ j, j ≠ i → t.station j = s.station j) ∧ s.onlyChanges [.stations, .out] t) ∧
      (∀ why, s.judge i o = .keep why → s.screen.held.length < 16 →
        ∃ t, exec (.order dst src seq ty m v) s = .next t
          ∧ t.screen = { s.screen with held := s.screen.held ++ [{ taken with reason := why }] }
          ∧ s.onlyChanges [.screen, .out] t) ∧
      (∀ why, s.judge i o = .keep why → 16 ≤ s.screen.held.length →
        ∃ t, exec (.order dst src seq ty m v) s = .next t ∧ t.station i = { r with refused := satSucc r.refused }
          ∧ s.onlyChanges [.stations, .out] t) ∧
      (s.judge i o = .forward → s.out.field.queue.length < 32 → o.type ≠ .pumpStop →
        ∃ t, exec (.order dst src seq ty m v) s = .next t
          ∧ t.station i = { r with outstanding := some sent, forwarded := satSucc r.forwarded }
          ∧ (∀ j, j ≠ i → t.station j = s.station j)
          ∧ (o.type = .pumpStart → t.screen = { s.screen with
              slot := some { pump := i, mode := if m = 0 then .ballast else .deballast, taken := s.now
                             deadline := s.now + s.bank.startLimit i } })
          ∧ (o.type ≠ .pumpStart → t.screen = s.screen)
          ∧ s.onlyChanges [.screen, .stations, .out, .faults] t) ∧
      (s.judge i o = .forward → s.out.field.queue.length < 32 → o.type = .pumpStop →
        ∃ t, exec (.order dst src seq ty m v) s = .next t ∧ (t.station i).outstanding = some sent
          ∧ t.holdsSlot i = false
          ∧ (r.outstanding.isSome → s.heldSound → (t.station i).lastClosing = some .superseded)
          ∧ s.onlyChanges [.screen, .stations, .out, .faults] t)) ∧
  (∀ (s : State) (dst src seq ty m v : Byte) (i : Nat) (old : Held), s.inService → s.otherNode src →
    s.bank.role src = .console → dst ≠ 0 → dst ≠ allNodes → dst ≠ s.bank.ownAddress → s.bank.stationOf dst = some i →
    s.heldSound → s.heldOf i = some old → s.consoleIdle →
    ∀ o, Machine.State.readOrder i (consoleOrderTelegram dst src seq ty m v) = some o →
    ∃ t, exec (.order dst src seq ty m v) s = .next t
      ∧ t.out.console.sending = some (s.ackEntry old.order.console (s.boundAddress i) old.order.seq 18 0)
      ∧ (∀ x, t.heldOf i = some x → x.order = s.clamped o ∧ x.arrival = s.now ∧ x.deadline = s.now + s.bank.holdTimeout)
      ∧ (∀ why, s.judge i o = .refuse why →
          t.heldOf i = none ∧ (t.station i).refused = satSucc (s.station i).refused
            ∧ (t.station i).outstanding = (s.station i).outstanding)
      ∧ (∀ why, s.judge i o = .keep why → s.screen.held = [old] → t.screen.held =
          [{ order := s.clamped o, station := i, arrival := s.now, deadline := s.now + s.bank.holdTimeout
             reason := why }])
      ∧ (s.judge i o = .forward → s.out.field.queue.length < 32 → t.heldOf i = none ∧ (t.station i).outstanding = some
          { seq := seq, type := o.type, mode := m, setpoint := (s.clamped o).speed, console := some src
            forwarded := s.now, deadline := s.now + s.bank.ackTimeout })
      ∧ s.onlyChanges [.screen, .stations, .out, .faults] t) ∧
  (∀ (s : State) (dst src seq ty m v : Byte) (i : Nat), s.inService → s.otherNode src →
    s.bank.role src = .console → dst ≠ 0 → dst ≠ allNodes → dst ≠ s.bank.ownAddress → s.bank.stationOf dst = some i →
    s.heldOf i = none → s.fieldFull →
    ∀ o, Machine.State.readOrder i (consoleOrderTelegram dst src seq ty m v) = some o → s.judge i o = .forward →
    ∃ t, exec (.order dst src seq ty m v) s = .next t
      ∧ t.out.field.queue = s.out.field.queue
      ∧ nth t.out.field.queueDrops (s.bank.classOf 0x41) 0 = satSucc (nth s.out.field.queueDrops (s.bank.classOf 0x41) 0)
      ∧ (s.consoleIdle → s.bank.alertConsole .advisory = false →
          t.out.console.sending = some (s.ackEntry src (s.boundAddress i) seq 21 0))
      ∧ s.onlyChanges [.out] t) ∧
  (∀ (s : State) (dst src seq ty m v : Byte), s.inService → s.otherNode src → s.bank.role src = .console → dst ≠ 0 →
    dst ≠ s.bank.ownAddress →
    (dst = 255 ∨ ∃ i, s.bank.stationOf dst = some i ∧
      (ty = 0 ∨ 5 < ty ∨ i < 8 ∧ 3 < ty ∨ 8 ≤ i ∧ ty < 4 ∨ ty = 1 ∧ 1 < m ∨ (ty = 1 ∨ ty = 3) ∧ 100 < v)) →
    ∃ t, exec (.order dst src seq ty m v) s = .next t
      ∧ nth t.out.advisories Advisory.badOrder.index 0 = satSucc (nth s.out.advisories Advisory.badOrder.index 0)
      ∧ (s.consoleIdle → s.bank.alertConsole .advisory = false → t.out.console.sending = none)
      ∧ s.onlyChanges [.out] t)

/-- A due hold deadline refuses its entry, which leaves the list; a due start limit frees the slot and raises
PUMP_START_FAILED. -/
def Obligations.ScreenDeadlinesRefuseAndFree : Prop :=
  (∀ (s : State) (i : Nat) (h : Held), s.ready → s.working = true → s.heldOf i = some h → h.deadline ≤ s.now → i < 64 →
    ∃ t, exec (.holdDeadline i) s = .next t ∧ t.heldOf i = none
      ∧ (t.station i).refused = satSucc (s.station i).refused ∧ t.screen.held.length < s.screen.held.length
      ∧ s.onlyChanges [.screen, .stations, .out, .faults] t) ∧
  (∀ (s : State) (c : Slot), s.ready → s.working = true → s.screen.slot = some c → c.deadline ≤ s.now →
    s.heldOf c.pump = none →
    ∃ t, exec .startLimitDeadline s = .next t ∧ t.holdsSlot c.pump = false
      ∧ (s.faults.sound → t.faults.active .pumpStartFailed c.pump = true)
      ∧ (t.station c.pump).outstanding = (s.station c.pump).outstanding
      ∧ s.onlyChanges [.screen, .stations, .out, .faults] t)

/-- A due dry-run timer offers the part's PUMP_STOP, and DRY_RUN_TRIP enters a sound fault table with a place. With
room in the field queue the stop becomes the pump's outstanding order; the timer stops, the line is tripped,
and the pump's held entry and slot are gone. Where the offer fails, the timer runs again and nothing else of
the screen or the stations changes. -/
def Obligations.DryRunTripStopsThePump : Prop :=
  ∀ (s : State) (l d : Nat), s.ready → s.working = true → nth s.screen.dryAt l none = some d → d ≤ s.now →
    (s.out.field.queue.length < 32 →
      ∃ t, exec (.dryRunTrip l) s = .next t
        ∧ (t.station l).outstanding = some
            { seq := s.out.field.seq, type := .pumpStop, mode := 0, setpoint := 0, console := none, forwarded := s.now
              deadline := s.now + s.bank.ackTimeout }
        ∧ nth t.screen.dryAt l none = none ∧ nth t.screen.tripped l false = true ∧ t.holdsSlot l = false
        ∧ t.heldOf l = none
        ∧ (s.faults.sound → s.faults.entries.length < 32 → (t.faults.entry .dryRunTrip l).isSome = true)
        ∧ s.onlyChanges [.screen, .stations, .out, .faults] t) ∧
    (s.fieldFull →
      ∃ t, exec (.dryRunTrip l) s = .next t
        ∧ t.screen = { s.screen with dryAt := upd s.screen.dryAt l fun _ => some (s.now + s.bank.dryRunDelay l) }
        ∧ t.out.field.queue = s.out.field.queue
        ∧ nth t.out.field.queueDrops (s.bank.classOf 0x41) 0
            = satSucc (nth s.out.field.queueDrops (s.bank.classOf 0x41) 0)
        ∧ (s.faults.sound → s.faults.entries.length < 32 → (t.faults.entry .dryRunTrip l).isSome = true)
        ∧ s.onlyChanges [.screen, .out, .faults] t)

/-! ### Reports, scrub, alarm -/

/-- A due condition timer makes a CONDITION record from a VALID published record, else counts
REPORT_SKIPPED, and restarts with the session interval. -/
def Obligations.ConditionTimerMakesARecord : Prop :=
  ∀ (s : State) (d : Nat), s.ready → s.working = true → s.reports.conditionAt = some d → d ≤ s.now →
    ∃ t, exec .conditionTimerExpiry s = .next t
      ∧ (∀ h f, s.engine.published = .valid h f → t.reports.records.getLast? = some
          { number := s.reports.next, kind := .condition, time := s.stamp, isPartial := false, gaugeLost := false
            body := [f.tm, f.trim, f.fwd, f.aft, f.disp, f.cargo, f.ballast, f.peak.value, (f.peak.station : Int),
              (f.peak.quantity.code : Int)].map bodyQuantity ++ [bodyOpt f.lag] })
      ∧ ((∀ h f, s.engine.published ≠ .valid h f) → t.reports.records = s.reports.records
          ∧ nth t.out.advisories Advisory.reportSkipped.index 0
              = satSucc (nth s.out.advisories Advisory.reportSkipped.index 0))
      ∧ t.reports.conditionAt = (if 1 ≤ s.reports.interval ∧ s.reports.interval ≤ 60 then
          some (s.now + 60 * s.reports.interval) else none)
      ∧ s.onlyChanges [.out, .reports] t

/-- A due scrub check: a match only moves the rotation on; a mismatch in an evaluation-group table raises
TABLE_FAULT, marks an evaluation in flight damaged and takes the part into SAFE; a mismatch elsewhere is a
table-fault BYPASS. -/
def Obligations.ScrubChecksTheNextTable : Prop :=
  ∀ (s : State) (d : Nat), s.ready → s.working = true → s.mgmt.scrubAt = some d → d ≤ s.now →
    let c := s.mgmt.scrubPos
    ((s.bank.get c).intact c = true →
      ∃ t, exec .scrubCheck s = .next t ∧ t.mgmt.scrubPos = c.next ∧ t.mgmt.scrubAt = some (s.now + 1)
        ∧ s.onlyChanges [.scrub] t) ∧
    ((s.bank.get c).intact c = false → c.inEvaluationGroup = true → s.faults.sound →
      ∃ t, exec .scrubCheck s = .next t ∧ t.mgmt.scrubPos = c.next ∧ t.faults.active .tableFault c.code = true
        ∧ (s.faults.active .tableFault c.code = false →
            t.engine.damaged = (s.engine.damaged || s.engine.inFlight) ∧ t.sys.mode = .safe
              ∧ (s.sys.mode ≠ .safe → ∀ l < 4, (t.pause l).reasons = (s.pause l).reasons.add .safe))
        ∧ s.onlyChanges [.scrub, .engine, .faults, .out, .mode, .pacing, .tracker, .reports, .shore, .screen,
            .stations] t) ∧
    ((s.bank.get c).intact c = false → c.inEvaluationGroup = false →
      ∃ t, exec .scrubCheck s = .next t ∧ t.atReset .tableReload ∧ t.sys.latch = true ∧ t.sys.reload = some 1
        ∧ t.sys.settle = none ∧ t.faults.alarm = .steady ∧ t.mgmt.store = s.mgmt.store)

/-- A due toggle of a PULSING alarm line turns its output over for one second. -/
def Obligations.AlarmTogglesWhilePulsing : Prop :=
  ∀ s : State, s.ready → s.faults.alarm = .pulsing → s.faults.pulseAt ≤ s.now →
    ∃ t, exec .alarmPulseToggle s = .next t ∧ t.alarmOutput = !s.alarmOutput
      ∧ t.faults = { s.faults with pulseOn := !s.faults.pulseOn, pulseAt := s.now + 1 } ∧ s.onlyChanges [.faults] t

/-! ### Management -/

/-- An accepted STORE clears the mark and takes the active ship group with no answer yet; at the end of the
writing an image whose check words hold is stored with its mark, and any other leaves the mark clear and
raises STORE_FAILED. -/
def Obligations.StoreWritesTheActiveShip : Prop :=
  (∀ (s : State) (src seq : Byte), s.inService → s.manager src → s.mgmt.writing = none →
    s.mgmt.ship.isSealed = false → s.faultedTable = none →
    ∃ t, exec (.store src seq []) s = .next t ∧ t.mgmt.store = { s.mgmt.store with mark := false }
      ∧ t.mgmt.storeState = .writing
      ∧ t.mgmt.writing = some { src := src, seq := seq, bank := s.bank, gen := s.mgmt.ship.gen, deadline := s.now + 4 }
      ∧ t.out = (s.countAccepted .console).out ∧ s.onlyChanges [.store, .out] t) ∧
  (∀ (s : State) (j : StoreJob), s.ready → s.mgmt.writing = some j →
    ∃ t, exec .storeWritingEnd s = .next t ∧ t.mgmt.writing = none ∧ t.mgmt.store.bank = j.bank
      ∧ (j.bank.firstDamaged = none → t.mgmt.store.mark = true ∧ t.mgmt.storeState = .valid
          ∧ t.mgmt.unstored = false ∧ (s.faults.sound → t.faults.active .storeFailed subjectNone = false))
      ∧ (j.bank.firstDamaged ≠ none → t.mgmt.store.mark = false ∧ t.mgmt.storeState = .invalid
          ∧ t.mgmt.unstored = s.mgmt.unstored ∧ (s.faults.sound → t.faults.active .storeFailed subjectNone = true))
      ∧ s.onlyChanges [.store, .out, .faults] t)

/-- A request with an unknown code, with a payload of the wrong length, or with an enumeration value that its
argument does not have, is answered REFUSED BAD_REQUEST and does nothing else. The codes of the arguments, and
with them the undefined values, are the model's choice (log 15); so is a report flag above 1 (log 43). -/
def Obligations.MalformedRequestsAreRefused : Prop :=
  ∀ (s : State) (src seq : Byte) (args : List Byte), s.inCircuit → s.manager src → args.length ≤ 55 →
    let refused := fun code : Byte =>
      (Host.Outcome.next ((s.countAccepted .console).sendReply src seq code 1 1 []) : Host.Outcome State Fault Refusal)
    (∀ code, knownRequestCode code = false → exec (.mgmtUnknownCode src seq code args) s = refused code) ∧
    (args.length ≠ 4 → exec (.setTime src seq args) s = refused 2) ∧
    (args.length < 4 → exec (.writeTable src seq args) s = refused 3) ∧
    (args.length ≠ 5 → exec (.readTable src seq args) s = refused 4) ∧
    (args.length ≠ 1 → exec (.commit src seq args) s = refused 5) ∧
    (args ≠ [] → exec (.store src seq args) s = refused 6 ∧ exec (.reload src seq args) s = refused 7
      ∧ exec (.reset src seq args) s = refused 8 ∧ exec (.requestEvaluation src seq args) s = refused 9
      ∧ exec (.closeSession src seq args) s = refused 24 ∧ exec (.clearSafe src seq args) s = refused 25) ∧
    (args.length ≠ 1 → exec (.readTank src seq args) s = refused 16 ∧ exec (.readStation src seq args) s = refused 17
      ∧ exec (.manualPause src seq args) s = refused 21 ∧ exec (.manualResume src seq args) s = refused 22) ∧
    (args.length ≠ 2 → exec (.setStationService src seq args) s = refused 18
      ∧ exec (.openSession src seq args) s = refused 23 ∧ exec (.readFaults src seq args) s = refused 27) ∧
    (args.length ≠ 5 → exec (.setFixedWeight src seq args) s = refused 20) ∧
    (args.length ≠ 3 → exec (.readReport src seq args) s = refused 28) ∧
    (args.length ≠ 1 → args.length ≠ 2 → exec (.readStatus src seq args) s = refused 1) ∧
    (args.length ≠ 2 → args.length ≠ 3 → exec (.readCondition src seq args) s = refused 19) ∧
    (args.length ≠ 1 → args.length ≠ 3 → exec (.ackFault src seq args) s = refused 26) ∧
    (∀ a b c d e : Byte,
      (a ≠ 0 → exec (.readStatus src seq [a]) s = refused 1) ∧
      (a ≠ 1 ∨ 2 < b → exec (.readStatus src seq [a, b]) s = refused 1) ∧
      (1 < b → exec (.readTable src seq [a, b, c, d, e]) s = refused 4) ∧
      (1 < a → exec (.commit src seq [a]) s = refused 5) ∧
      (1 < b → exec (.setStationService src seq [a, b]) s = refused 18) ∧
      (a ≠ 0 ∨ 1 < b → exec (.readCondition src seq [a, b]) s = refused 19) ∧
      (a ≠ 1 ∨ 1 < c → exec (.readCondition src seq [a, b, c]) s = refused 19) ∧
      (a ≠ 1 → exec (.ackFault src seq [a]) s = refused 26) ∧
      (a ≠ 0 ∨ FaultKind.ofCode b.toNat = none → exec (.ackFault src seq [a, b, c]) s = refused 26) ∧
      (1 < a → exec (.readFaults src seq [a, b]) s = refused 27))

/-- Each reading request is answered ACCEPTED with the record it reads and changes nothing else; a reply of
one segment at an idle console port goes out at once to the requester with the request's sequence. The part,
port and bank bytes of the arguments are the model's choice (log 15). -/
def Obligations.ReadRequestsAnswerAndChangeNothing : Prop :=
  (∀ (s : State) (src seq code : Byte) (status reason : Nat) (results : List Byte), s.consoleIdle →
    results.length ≤ 51 → (s.sendReply src seq code status reason results).out.console.sending
      = some { tel := s.reply src seq code status reason results, cls := s.bank.classOf kindMreply, resetReply := false }) ∧
  (∀ (s : State) (src seq : Byte), s.inCircuit → s.manager src →
    let s' := s.countAccepted .console
    let answered := fun (code : Byte) (results : List Byte) =>
      (Host.Outcome.next (s'.sendReply src seq code 0 0 results) : Host.Outcome State Fault Refusal)
    exec (.readStatus src seq [0]) s = answered 1 s'.statusGeneral ∧
    exec (.readStatus src seq [1, 0]) s = answered 1 (Machine.State.statusCounters s'.out.console) ∧
    exec (.readStatus src seq [1, 1]) s = answered 1 (Machine.State.statusCounters s.out.field) ∧
    exec (.readStatus src seq [1, 2]) s = answered 1 (Machine.State.statusCounters s.out.shore) ∧
    (∀ (code bank hi lo n : Byte) (c : TableCode), TableCode.ofCode code.toNat = some c → bank.toNat ≤ 1 →
      1 ≤ n.toNat → n.toNat ≤ 48 → hi.toNat * 256 + lo.toNat + n.toNat ≤ c.size →
      exec (.readTable src seq [code, bank, hi, lo, n]) s = answered 4
        ((if bank = 0 then s.activeTable c else s.stagingTable c).mem.readBytes (hi.toNat * 256 + lo.toNat) n.toNat
          ++ s.groupResults c ++ enc2 (if bank = 0 then (s.activeTable c).check else
            checkWordOf c (s.stagingTable c).mem).toNat)) ∧
    (∀ k : Byte, s.working = true → s.bank.tankFitted k.toNat = true →
      exec (.readTank src seq [k]) s = answered 16 (s.tankResults k.toNat)) ∧
    (∀ i : Byte, s.working = true → s.stationBound i.toNat = true →
      exec (.readStation src seq [i]) s = answered 17 (s.stationResults i.toNat)) ∧
    (∀ n : Byte, n.toNat < s.faults.entries.length → ∃ results,
      exec (.readFaults src seq [0, n]) s = answered 27 results
        ∧ results.take 1 = enc1 s.faults.entries.length ∧ results.drop 7
          = s.entriesResults ((s.faults.entries.drop n.toNat).take 3)) ∧
    (s.faults.entries = [] → exec (.readFaults src seq [0, 0]) s = answered 27
      (enc1 0 ++ encFlag s.faults.overflow ++ encS4 (s.faults.marks.countP fun m => m.waiting)
        ++ enc1 s.faults.alarm.code)) ∧
    (∀ n : Byte, n ≤ 12 → exec (.readFaults src seq [1, n]) s = answered 27
      ((List.range (13 - n.toNat)).flatMap fun k => enc2 (nth s'.out.advisories (n.toNat + k) 0))) ∧
    (∀ (hi lo k : Byte) (r : ReportRec), s.working = true →
      s.reports.records.find? (fun x => x.number = hi.toNat * 256 + lo.toNat) = some r →
      hi.toNat * 256 + lo.toNat ≠ 0 → 1 ≤ k.toNat → k.toNat ≤ 15 → k.toNat ≤ r.segments →
      exec (.readReport src seq [hi, lo, k]) s = answered 28 (r.segment k.toNat)))

/-- SET_TIME sets the offset so that the clock seconds are its argument now, and the time-set flag, and is answered
on the new clock with the old and the new offset; SET_FIXED_WEIGHT sets one fixed weight and requests no evaluation. -/
def Obligations.SettingsTakeTheirValue : Prop :=
  (∀ (s : State) (src seq a b c d : Byte), s.inCircuit → s.manager src →
    ∃ t, exec (.setTime src seq [a, b, c, d]) s = .next t ∧ t.clock.timeSet = true
      ∧ t.clock.seconds = s.clock.seconds
      ∧ t.clockSeconds t.now = ((a.toNat * 256 + b.toNat) * 256 + c.toNat) * 256 + d.toNat
      ∧ t.out = ((({ s with clock := t.clock } : State).countAccepted .console).sendReply src seq 2 0 0
          (enc4 s.clock.offset ++ enc4 t.clock.offset)).out
      ∧ s.onlyChanges [.clock, .out] t) ∧
  (∀ (s : State) (src seq w a b c d : Byte), s.inService → s.manager src → w.toNat ≤ 5 →
    let m := ((a.toNat * 256 + b.toNat) * 256 + c.toNat) * 256 + d.toNat
    m ≤ 1000000 →
    ∃ t, exec (.setFixedWeight src seq [w, a, b, c, d]) s = .next t
      ∧ nth t.engine.weights w.toNat 0 = (m : Int)
      ∧ (∀ k, k ≠ w.toNat → nth t.engine.weights k 0 = nth s.engine.weights k 0)
      ∧ t.engine = { s.engine with weights := t.engine.weights }
      ∧ t.itemMass (42 + w.toNat) = (m : Int)
      ∧ ((s.sys.mode = .loading ∨ s.sys.mode = .safe ∧ s.sys.sessionOpen = true) →
          10000 ≤ absInt ((m : Int) - nth s.engine.weights w.toNat 0) →
          nth t.out.advisories Advisory.fixedWeightStep.index 0
            = satSucc (nth s.out.advisories Advisory.fixedWeightStep.index 0))
      ∧ s.onlyChanges [.engine, .out] t)

/-- WRITE_TABLE writes its bytes at their offsets of the staging copy of one table and sets the pending flag:
every other offset, table and bank is untouched. -/
def Obligations.WriteTableChangesItsBytesAlone : Prop :=
  ∀ (s : State) (src seq code hi lo : Byte) (data : List Byte) (c : TableCode), s.inCircuit → s.manager src →
    TableCode.ofCode code.toNat = some c → 1 ≤ data.length → data.length ≤ 52 →
    hi.toNat * 256 + lo.toNat + data.length ≤ c.size → s.sealedFor c = false → (s.stagingTable c).mem.wf = true →
    let x := hi.toNat * 256 + lo.toNat
    ∃ t, exec (.writeTable src seq (code :: hi :: lo :: data)) s = .next t
      ∧ (∀ k b, data[k]? = some b → (t.stagingTable c).mem.read (x + k) = b)
      ∧ (∀ y, y < x ∨ x + data.length ≤ y → (t.stagingTable c).mem.read y = (s.stagingTable c).mem.read y)
      ∧ (∀ c', c' ≠ c → t.stagingTable c' = s.stagingTable c') ∧ (∀ c', t.activeTable c' = s.activeTable c')
      ∧ (t.stagingTable c).mem.wf = true
      ∧ (c.isPlan = true → t.mgmt.plan.isPending = true ∧ s.onlyChanges [.plan, .out] t)
      ∧ (c.isPlan = false → t.mgmt.ship.isPending = true ∧ s.onlyChanges [.ship, .out] t)

/-- An accepted COMMIT seals a staging bank that passes its validation: while an evaluation is in flight it
waits sealed and one more evaluation is pending; with the engine idle a plan switches at once; a ship
group committed with the engine idle switches too, and the blocks react to it; in UNCONFIGURED it switches and
the part enters STANDBY. A bank of either group that fails is refused TABLE_INVALID with the table and entry; a COMMIT
at the wrong mode is refused WRONG_MODE, one of a sealed bank or of the ship group during a STORE BUSY, and a refused
COMMIT leaves everything as it is. The group bytes, 0 SHIP and 1 PLAN, are the model's choice (log 15). -/
def Obligations.CommitSealsAValidBank : Prop :=
  (∀ (s : State) (src seq : Byte), s.inService → s.manager src → s.mgmt.plan.isSealed = false →
    s.mgmt.plan.staging.validate s.bank = none →
    (s.engine.inFlight = true →
      ∃ t, exec (.commit src seq [1]) s = .next t
        ∧ t.mgmt.plan = { s.mgmt.plan with
            staging := s.mgmt.plan.staging.withChecks, isSealed := true, isPending := false }
        ∧ t.engine = { s.engine with pending := true } ∧ s.onlyChanges [.plan, .engine, .out] t) ∧
    (s.engine.inFlight = false →
      ∃ t, exec (.commit src seq [1]) s = .next t
        ∧ t.mgmt.plan =
            { active := s.mgmt.plan.staging.withChecks, staging := s.mgmt.plan.staging.withChecks
              gen := succWrap16 s.mgmt.plan.gen, isSealed := false, isPending := false }
        ∧ t.engine.inFlight = true)) ∧
  (∀ (s : State) (src seq : Byte), s.inCircuit → s.manager src → s.sys.mode = .standby → s.engine.inFlight = true →
    s.mgmt.writing = none → s.mgmt.ship.isSealed = false → s.mgmt.ship.staging.validate = none →
    ∃ t, exec (.commit src seq [0]) s = .next t
      ∧ t.mgmt.ship = { s.mgmt.ship with
          staging := s.mgmt.ship.staging.withChecks, isSealed := true, isPending := false }
      ∧ t.engine = { s.engine with pending := true } ∧ s.onlyChanges [.ship, .engine, .out] t) ∧
  (∀ (s : State) (src seq : Byte), s.inService → s.manager src → s.sessionMode = false → s.engine.inFlight = false →
    s.mgmt.writing = none → s.mgmt.ship.isSealed = false → s.mgmt.ship.staging.validate = none →
    ∃ t, exec (.commit src seq [0]) s = .next t ∧ t.sys.mode = s.sys.mode
      ∧ t.mgmt.ship =
          { active := s.mgmt.ship.staging.withChecks, staging := s.mgmt.ship.staging.withChecks
            gen := succWrap16 s.mgmt.ship.gen, isSealed := false, isPending := false }
      ∧ t.mgmt.unstored = true ∧ t.engine.inFlight = true ∧ s.reactsToShip t) ∧
  (∀ (s : State) (src seq : Byte), s.inCircuit → s.manager src → s.sys.mode = .unconfigured →
    s.mgmt.writing = none → s.mgmt.ship.isSealed = false → s.mgmt.ship.staging.validate = none →
    ∃ t, exec (.commit src seq [0]) s = .next t ∧ t.sys.mode = .standby
      ∧ t.mgmt.ship =
          { active := s.mgmt.ship.staging.withChecks, staging := s.mgmt.ship.staging.withChecks
            gen := succWrap16 s.mgmt.ship.gen, isSealed := false, isPending := false }
      ∧ t.mgmt.unstored = true ∧ t.engine.inFlight = s.engine.inFlight
      ∧ t.engine.intervalAt = some (s.now + t.bank.evaluationInterval)) ∧
  (∀ (s : State) (src seq : Byte) (f : Failure), s.inService → s.manager src → s.mgmt.plan.isSealed = false →
    s.mgmt.plan.staging.validate s.bank = some f →
    exec (.commit src seq [1]) s = .next ((s.countAccepted .console).sendReply src seq 5 1 4
      (failureResults f.table.code f.entry))) ∧
  (∀ (s : State) (src seq : Byte) (f : Failure), s.inCircuit → s.manager src → s.sessionMode = false →
    s.mgmt.writing = none → s.mgmt.ship.isSealed = false → s.mgmt.ship.staging.validate = some f →
    exec (.commit src seq [0]) s = .next ((s.countAccepted .console).sendReply src seq 5 1 4
      (failureResults f.table.code f.entry))) ∧
  (∀ (s : State) (src seq : Byte), s.inCircuit → s.manager src →
    let refused := fun reason : Nat => Host.Outcome.next ((s.countAccepted .console).sendReply src seq 5 1 reason [])
    (s.sessionMode = true → exec (.commit src seq [0]) s = refused 2) ∧
    (s.sessionMode = false → (s.mgmt.writing ≠ none ∨ s.mgmt.ship.isSealed = true) →
      exec (.commit src seq [0]) s = refused 3) ∧
    (s.sys.mode = .unconfigured → exec (.commit src seq [1]) s = refused 2) ∧
    (s.sys.mode ≠ .unconfigured → s.mgmt.plan.isSealed = true → exec (.commit src seq [1]) s = refused 3))

/-- RELOAD of a valid image outside a session takes it into both ship banks with the blocks' reactions, counts a
generation, clears seal, pending and unstored flags, shows the store VALID, has a running evaluation abandoned,
and leaves UNCONFIGURED; an image without its mark is refused TABLE_INVALID with code 0, one with its mark but a check
word that fails TABLE_INVALID with the code of the first table that fails, a RELOAD during a session WRONG_MODE and one
during a STORE BUSY, and a refused RELOAD leaves everything as it is. -/
def Obligations.ReloadTakesTheStoredImage : Prop :=
  (∀ (s : State) (src seq : Byte), s.inCircuit → s.manager src → s.sessionMode = false → s.mgmt.writing = none →
    s.storeValid = true →
    ∃ t, exec (.reload src seq []) s = .next t
      ∧ t.mgmt.ship =
          { active := s.mgmt.store.bank, staging := s.mgmt.store.bank, gen := succWrap16 s.mgmt.ship.gen
            isSealed := false, isPending := false }
      ∧ t.mgmt.unstored = false ∧ t.mgmt.store = s.mgmt.store ∧ t.mgmt.storeState = .valid
      ∧ (s.sys.mode ≠ .unconfigured → s.reactsToShip t)
      ∧ t.sys.mode = (if s.sys.mode = .unconfigured then .standby else s.sys.mode)
      ∧ t.engine.inFlight = true
      ∧ (s.engine.inFlight = true → s.sys.mode ≠ .unconfigured →
          t.engine.abandon = true ∧ t.engine.snapshot = s.engine.snapshot)) ∧
  (∀ (s : State) (src seq : Byte), s.inCircuit → s.manager src → s.sessionMode = false → s.mgmt.writing = none →
    s.mgmt.store.mark = false →
    exec (.reload src seq []) s = .next ((s.countAccepted .console).sendReply src seq 7 1 4 (failureResults 0 0))) ∧
  (∀ (s : State) (src seq : Byte) (c : TableCode), s.inCircuit → s.manager src → s.sessionMode = false →
    s.mgmt.writing = none → s.mgmt.store.mark = true → c ∈ TableCode.shipTables →
    (s.mgmt.store.bank.get c).intact c = false →
    (∀ b ∈ TableCode.shipTables, b.code < c.code → (s.mgmt.store.bank.get b).intact b = true) →
    exec (.reload src seq []) s
      = .next ((s.countAccepted .console).sendReply src seq 7 1 4 (failureResults c.code 0))) ∧
  (∀ (s : State) (src seq : Byte), s.inCircuit → s.manager src →
    let refused := fun reason : Nat => Host.Outcome.next ((s.countAccepted .console).sendReply src seq 7 1 reason [])
    (s.sessionMode = true → exec (.reload src seq []) s = refused 2) ∧
    (s.sessionMode = false → s.mgmt.writing ≠ none → exec (.reload src seq []) s = refused 3))

/-- RESET is answered ACCEPTED and waits for its MREPLY: at an idle console port the MREPLY goes out, and the
reset is due when its transmission ends. Nothing else changes before. -/
def Obligations.ResetWaitsForItsReply : Prop :=
  ∀ (s : State) (src seq : Byte), s.inCircuit → s.manager src → s.out.resetWait = .idle → s.consoleIdle →
    ∃ t, exec (.reset src seq []) s = .next t ∧ t.out.resetWait = .waiting
      ∧ t.out.console.sending = some
          { tel := s.reply src seq 8 0 0 [], cls := s.bank.classOf kindMreply, resetReply := true }
      ∧ s.onlyChanges [.out] t
      ∧ ∃ u, exec (.transmissionEnd .console) t = .next u ∧ u.out.resetWait = .due
          ∧ ∃ v, exec .commandedReset u = .next v ∧ s.restarted v .commanded 1

/-- R199: REQUEST_EVALUATION is refused WRONG_MODE in UNCONFIGURED; in a working mode it requests an evaluation
and answers whether one began or the pending flag was set, with the number of the published record. -/
def Obligations.RequestEvaluationSaysWhatItDid : Prop :=
  (∀ (s : State) (src seq : Byte), s.inCircuit → s.manager src → s.sys.mode = .unconfigured →
    exec (.requestEvaluation src seq []) s
      = .next ((s.countAccepted .console).sendReply src seq 9 1 Reason4.wrongMode.code [])) ∧
  (∀ (s : State) (src seq : Byte), s.inService → s.manager src →
    let u := (s.countAccepted .console).requestEvaluation
    exec (.requestEvaluation src seq []) s = .next
      (u.sendReply src seq 9 0 0 (encFlag s.engine.inFlight ++ enc4 s.engine.number)) ∧
    u.engine.inFlight = true ∧ u.engine.number = s.engine.number ∧
    (s.engine.inFlight = true → u.engine = { s.engine with pending := true }) ∧
    (s.engine.inFlight = false → ∃ n, u.engine.snapshot = some n ∧ u.engine.pending = s.engine.pending))

/-- SET_STATION_SERVICE puts a bound station OUT_OF_SERVICE with its timer stopped, or brings an
OUT_OF_SERVICE one back to UNKNOWN with the timer started; every other station's presence is untouched. The
direction bytes, 0 IN and 1 OUT, are the model's choice (log 15). -/
def Obligations.ServiceRequestSetsThePresence : Prop :=
  ∀ (s : State) (src seq i : Byte), s.inService → s.manager src → s.stationBound i.toNat = true →
    (∃ t, exec (.setStationService src seq [i, 1]) s = .next t ∧ (t.station i.toNat).presence = .outOfService
      ∧ ((s.station i.toNat).presence ≠ .outOfService → (t.station i.toNat).presenceAt = none)
      ∧ (s.faults.sound → (s.station i.toNat).presence = .silent → t.faults.active .stationSilent i.toNat = false)
      ∧ (∀ j, j ≠ i.toNat → (t.station j).presence = (s.station j).presence)
      ∧ s.onlyChanges [.screen, .stations, .out, .faults] t) ∧
    (∃ t, exec (.setStationService src seq [i, 0]) s = .next t
      ∧ ((s.station i.toNat).presence = .outOfService → (t.station i.toNat).presence = .unknown
          ∧ (t.station i.toNat).presenceAt = some (s.now + s.bank.presenceTimeout))
      ∧ ((s.station i.toNat).presence ≠ .outOfService → t.stations = s.stations ∧ s.onlyChanges [.out] t)
      ∧ (∀ j, j ≠ i.toNat → (t.station j).presence = (s.station j).presence)
      ∧ s.onlyChanges [.screen, .stations, .out, .faults] t)

/-- READ_CONDITION answers the published record's summary or a station's figures and changes nothing; with report
set and a VALID record it also makes a CONDITION record. The part bytes, 0 SUMMARY and 1 STATION, are the
model's choice (log 15). -/
def Obligations.ReadConditionReportsOnRequest : Prop :=
  ∀ (s : State) (src seq : Byte), s.inService → s.manager src →
    (∃ part, s.conditionPart none = some part
      ∧ exec (.readCondition src seq [0, 0]) s
        = .next ((s.countAccepted .console).sendReply src seq 19 0 0 (s.conditionHead ++ part))) ∧
    (∀ st : Byte, st.toNat < s.bank.stationCount → ∀ part, s.conditionPart (some st.toNat) = some part →
      exec (.readCondition src seq [1, st, 0]) s
        = .next ((s.countAccepted .console).sendReply src seq 19 0 0 (s.conditionHead ++ part))) ∧
    (∀ h f, s.engine.published = .valid h f →
      ∃ t, exec (.readCondition src seq [0, 1]) s = .next t
        ∧ (∃ r, t.reports.records.getLast? = some r ∧ r.kind = .condition ∧ r.number = s.reports.next)
        ∧ t.reports.conditionAt = s.reports.conditionAt ∧ s.onlyChanges [.out, .reports] t)

/-- An accepted OPEN_SESSION: session and number, LOADING, a new pour account from the plan's initial cargo,
step 1 tracked, AWAITING_CONDITION on every loader, a SESSION_OPEN record, shore silence watched and an
evaluation requested. -/
def Obligations.OpenSessionStartsTheAccount : Prop :=
  ∀ (s : State) (src seq hi lo : Byte), s.inCircuit → s.manager src → s.sys.mode = .standby →
    hi.toNat * 256 + lo.toNat ≠ 0 → s.criticalActive = false → s.plan.stepCount ≠ 0 → s.mgmt.ship.isSealed = false →
    ∃ t, exec (.openSession src seq [hi, lo]) s = .next t ∧ t.sys.mode = .loading ∧ t.sys.sessionOpen = true
      ∧ t.sys.sessionNumber = some (hi.toNat * 256 + lo.toNat)
      ∧ (∀ l < 4, t.loader l = LoaderRec.reset) ∧ t.shore.unattributed = 0
      ∧ (∀ h < 10, t.hold h = (if s.bank.holdFitted h then
          { opening := s.plan.initialCargo h, attributed := 0, mass := s.plan.initialCargo h } else HoldRec.reset))
      ∧ (∀ l < 4, (t.pause l).reasons.has .awaitingCondition = true) ∧ t.shore.silence ≠ .disarmed
      ∧ t.engine.inFlight = true
      ∧ (∃ r, t.reports.records.getLast? = some r ∧ r.kind = .sessionOpen ∧ r.number = s.reports.next)
      ∧ (s.mgmt.plan.isSealed = false → t.reports.mask = s.plan.reportMask ∧
          ∃ a, t.tracker.tracking = .tracking a ∧ a.k = 1 ∧ a.cStart = t.totalCargo ∧ a.bStart = s.totalBallast)
      ∧ s.onlyChanges [.mode, .session, .out, .faults, .plan, .tanks, .shore, .engine, .tracker, .pacing, .stations,
          .screen, .reports] t

/-- An accepted CLOSE_SESSION: operations closed, reasons other than SAFE gone, a SESSION_CLOSE record, the
loader records reset and the holds kept, shore silence disarmed, the plan tracker and plan banks emptied,
the session flag clear, LOADING left for STANDBY and SAFE kept. -/
def Obligations.CloseSessionEndsTheAccount : Prop :=
  ∀ (s : State) (src seq : Byte), s.inCircuit → s.manager src → s.sessionMode = true → s.sys.sessionOpen = true →
    ∃ t, exec (.closeSession src seq []) s = .next t ∧ t.sys.sessionOpen = false
      ∧ t.sys.sessionNumber = s.sys.sessionNumber
      ∧ t.sys.mode = (if s.sys.mode = .loading then .standby else .safe)
      ∧ (∀ i < 32, ∃ a, (t.tank i).motion = .still a) ∧ (∀ i, (t.tank i).mass = (s.tank i).mass)
      ∧ (∀ l < 4, t.loader l = LoaderRec.reset) ∧ (∀ h, t.hold h = s.hold h) ∧ t.shore.unattributed = 0
      ∧ t.shore.silence = .disarmed ∧ t.tracker = Tracker.reset
      ∧ t.mgmt.plan = { Group.resetPlan with gen := s.mgmt.plan.gen }
      ∧ (∃ r, t.reports.records.getLast? = some r ∧ r.kind = .sessionClose)
      ∧ t.reports.mask = 0 ∧ t.reports.conditionAt = none
      ∧ (s.pausesSound → ∀ l < 4,
          (s.sys.mode = .loading → (t.pause l).reasons = 0 ∧ (t.pause l).state = .free)
          ∧ (s.sys.mode = .safe → (t.pause l).reasons = Reason.safe.single ∧ (t.pause l).grace = none))
      ∧ s.onlyChanges [.mode, .session, .out, .faults, .plan, .tanks, .shore, .engine, .tracker, .pacing, .stations,
          .screen, .reports] t

/-- CLEAR_SAFE with no CRITICAL mark set leaves SAFE for LOADING in a session, else STANDBY, and removes SAFE
from every loader; with a CRITICAL mark set it is refused. -/
def Obligations.ClearSafeNeedsNoCriticalMark : Prop :=
  (∀ (s : State) (src seq : Byte), s.inCircuit → s.manager src → s.sys.mode = .safe → s.criticalActive = false →
    ∃ t, exec (.clearSafe src seq []) s = .next t
      ∧ t.sys.mode = (if s.sys.sessionOpen then .loading else .standby)
      ∧ (∀ l < 4, (t.pause l).reasons = (s.pause l).reasons.remove .safe
          ∧ ((s.pause l).reasons ≠ 0 → (t.pause l).reasons = 0 → (t.pause l).state = .free))
      ∧ s.onlyChanges [.mode, .pacing, .out, .faults, .tracker, .reports, .shore, .screen, .stations] t) ∧
  (∀ (s : State) (src seq : Byte), s.inCircuit → s.manager src → (s.sys.mode ≠ .safe ∨ s.criticalActive = true) →
    exec (.clearSafe src seq []) s
      = .next ((s.countAccepted .console).sendReply src seq 25 1 Reason4.wrongMode.code []))

/-- ACK_FAULT for one entry acknowledges an ACTIVE_UNACK entry in place, removes a CLEARED_UNACK one, and
leaves every active mark as it is; for all it does so with every entry, and an entry it leaves unacknowledged has just
taken a freed place for a mark that waited; with no entry for the kind and subject ONE is refused NOT_FOUND. The scope
bytes, 0 ONE and 1 ALL, are the model's choice (log 15), and so is what ALL does with the entries that take a freed
place (log 21). -/
def Obligations.AcknowledgementClearsNoMark : Prop :=
  ∀ (s : State) (src seq : Byte), s.inCircuit → s.manager src → s.faults.sound →
    (∀ (k x : Byte) (kind : FaultKind) (e : FaultEntry), FaultKind.ofCode k.toNat = some kind →
      s.faults.entry kind x.toNat = some e →
      ∃ t, exec (.ackFault src seq [0, k, x]) s = .next t
        ∧ (e.state = .activeUnack → t.faults.entry kind x.toNat = some { e with state := .activeAck })
        ∧ (e.state = .activeAck → t.faults = s.faults)
        ∧ (e.state = .clearedUnack → t.faults.entry kind x.toNat = none)
        ∧ (∀ kind' y, t.faults.active kind' y = s.faults.active kind' y) ∧ s.onlyChanges [.faults, .out] t) ∧
    (∃ t, exec (.ackFault src seq [1]) s = .next t
      ∧ (∀ kind' y, t.faults.active kind' y = s.faults.active kind' y)
      ∧ (∀ kind' y e, s.faults.entry kind' y = some e →
          t.faults.entry kind' y = if e.state = .clearedUnack then none else some { e with state := .activeAck })
      ∧ (∀ kind' y e', s.faults.entry kind' y = none → t.faults.entry kind' y = some e' →
          e'.state = .activeUnack ∧ s.faults.active kind' y = true)
      ∧ s.onlyChanges [.faults, .out] t) ∧
    (∀ (k x : Byte) (kind : FaultKind), FaultKind.ofCode k.toNat = some kind → s.faults.entry kind x.toNat = none →
      exec (.ackFault src seq [0, k, x]) s = .next ((s.countAccepted .console).sendReply src seq 26 1 7 []))

/-! ### Invariants that every step keeps -/

/-- Every table image the part holds stays in canonical form. -/
def Obligations.EveryStepKeepsImagesCanonical : Prop :=
  ∀ s t : State, s.canonical = true → step s = .next t → t.canonical = true

/-- Mode, session flag and timers of BYPASS stay consistent, and the alarm line is STEADY while a CRITICAL
entry, a waiting CRITICAL mark or the latch is there. -/
def Obligations.EveryStepKeepsModeAndAlarmSound : Prop :=
  ∀ s t : State, s.modeSound ∧ s.alarmSound → step s = .next t → t.modeSound ∧ t.alarmSound

/-- The output queues stay within their slots and in class order, and none waits behind a free port. -/
def Obligations.EveryStepKeepsPortsSound : Prop :=
  ∀ s t : State, s.portsSound → step s = .next t → t.portsSound

/-- The fault table stays sound: at most 32 entries, one entry and one mark for a fault, marks and ACTIVE
entries matching, a mark waiting only on a full table. -/
def Obligations.EveryStepKeepsTheFaultTableSound : Prop :=
  ∀ s t : State, s.faults.sound → step s = .next t → t.faults.sound

/-- The held-order list and the report store stay within their bounds, with one entry for a station, no
PUMP_STOP held, and consecutive record numbers. -/
def Obligations.EveryStepKeepsHeldOrdersAndReportsSound : Prop :=
  ∀ s t : State, s.heldSound ∧ s.reportsSound → step s = .next t → t.heldSound ∧ t.reportsSound

/-- A pause record is FREE exactly when its reason set is empty, holds SAFE exactly in SAFE, and outside a
session holds nothing else. -/
def Obligations.EveryStepKeepsPausesSound : Prop :=
  ∀ s t : State, s.modeSound ∧ s.pausesSound → step s = .next t → t.modeSound ∧ t.pausesSound

/-- The tonnage relations of R21 hold at every instant of a session, and a hold's mass is always its opening
cargo plus its attributed tonnage. -/
def Obligations.EveryStepConservesTonnage : Prop :=
  ∀ s t : State, s.modeSound ∧ s.tonnageSound → step s = .next t → t.modeSound ∧ t.tonnageSound

/-- The state right after power-on has every invariant. The content of a store that was never written is the
model's choice (log 13). -/
def Obligations.ResetStateIsSound : Prop :=
  State.reset.restarted State.reset .powerOn 3 ∧ State.reset.canonical = true
    ∧ State.reset.modeSound ∧ State.reset.alarmSound ∧ State.reset.portsSound ∧ State.reset.faults.sound
    ∧ State.reset.heldSound ∧ State.reset.reportsSound ∧ State.reset.pausesSound ∧ State.reset.tonnageSound
end

