-- ==== Sys2Proof/Laws/Frame.lean ====
section
/-! SUPPORT. Frames: how `State.onlyChanges` composes, what a frame gives block by block, and the frame of
every operation of the queues, the fault table, the report store and the pacing block. -/

namespace Sys2Proof.Machine

namespace State

/-! ### Composing frames -/

theorem agree_refl (s : State) (b : Block) : s.agree s b := by cases b <;> simp [agree]

theorem agree_trans {s t u : State} {b : Block} (h : s.agree t b) (k : t.agree u b) : s.agree u b := by
  cases b <;> simp_all [agree]

/-- Nothing changes nothing. -/
theorem onlyChanges_refl (l : List Block) (s : State) : s.onlyChanges l s := fun b _ => agree_refl s b

/-- One step after another changes what either changes. -/
theorem onlyChanges.andThen {s t u : State} {l m : List Block} (h : s.onlyChanges l t) (k : t.onlyChanges m u) :
    s.onlyChanges (l ++ m) u := fun b hb =>
  agree_trans (h b fun hl => hb (List.mem_append_left m hl)) (k b fun hm => hb (List.mem_append_right l hm))

/-- A frame with more blocks listed. -/
theorem onlyChanges.mono {s t : State} {l : List Block} {m : List Block} (h : s.onlyChanges l t)
    (hlm : ∀ b ∈ l, b ∈ m) : s.onlyChanges m t := fun b hb => h b fun hl => hb (hlm b hl)

/-- Steps of one frame compose within it. -/
theorem onlyChanges.trans {s t u : State} {l : List Block} (h : s.onlyChanges l t) (k : t.onlyChanges l u) :
    s.onlyChanges l u := (h.andThen k).mono (by simp)

/-- A loop of steps of one frame. -/
theorem onlyChanges_forEach {l : List Block} (is : List Nat) (f : Nat → State → State)
    (h : ∀ i s, onlyChanges l s (f i s)) (s : State) : s.onlyChanges l (forEach is f s) := by
  unfold forEach
  induction is generalizing s with
  | nil => exact onlyChanges_refl l s
  | cons i is ih => exact (h i s).trans (ih (f i s))

/-- A fold of steps of one frame. -/
theorem onlyChanges_foldl {α : Type} {l : List Block} (xs : List α) (f : State → α → State)
    (h : ∀ s x, onlyChanges l s (f s x)) (s : State) : s.onlyChanges l (xs.foldl f s) := by
  induction xs generalizing s with
  | nil => exact onlyChanges_refl l s
  | cons x xs ih => exact (h s x).trans (ih (f s x))

/-- A step or none. -/
theorem onlyChanges_ite {l : List Block} {s t u : State} {p : Prop} [Decidable p] (h : s.onlyChanges l t)
    (k : s.onlyChanges l u) : s.onlyChanges l (if p then t else u) := by split <;> assumption

/-! ### What a frame gives -/

section fields
variable {s t : State} {l : List Block} (h : s.onlyChanges l t)
include h

theorem onlyChanges.pending (n : Block.pending ∉ l) : t.pending = s.pending := h _ n
theorem onlyChanges.mode (n : Block.mode ∉ l) : t.sys.mode = s.sys.mode := h _ n
theorem onlyChanges.sessionOpen (n : Block.session ∉ l) : t.sys.sessionOpen = s.sys.sessionOpen := (h _ n).1
theorem onlyChanges.sessionNumber (n : Block.session ∉ l) : t.sys.sessionNumber = s.sys.sessionNumber := (h _ n).2
theorem onlyChanges.powered (n : Block.supply ∉ l) : t.sys.powered = s.sys.powered := (h _ n).1
theorem onlyChanges.settle (n : Block.supply ∉ l) : t.sys.settle = s.sys.settle := (h _ n).2.1
theorem onlyChanges.reload (n : Block.supply ∉ l) : t.sys.reload = s.sys.reload := (h _ n).2.2.1
theorem onlyChanges.cause (n : Block.supply ∉ l) : t.sys.cause = s.sys.cause := (h _ n).2.2.2.1
theorem onlyChanges.latch (n : Block.supply ∉ l) : t.sys.latch = s.sys.latch := (h _ n).2.2.2.2
theorem onlyChanges.clock (n : Block.clock ∉ l) : t.clock = s.clock := h _ n
theorem onlyChanges.now (n : Block.clock ∉ l) : t.now = s.now := congrArg Clock.seconds (h _ n : t.clock = s.clock)
theorem onlyChanges.stamp (n : Block.clock ∉ l) : t.stamp = s.stamp := by
  simp only [State.stamp, State.clockSeconds, State.now, h.clock n]
theorem onlyChanges.out (n : Block.out ∉ l) : t.out = s.out := h _ n
theorem onlyChanges.faults (n : Block.faults ∉ l) : t.faults = s.faults := h _ n
theorem onlyChanges.shipGroup (n : Block.ship ∉ l) : t.mgmt.ship = s.mgmt.ship := h _ n
theorem onlyChanges.planGroup (n : Block.plan ∉ l) : t.mgmt.plan = s.mgmt.plan := h _ n
theorem onlyChanges.bank (n : Block.ship ∉ l) : t.bank = s.bank :=
  congrArg Group.active (h _ n : t.mgmt.ship = s.mgmt.ship)
theorem onlyChanges.activePlan (n : Block.plan ∉ l) : t.plan = s.plan :=
  congrArg Group.active (h _ n : t.mgmt.plan = s.mgmt.plan)
theorem onlyChanges.tanks (n : Block.tanks ∉ l) : t.tanks = s.tanks := h _ n
theorem onlyChanges.shore (n : Block.shore ∉ l) : t.shore = s.shore := h _ n
theorem onlyChanges.engine (n : Block.engine ∉ l) : t.engine = s.engine := h _ n
theorem onlyChanges.tracker (n : Block.tracker ∉ l) : t.tracker = s.tracker := h _ n
theorem onlyChanges.pacing (n : Block.pacing ∉ l) : t.pacing = s.pacing := h _ n
theorem onlyChanges.stations (n : Block.stations ∉ l) : t.stations = s.stations := h _ n
theorem onlyChanges.screen (n : Block.screen ∉ l) : t.screen = s.screen := h _ n
theorem onlyChanges.reports (n : Block.reports ∉ l) : t.reports = s.reports := h _ n
theorem onlyChanges.tank (n : Block.tanks ∉ l) (i : Nat) : t.tank i = s.tank i := by simp only [State.tank, h.tanks n]
theorem onlyChanges.station (n : Block.stations ∉ l) (i : Nat) : t.station i = s.station i := by
  simp only [State.station, h.stations n]
theorem onlyChanges.loader (n : Block.shore ∉ l) (i : Nat) : t.loader i = s.loader i := by
  simp only [State.loader, h.shore n]
theorem onlyChanges.hold (n : Block.shore ∉ l) (i : Nat) : t.hold i = s.hold i := by simp only [State.hold, h.shore n]
theorem onlyChanges.pause (n : Block.pacing ∉ l) (i : Nat) : t.pause i = s.pause i := by
  simp only [State.pause, h.pacing n]
theorem onlyChanges.notFree (n : Block.pacing ∉ l) : t.notFree = s.notFree := by simp only [State.notFree, h.pause n]
theorem onlyChanges.totalCargo (n : Block.shore ∉ l) : t.totalCargo = s.totalCargo := by
  simp only [State.totalCargo, h.hold n]
theorem onlyChanges.working (n : Block.mode ∉ l) : t.working = s.working := by simp only [State.working, h.mode n]

end fields

/-! ### One block replaced -/

theorem only_out (s : State) (x : Out) : s.onlyChanges [.out] { s with out := x } := by
  intro b hb; cases b <;> simp_all [agree]

theorem only_faults (s : State) (x : Faults) : s.onlyChanges [.faults] { s with faults := x } := by
  intro b hb; cases b <;> simp_all [agree]

theorem only_reports (s : State) (x : Reports) : s.onlyChanges [.reports] { s with reports := x } := by
  intro b hb; cases b <;> simp_all [agree]

theorem only_tanks (s : State) (x : Vector TankRec 32) : s.onlyChanges [.tanks] { s with tanks := x } := by
  intro b hb; cases b <;> simp_all [agree]

theorem only_shore (s : State) (x : Shore) : s.onlyChanges [.shore] { s with shore := x } := by
  intro b hb; cases b <;> simp_all [agree]

theorem only_engine (s : State) (x : Engine) : s.onlyChanges [.engine] { s with engine := x } := by
  intro b hb; cases b <;> simp_all [agree]

theorem only_tracker (s : State) (x : Tracker) : s.onlyChanges [.tracker] { s with tracker := x } := by
  intro b hb; cases b <;> simp_all [agree]

theorem only_pacing (s : State) (x : Pacing) : s.onlyChanges [.pacing] { s with pacing := x } := by
  intro b hb; cases b <;> simp_all [agree]

theorem only_stations (s : State) (x : Vector StationRec 64) : s.onlyChanges [.stations] { s with stations := x } := by
  intro b hb; cases b <;> simp_all [agree]

theorem only_screen (s : State) (x : Screen) : s.onlyChanges [.screen] { s with screen := x } := by
  intro b hb; cases b <;> simp_all [agree]

theorem only_clock (s : State) (x : Clock) : s.onlyChanges [.clock] { s with clock := x } := by
  intro b hb; cases b <;> simp_all [agree]

theorem only_ship (s : State) (x : Group ShipBank) : s.onlyChanges [.ship] { s with mgmt := { s.mgmt with ship := x } } := by
  intro b hb; cases b <;> simp_all [agree]

theorem only_plan (s : State) (x : Group PlanBank) : s.onlyChanges [.plan] { s with mgmt := { s.mgmt with plan := x } } := by
  intro b hb; cases b <;> simp_all [agree]

theorem setMode_only (s : State) (m : Mode) : s.onlyChanges [.mode] (s.setMode m) := by
  intro b hb; cases b <;> simp_all [agree, setMode]

theorem modTank_only (s : State) (t : Nat) (f : TankRec → TankRec) : s.onlyChanges [.tanks] (s.modTank t f) := only_tanks s _
theorem modStation_only (s : State) (i : Nat) (f : StationRec → StationRec) :
    s.onlyChanges [.stations] (s.modStation i f) := only_stations s _
theorem modLoader_only (s : State) (l : Nat) (f : LoaderRec → LoaderRec) : s.onlyChanges [.shore] (s.modLoader l f) :=
  only_shore s _
theorem modHold_only (s : State) (h : Nat) (f : HoldRec → HoldRec) : s.onlyChanges [.shore] (s.modHold h f) :=
  only_shore s _
theorem setSilence_only (s : State) (x : Silence) : s.onlyChanges [.shore] (s.setSilence x) := only_shore s _
theorem modPause_only (s : State) (l : Nat) (f : PauseRec → PauseRec) : s.onlyChanges [.pacing] (s.modPause l f) :=
  only_pacing s _
theorem setTracking_only (s : State) (x : Tracking) : s.onlyChanges [.tracker] (s.setTracking x) := only_tracker s _
theorem modPort_only (s : State) (p : Port) (f : PortState → PortState) : s.onlyChanges [.out] (s.modPort p f) :=
  only_out s _

/-! ### Queues, ALERTs and advisories -/

theorem offer_only (s : State) (p : Port) (e : QEntry) : s.onlyChanges [.out] (s.offer p e).1 := only_out s _
theorem send_only (s : State) (p : Port) (t : Telegram) : s.onlyChanges [.out] (s.send p t).1 := only_out s _
theorem originate_only (s : State) (p : Port) (k : Byte) (x : List Byte) : s.onlyChanges [.out] (s.originate p k x) :=
  only_out s _
theorem alert_only (s : State) (a : Alert) : s.onlyChanges [.out] (s.alert a) := only_out s _
theorem advise_only (s : State) (k : Advisory) (x : Nat) : s.onlyChanges [.out] (s.advise k x) := only_out s _
theorem syntheticAck_only (s : State) (c q st : Byte) (o r : Nat) : s.onlyChanges [.out] (s.syntheticAck c q st o r) :=
  only_out s _

/-! ### Faults -/

theorem judgeAlarm_only (s : State) : s.onlyChanges [.faults] s.judgeAlarm := only_faults s _

theorem withFaults_only (s : State) (f : Faults) (k : FaultKind) (x tr c : Nat) :
    s.onlyChanges [.faults, .out] (s.withFaults f k x tr c) := by
  intro b hb; cases b <;> simp_all [agree, withFaults, judgeAlarm, alert]

theorem clearFault_only (s : State) (k : FaultKind) (x : Nat) : s.onlyChanges [.faults, .out] (s.clearFault k x) := by
  unfold clearFault
  split
  · exact onlyChanges_refl _ s
  · exact withFaults_only s _ k x _ _

theorem enterSafeOn_only (s : State) (k : FaultKind) : s.onlyChanges [.mode] (s.enterSafeOn k) := by
  unfold enterSafeOn
  split
  · exact setMode_only s _
  · exact onlyChanges_refl _ s

theorem raiseFault_only (s : State) (k : FaultKind) (x : Nat) : s.onlyChanges [.faults, .out, .mode] (s.raiseFault k x) := by
  unfold raiseFault
  split
  · exact onlyChanges_refl _ s
  · exact (withFaults_only s _ k x _ _).andThen (enterSafeOn_only _ k)

/-- The raising of a fault without SAFE escalation leaves the mode. -/
theorem raiseFault_keeps_mode (s : State) {k : FaultKind} (x : Nat) (h : ∀ b, escalates b k = false) :
    s.onlyChanges [.faults, .out] (s.raiseFault k x) := by
  unfold raiseFault
  split
  · exact onlyChanges_refl _ s
  · unfold enterSafeOn
    simp only [h, Bool.false_eq_true, false_and, if_false]
    exact withFaults_only s _ k x _ _

theorem judgeFault_only (s : State) (k : FaultKind) (x : Nat) (u d : Bool) :
    s.onlyChanges [.faults, .out, .mode] (s.judgeFault k x u d) := by
  unfold judgeFault
  split
  · exact raiseFault_only s k x
  · split
    · exact (clearFault_only s k x).mono (by decide)
    · exact onlyChanges_refl _ s

theorem judgeFault_keeps_mode (s : State) {k : FaultKind} (x : Nat) (u d : Bool) (h : ∀ b, escalates b k = false) :
    s.onlyChanges [.faults, .out] (s.judgeFault k x u d) := by
  unfold judgeFault
  split
  · exact raiseFault_keeps_mode s x h
  · split
    · exact clearFault_only s k x
    · exact onlyChanges_refl _ s

theorem clearTableFaults_only (s : State) : s.onlyChanges [.faults, .out] s.clearTableFaults :=
  onlyChanges_foldl _ _ (fun s _ => clearFault_only s _ _) s

/-! ### Reports -/

theorem emitTo_only (s : State) (p : Port) (r : ReportRec) : s.onlyChanges [.out] (s.emitTo p r) :=
  onlyChanges_forEach _ _ (fun _ s => originate_only s _ _ _) s

theorem emit_only (s : State) (r : ReportRec) : s.onlyChanges [.out] (s.emit r) := by
  unfold emit
  dsimp only
  split
  · exact (emitTo_only s _ r).trans (emitTo_only _ _ r)
  · exact emitTo_only s _ r

theorem makeRecord_only (s : State) (k : RecordKind) (p g : Bool) (b : List Int) :
    s.onlyChanges [.out, .reports] (s.makeRecord k p g b) :=
  ((only_reports s _).andThen (emit_only _ _)).mono (by decide)

theorem makeCondition_only (s : State) : s.onlyChanges [.out, .reports] s.makeCondition.1 := by
  unfold makeCondition
  split
  · exact makeRecord_only s _ _ _ _
  · exact onlyChanges_refl _ s

theorem makeSessionOpen_only (s : State) (n : Nat) (c b : Int) : s.onlyChanges [.out, .reports] (s.makeSessionOpen n c b) :=
  ((makeRecord_only s _ _ _ _).andThen (only_reports _ _)).mono (by decide)

theorem makeSessionClose_only (s : State) : s.onlyChanges [.out, .reports] s.makeSessionClose := makeRecord_only s _ _ _ _

theorem closeReports_only (s : State) : s.onlyChanges [.reports] s.closeReports := only_reports s _
theorem latchReports_only (s : State) : s.onlyChanges [.reports] s.latchReports := only_reports s _
theorem relatchReports_only (s : State) : s.onlyChanges [.reports] s.relatchReports := only_reports s _
theorem startConditionTimer_only (s : State) : s.onlyChanges [.reports] s.startConditionTimer := only_reports s _

/-! ### Pacing -/

theorem addReason_only (s : State) (l : Nat) (r : Reason) : s.onlyChanges [.pacing] (s.addReason l r) := by
  unfold addReason
  split
  · exact modPause_only s _ _
  · exact onlyChanges_refl _ s

theorem removeReason_only (s : State) (l : Nat) (r : Reason) : s.onlyChanges [.pacing] (s.removeReason l r) :=
  modPause_only s _ _

theorem addReasonAll_only (s : State) (r : Reason) : s.onlyChanges [.pacing] (s.addReasonAll r) :=
  onlyChanges_forEach _ _ (fun _ s => addReason_only s _ _) s

theorem removeReasonAll_only (s : State) (r : Reason) : s.onlyChanges [.pacing] (s.removeReasonAll r) :=
  onlyChanges_forEach _ _ (fun _ s => removeReason_only s _ _) s

theorem followFault_only (s : State) (r : Reason) (b a : Bool) : s.onlyChanges [.pacing] (s.followFault r b a) := by
  unfold followFault
  split
  · exact addReasonAll_only s r
  · split
    · exact removeReasonAll_only s r
    · exact onlyChanges_refl _ s

theorem followSafe_only (s : State) (m : Mode) : s.onlyChanges [.pacing] (s.followSafe m) := by
  unfold followSafe
  split
  · exact addReasonAll_only s _
  · exact onlyChanges_refl _ s

theorem clearReasons_only (s : State) : s.onlyChanges [.pacing] s.clearReasons :=
  onlyChanges_forEach _ _ (fun _ s => modPause_only s _ _) s

theorem modStep_only (s : State) (f : ActiveStep → ActiveStep) : s.onlyChanges [.tracker] (s.modStep f) := by
  unfold modStep
  split
  · exact setTracking_only s _
  · exact onlyChanges_refl _ s

theorem sendPause_only (s : State) (l : Nat) : s.onlyChanges [.out] (s.sendPause l) := originate_only s _ _ _

/-- What acting on reason changes can change (R83 to R91). -/
abbrev pacingBlocks : List Block := [.pacing, .out, .faults, .tracker, .reports]

theorem openEpisode_only (s : State) (l : Nat) : s.onlyChanges pacingBlocks (s.openEpisode l) := by
  have h : s.onlyChanges [.pacing, .out]
      ((s.modPause l fun p => { p with state := .pauseSent (s.newEpisode l), timer := s.confirmDeadline }).sendPause l) :=
    (modPause_only s l _).andThen (sendPause_only _ l)
  unfold openEpisode
  dsimp only
  split
  · exact (h.andThen (modStep_only _ _)).mono (by decide)
  · exact h.mono (by decide)

theorem repeatPause_only (s : State) (l : Nat) : s.onlyChanges pacingBlocks (s.repeatPause l) :=
  ((modPause_only s l _).andThen (sendPause_only _ l)).mono (by decide)

theorem closeEpisode_only (s : State) (l : Nat) (e : Episode) : s.onlyChanges [.out, .reports, .pacing] (s.closeEpisode l e) := by
  unfold closeEpisode
  split
  · exact (makeRecord_only s _ _ _ _).andThen (only_pacing _ _)
  · exact onlyChanges_refl _ s

theorem release_only (s : State) (l : Nat) : s.onlyChanges pacingBlocks (s.release l) := by
  have h : s.onlyChanges pacingBlocks
      ((((s.originate .shore kindResume (enc1 l)).modPause l fun p => { p with state := .free, timer := none }).clearFault
        .pauseUnconfirmed l).clearFault .overpour l) :=
    ((((originate_only s _ _ _).andThen (modPause_only _ l _)).andThen (clearFault_only _ _ _)).andThen
      (clearFault_only _ _ _)).mono (by decide)
  unfold release
  dsimp only
  split <;> split
  · exact ((h.andThen (closeEpisode_only _ _ _)).andThen (modStep_only _ _)).mono (by decide)
  · exact (h.andThen (closeEpisode_only _ _ _)).mono (by decide)
  · exact (h.andThen (modStep_only _ _)).mono (by decide)
  · exact h

theorem actLoader_only (s : State) (l : Nat) (b : ReasonSet) (f : Bool) : s.onlyChanges pacingBlocks (s.actLoader l b f) := by
  unfold actLoader
  dsimp only
  split
  · split
    · exact onlyChanges_refl _ s
    · exact openEpisode_only s l
  · split
    · exact release_only s l
    · split
      · exact onlyChanges_refl _ s
      · exact repeatPause_only s l

theorem actOn_only (s : State) (b : Nat → ReasonSet) (f : Option Nat) : s.onlyChanges pacingBlocks (s.actOn b f) :=
  onlyChanges_forEach _ _ (fun _ s => actLoader_only s _ _ _) s

/-- An event that only changes reason sets changes no more than the acting on them does. -/
theorem pacingEvent_only (s : State) (f : State → State) {l : List Block} (h : s.onlyChanges l (f s)) :
    s.onlyChanges (l ++ pacingBlocks) (s.pacingEvent f) := h.andThen (actOn_only _ _ _)

end State

end Sys2Proof.Machine
end

