-- ==== Sys2Proof/Laws/Blocks.lean ====
section
/-! SUPPORT. The frames of the blocks' own operations: tank accounting, plan tracker, shore line unit, order
screen, station table, condition engine, modes and management. -/

namespace Sys2Proof.Machine

namespace State

/-! ### Tank accounting -/

theorem setMotion_only (s : State) (t : Nat) (m : Motion) : s.onlyChanges [.tanks] (s.setMotion t m) := modTank_only s t _

theorem ballastRecord_only (s : State) (t : Nat) (f : Bool) (o : Operation) (e : MassAt) (p : Bool) :
    s.onlyChanges [.out, .reports] (s.ballastRecord t f o e p) := by
  unfold ballastRecord
  split
  · exact makeRecord_only s _ _ _ _
  · exact onlyChanges_refl _ s

theorem closeOperation_only (s : State) (t : Nat) (p : Bool) : s.onlyChanges [.out, .reports] (s.closeOperation t p) := by
  unfold closeOperation
  split
  · exact onlyChanges_refl _ s
  · exact ballastRecord_only s _ _ _ _ _
  · exact ballastRecord_only s _ _ _ _ _

theorem startFilling_only (s : State) (t : Nat) (o : Operation) : s.onlyChanges [.tanks] (s.startFilling t o) := by
  unfold startFilling
  dsimp only
  split <;> exact modTank_only s t _

theorem judgeMotion_only (s : State) (t : Nat) : s.onlyChanges [.tanks, .out, .reports] (s.judgeMotion t) := by
  have hm : ∀ m, s.onlyChanges [.tanks, .out, .reports] (s.setMotion t m) := fun m => (setMotion_only s t m).mono (by decide)
  unfold judgeMotion
  dsimp only
  split
  · exact hm _
  · split
    · exact hm _
    · split
      · exact (startFilling_only s t _).mono (by decide)
      · exact onlyChanges_refl _ s
  · split
    · exact hm _
    · split
      · exact ((closeOperation_only s t _).andThen (startFilling_only _ t _)).mono (by decide)
      · exact onlyChanges_refl _ s
  · split
    · exact hm _
    · split
      · exact ((closeOperation_only s t _).andThen (setMotion_only _ t _)).mono (by decide)
      · exact onlyChanges_refl _ s

theorem sampleLevel_only (s : State) (t : Nat) (x : Int) : s.onlyChanges [.tanks] (s.sampleLevel t x) := modTank_only s t _

theorem judgeOverrange_only (s : State) (t : Nat) : s.onlyChanges [.faults, .out] (s.judgeOverrange t) :=
  judgeFault_keeps_mode s t _ _ fun _ => rfl

theorem sampleMass_only (s : State) (t : Nat) : s.onlyChanges [.tanks] (s.sampleMass t) := modTank_only s t _

/-- What a SOUNDING can change (R5 to R10, R14 to R17). -/
abbrev tankBlocks : List Block := [.tanks, .faults, .out, .reports]

theorem acceptSample_only (s : State) (t : Nat) (x : Int) : s.onlyChanges tankBlocks (s.acceptSample t x) := by
  have h := (((sampleLevel_only s t x).andThen (judgeOverrange_only _ t)).andThen (sampleMass_only _ t)).andThen
    (clearFault_only _ .gaugeFault t)
  unfold acceptSample
  dsimp only
  split
  · exact ((h.andThen (clearFault_only _ _ _)).andThen (judgeMotion_only _ t)).mono (by decide)
  · exact (h.andThen (judgeMotion_only _ t)).mono (by decide)

theorem countRejected_only (s : State) (t : Nat) : s.onlyChanges [.tanks] (s.countRejected t) := modTank_only s t _

theorem faultSample_only (s : State) (t : Nat) : s.onlyChanges tankBlocks (s.faultSample t) :=
  (((countRejected_only s t).andThen (modTank_only _ t _)).andThen (raiseFault_keeps_mode _ t fun _ => rfl)).mono (by decide)

theorem rejectSample_only (s : State) (t : Nat) : s.onlyChanges tankBlocks (s.rejectSample t) :=
  (((countRejected_only s t).andThen (modTank_only _ t _)).andThen (advise_only _ _ _)).mono (by decide)

theorem takeSounding_only (s : State) (t l : Nat) (st n : Byte) : s.onlyChanges tankBlocks (s.takeSounding t l st n) := by
  have h := modTank_only s t (fun r => { r with lastSample := some n })
  unfold takeSounding
  dsimp only
  split
  · exact (countRejected_only s t).mono (by decide)
  · split
    · split
      · exact (h.andThen (acceptSample_only _ t l)).mono (by decide)
      · split
        · exact (h.andThen (rejectSample_only _ t)).mono (by decide)
        · exact ((h.andThen (advise_only _ _ _)).andThen (acceptSample_only _ t l)).mono (by decide)
    · exact (h.andThen (faultSample_only _ t)).mono (by decide)

theorem gaugeTimedOut_only (s : State) (t : Nat) : s.onlyChanges [.tanks, .faults, .out] (s.gaugeTimedOut t) :=
  (modTank_only s t _).andThen (raiseFault_keeps_mode _ t fun _ => rfl)

theorem anchorNow_only (s : State) (t : Nat) : s.onlyChanges [.tanks] (s.anchorNow t) := modTank_only s t _

theorem stillExpired_only (s : State) (t : Nat) : s.onlyChanges [.tanks, .out, .reports] (s.stillExpired t) :=
  ((closeOperation_only s t _).andThen (anchorNow_only _ t)).mono (by decide)

theorem growTank_only (s : State) (t : Nat) : s.onlyChanges [.tanks] (s.growTank t) := by
  unfold growTank
  dsimp only
  split
  · split
    · exact modTank_only s t _
    · exact onlyChanges_refl _ s
  · exact onlyChanges_refl _ s

theorem growUncertainty_only (s : State) : s.onlyChanges [.tanks] s.growUncertainty :=
  onlyChanges_forEach _ _ (fun t s => growTank_only s t) s

theorem closeTank_only (s : State) (t : Nat) : s.onlyChanges [.tanks, .out, .reports] (s.closeTank t) := by
  unfold closeTank
  split
  · exact onlyChanges_refl _ s
  · exact ((closeOperation_only s t _).andThen (anchorNow_only _ t)).mono (by decide)

theorem closeTanks_only (s : State) : s.onlyChanges [.tanks, .out, .reports] s.closeTanks :=
  onlyChanges_forEach _ _ (fun t s => closeTank_only s t) s

theorem resetTanks_only (s : State) : s.onlyChanges [.tanks] s.resetTanks :=
  onlyChanges_forEach _ _ (fun t s => modTank_only s t _) s

theorem startGaugeTimers_only (s : State) : s.onlyChanges [.tanks] s.startGaugeTimers :=
  onlyChanges_forEach _ _ (fun t s => onlyChanges_ite (modTank_only s t _) (onlyChanges_refl _ s)) s

theorem switchTank_only (s : State) (o : ShipBank) (t : Nat) : s.onlyChanges [.tanks, .faults, .out] (s.switchTank o t) := by
  unfold switchTank
  dsimp only
  split
  · exact (modTank_only s t _).mono (by decide)
  · exact (modTank_only s t _).mono (by decide)
  · exact ((((modTank_only s t _).andThen (clearFault_only _ _ _)).andThen (clearFault_only _ _ _)).andThen
      (clearFault_only _ _ _)).mono (by decide)
  · exact (modTank_only s t _).mono (by decide)

theorem switchTanks_only (s : State) (o : ShipBank) : s.onlyChanges [.tanks, .faults, .out] (s.switchTanks o) :=
  onlyChanges_forEach _ _ (fun t s => switchTank_only s o t) s

/-! ### Plan tracker -/

theorem recordStep_only (s : State) (a : ActiveStep) : s.onlyChanges [.out, .reports, .tracker] (s.recordStep a) :=
  (makeRecord_only s _ _ _ _).andThen (only_tracker _ _)

theorem completePlan_only (s : State) : s.onlyChanges [.tracker, .pacing] s.completePlan :=
  (setTracking_only s _).andThen (addReasonAll_only _ _)

theorem nextStep_only (s : State) (a : ActiveStep) : s.onlyChanges [.tracker] (s.nextStep a) := setTracking_only s _

/-- What a step advance can change (R66 to R69). -/
abbrev trackBlocks : List Block := [.tracker, .pacing, .out, .reports]

theorem advanceFrom_only (n : Nat) (s : State) : s.onlyChanges trackBlocks (advanceFrom n s) := by
  induction n generalizing s with
  | zero => exact onlyChanges_refl _ s
  | succ n ih =>
    unfold advanceFrom
    split
    · split
      · split
        · exact ((recordStep_only s _).andThen (completePlan_only _)).mono (by decide)
        · exact (((recordStep_only s _).andThen (nextStep_only _ _)).andThen (ih _)).mono (by decide)
      · exact onlyChanges_refl _ s
    · exact onlyChanges_refl _ s

theorem setOffPlan_only (s : State) (l : Nat) (v : Bool) : s.onlyChanges [.tracker] (s.setOffPlan l v) := only_tracker s _

theorem offPlanTest_only (s : State) (l : Nat) (sp : Option Nat) (b : Belt) :
    s.onlyChanges [.tracker, .pacing, .faults, .out] (s.offPlanTest l sp b) := by
  unfold offPlanTest
  dsimp only
  split
  · split
    · exact onlyChanges_refl _ s
    · exact (((setOffPlan_only s l _).andThen (addReason_only _ _ _)).andThen
        (raiseFault_keeps_mode _ l fun _ => rfl)).mono (by decide)
  · split
    · exact (((setOffPlan_only s l _).andThen (removeReason_only _ _ _)).andThen (clearFault_only _ _ l)).mono (by decide)
    · exact onlyChanges_refl _ s

theorem trackPour_only (s : State) (l : Nat) (sp : Option Nat) (b : Belt) :
    s.onlyChanges [.tracker, .pacing, .faults, .out, .reports] (s.trackPour l sp b) :=
  ((advanceFrom_only 65 s).andThen (offPlanTest_only _ l sp b)).mono (by decide)

theorem openTracking_only (s : State) : s.onlyChanges [.tracker, .faults, .out] s.openTracking := by
  unfold openTracking
  exact ((((only_tracker s _).andThen (clearFault_only _ _ _)).andThen (clearFault_only _ _ _)).andThen
    (onlyChanges_forEach _ _ (fun l s => clearFault_only s _ l) _)).mono (by decide)

theorem closeTracking_only (s : State) : s.onlyChanges [.tracker, .plan] s.closeTracking := by
  intro b hb; cases b <;> simp_all [agree, closeTracking]

theorem rebaseCursor_only (s : State) : s.onlyChanges [.tracker, .pacing] s.rebaseCursor := by
  unfold rebaseCursor
  dsimp only
  split
  · split
    · exact (setTracking_only s _).andThen (removeReasonAll_only _ _)
    · exact (setTracking_only s _).mono (by decide)
  · split
    · exact onlyChanges_refl _ s
    · exact completePlan_only s

theorem rebase_only (s : State) : s.onlyChanges pacingBlocks s.rebase :=
  ((pacingEvent_only s _ (rebaseCursor_only s)).andThen (modStep_only _ _)).mono (by decide)

theorem judgeLag_only (s : State) (x : Int) : s.onlyChanges [.faults, .out] (s.judgeLag x) :=
  (judgeFault_keeps_mode s _ _ _ fun _ => rfl).trans (judgeFault_keeps_mode _ _ _ _ fun _ => rfl)

theorem trackPeak_only (s : State) (p : Peak) : s.onlyChanges [.tracker] (s.trackPeak p) := modStep_only s _

/-! ### Shore line unit -/

/-- What shore silence can change (R32, R77). -/
abbrev silenceBlocks : List Block := [.shore, .pacing, .out, .faults, .tracker, .reports]

theorem clearSilent_only (s : State) : s.onlyChanges silenceBlocks s.clearSilent :=
  ((clearFault_only s _ _).andThen (pacingEvent_only _ _ (removeReasonAll_only _ _))).mono (by decide)

theorem watchShore_only (s : State) : s.onlyChanges [.shore] s.watchShore := setSilence_only s _

theorem signOfLife_only (s : State) : s.onlyChanges silenceBlocks s.signOfLife := by
  unfold signOfLife
  split
  · exact ((watchShore_only s).andThen (clearSilent_only _)).mono (by decide)
  · exact (watchShore_only s).mono (by decide)
  · exact (watchShore_only s).mono (by decide)

theorem armSilence_only (s : State) : s.onlyChanges [.shore] s.armSilence := by
  unfold armSilence
  split
  · exact watchShore_only s
  · exact onlyChanges_refl _ s
  · exact onlyChanges_refl _ s

theorem disarmSilence_only (s : State) : s.onlyChanges silenceBlocks s.disarmSilence := by
  unfold disarmSilence
  split
  · exact ((setSilence_only s _).andThen (clearSilent_only _)).mono (by decide)
  · exact (setSilence_only s _).mono (by decide)
  · exact onlyChanges_refl _ s

theorem silenceExpired_only (s : State) : s.onlyChanges silenceBlocks s.silenceExpired :=
  (((setSilence_only s _).andThen (raiseFault_keeps_mode _ _ fun _ => rfl)).andThen
    (pacingEvent_only _ _ (addReasonAll_only _ _))).mono (by decide)

theorem sendBeacon_only (s : State) : s.onlyChanges [.out, .shore] s.sendBeacon :=
  (originate_only s _ _ _).andThen (only_shore _ _)

theorem openAccount_only (s : State) : s.onlyChanges [.shore] s.openAccount := by
  unfold openAccount
  exact ((only_shore s _).trans (onlyChanges_forEach _ _ (fun _ s => modHold_only s _ _) _)).trans (armSilence_only _)

theorem closeAccount_only (s : State) : s.onlyChanges silenceBlocks s.closeAccount :=
  ((only_shore s _).andThen (disarmSilence_only _)).mono (by decide)

theorem switchHolds_only (s : State) : s.onlyChanges [.shore] s.switchHolds :=
  onlyChanges_forEach _ _ (fun _ s => onlyChanges_ite (onlyChanges_refl _ s) (modHold_only s _ _)) s

theorem chargeNone_only (s : State) (l d : Nat) : s.onlyChanges [.shore, .faults, .out] (s.chargeNone l d) :=
  (((modLoader_only s l _).andThen (only_shore _ _)).andThen (raiseFault_keeps_mode _ l fun _ => rfl)).mono (by decide)

theorem charge_only (s : State) (l c : Nat) : s.onlyChanges [.shore, .faults, .out] (s.charge l c) := by
  unfold charge
  dsimp only
  split
  · exact ((modHold_only s _ _).andThen (modLoader_only _ l _)).mono (by decide)
  · split
    · exact (modLoader_only s l _).mono (by decide)
    · exact ((chargeNone_only s l _).andThen (modLoader_only _ l _)).mono (by decide)

theorem accountPour_only (s : State) (f : PourFields) : s.onlyChanges [.shore, .faults, .out] (s.accountPour f) := by
  unfold accountPour
  split
  · exact ((charge_only s _ _).andThen (modLoader_only _ _ _)).mono (by decide)
  · exact ((modLoader_only s _ _).andThen (modLoader_only _ _ _)).mono (by decide)

/-! ### Order screen -/

/-- What the order screen can change (R131 to R149, R124, R128). -/
abbrev screenBlocks : List Block := [.screen, .stations, .out, .faults]

theorem freeSlot_only (s : State) : s.onlyChanges [.screen] s.freeSlot := only_screen s _

theorem freeSlotOf_only (s : State) (i : Nat) : s.onlyChanges [.screen] (s.freeSlotOf i) :=
  onlyChanges_ite (freeSlot_only s) (onlyChanges_refl _ s)

theorem closeOutstanding_only (s : State) (i : Nat) (o : Outstanding) (c : Closing) :
    s.onlyChanges [.stations, .screen] (s.closeOutstanding i o c) := by
  unfold closeOutstanding
  dsimp only
  split
  · exact (modStation_only s i _).andThen (freeSlotOf_only _ i)
  · exact (modStation_only s i _).mono (by decide)

theorem answerOutstanding_only (s : State) (a : Byte) (o : Outstanding) (n : Nat) :
    s.onlyChanges [.out] (s.answerOutstanding a o n) := by
  unfold answerOutstanding
  split
  · exact syntheticAck_only s _ _ _ _ _
  · exact onlyChanges_refl _ s

theorem supersedeOutstanding_only (s : State) (i : Nat) : s.onlyChanges [.stations, .screen, .out] (s.supersedeOutstanding i) := by
  unfold supersedeOutstanding
  split
  · exact ((closeOutstanding_only s i _ _).andThen (answerOutstanding_only _ _ _ _)).mono (by decide)
  · exact onlyChanges_refl _ s

theorem openOutstanding_only (s : State) (i : Nat) (q : Byte) (ty : OrderType) (m v : Byte) (c : Option Byte) :
    s.onlyChanges [.stations] (s.openOutstanding i q ty m v c) := modStation_only s i _

theorem takeSlot_only (s : State) (i : Nat) (m : PumpMode) : s.onlyChanges [.screen, .faults, .out] (s.takeSlot i m) :=
  (only_screen s _).andThen (clearFault_only _ _ i)

theorem orderOffered_only (s : State) (i : Nat) (o : Order) (c : Option Byte) : s.onlyChanges screenBlocks (s.orderOffered i o c) := by
  have h : s.onlyChanges [.stations, .screen, .out]
      (if o.type = .pumpStop then (s.supersedeOutstanding i).freeSlotOf i else s) := by
    split
    · exact ((supersedeOutstanding_only s i).andThen (freeSlotOf_only _ i)).mono (by decide)
    · exact onlyChanges_refl _ s
  unfold orderOffered
  extract_lets a b
  split
  · exact ((h.andThen (openOutstanding_only _ i _ _ _ _ _)).andThen (takeSlot_only _ i _)).mono (by decide)
  · exact (h.andThen (openOutstanding_only _ i _ _ _ _ _)).mono (by decide)

theorem forwardOrder_only (s : State) (i : Nat) (o : Order) : s.onlyChanges screenBlocks (s.forwardOrder i o) := by
  unfold forwardOrder
  extract_lets r
  split
  · exact ((send_only s _ _).andThen (orderOffered_only _ i o _)).mono (by decide)
  · exact ((send_only s _ _).andThen (syntheticAck_only _ _ _ _ _ _)).mono (by decide)

theorem refuseOrder_only (s : State) (i : Nat) (o : Order) (c : Nat) : s.onlyChanges [.stations, .out] (s.refuseOrder i o c) :=
  (modStation_only s i _).andThen (syntheticAck_only _ _ _ _ _ _)

theorem dropHeld_only (s : State) (i : Nat) : s.onlyChanges [.screen] (s.dropHeld i) := only_screen s _
theorem updateHeld_only (s : State) (i : Nat) (r : HoldReason) : s.onlyChanges [.screen] (s.updateHeld i r) := only_screen s _

theorem adviseClamp_only (s : State) (i : Nat) (o : Order) : s.onlyChanges [.out] (s.adviseClamp i o) :=
  onlyChanges_ite (advise_only s _ i) (onlyChanges_refl _ s)

theorem scanEntry_only (s : State) (h : Held) : s.onlyChanges screenBlocks (s.scanEntry h).1 := by
  unfold scanEntry
  split
  · exact ((dropHeld_only s _).andThen (refuseOrder_only _ _ _ _)).mono (by decide)
  · exact (updateHeld_only s _ _).mono (by decide)
  · exact (((adviseClamp_only s _ _).andThen (dropHeld_only _ _)).andThen (forwardOrder_only _ _ _)).mono (by decide)

theorem scan_only (s : State) : s.onlyChanges screenBlocks s.scan.1 := by
  unfold scan
  suffices h : ∀ (hs : List Held) (a : State × Bool), s.onlyChanges screenBlocks a.1 →
      s.onlyChanges screenBlocks
        (hs.foldl (fun a h => let r := a.1.scanEntry h; (r.1, a.2 || r.2)) a).1 from
    h _ (s, false) (onlyChanges_refl _ s)
  intro hs
  induction hs with
  | nil => exact fun a h => h
  | cons x xs ih => exact fun a h => ih _ (h.trans (scanEntry_only _ x))

theorem reexamineFrom_only (n : Nat) (s : State) : s.onlyChanges screenBlocks (reexamineFrom n s) := by
  induction n generalizing s with
  | zero => exact onlyChanges_refl _ s
  | succ n ih =>
    unfold reexamineFrom
    split
    · exact (scan_only s).trans (ih _)
    · exact scan_only s

theorem reexamine_only (s : State) : s.onlyChanges screenBlocks s.reexamine := reexamineFrom_only _ s

theorem supersedeHeld_only (s : State) (i : Nat) : s.onlyChanges [.screen, .out] (s.supersedeHeld i) := by
  unfold supersedeHeld
  split
  · exact (dropHeld_only s i).andThen (syntheticAck_only _ _ _ _ _ _)
  · exact onlyChanges_refl _ s

theorem holdOrder_only (s : State) (i : Nat) (o : Order) (r : HoldReason) : s.onlyChanges screenBlocks (s.holdOrder i o r) := by
  unfold holdOrder
  dsimp only
  split
  · exact ((only_screen s _).andThen (syntheticAck_only _ _ _ _ _ _)).mono (by decide)
  · exact (refuseOrder_only s i o _).mono (by decide)

theorem screenOrder_only (s : State) (i : Nat) (o : Order) : s.onlyChanges screenBlocks (s.screenOrder i o) := by
  unfold screenOrder
  split
  · exact (refuseOrder_only s i o _).mono (by decide)
  · exact ((adviseClamp_only s i o).andThen (holdOrder_only _ i _ _)).mono (by decide)
  · exact ((adviseClamp_only s i o).andThen (forwardOrder_only _ i _)).mono (by decide)

theorem takeOrder_only (s : State) (i : Nat) (t : Telegram) : s.onlyChanges screenBlocks (s.takeOrder i t) := by
  unfold takeOrder
  split
  · exact (advise_only s _ i).mono (by decide)
  · have h := fun o => ((supersedeHeld_only s i).andThen (screenOrder_only _ i o)).mono (m := screenBlocks) (by decide)
    dsimp only
    split
    · exact (h _).trans (reexamine_only _)
    · exact h _

theorem holdExpired_only (s : State) (i : Nat) : s.onlyChanges screenBlocks (s.holdExpired i) := by
  unfold holdExpired
  split
  · exact (((dropHeld_only s i).andThen (refuseOrder_only _ i _ _)).andThen (reexamine_only _)).mono (by decide)
  · exact onlyChanges_refl _ s

theorem startLimitExpired_only (s : State) : s.onlyChanges screenBlocks s.startLimitExpired := by
  unfold startLimitExpired
  split
  · exact (((freeSlot_only s).andThen (raiseFault_keeps_mode _ _ fun _ => rfl)).andThen (reexamine_only _)).mono (by decide)
  · exact onlyChanges_refl _ s

theorem setDry_only (s : State) (l : Nat) (t : Option Nat) (b : Bool) : s.onlyChanges [.screen] (s.setDry l t b) := only_screen s _

theorem judgeDry_only (s : State) (l : Nat) : s.onlyChanges [.screen] (s.judgeDry l) := by
  unfold judgeDry
  split
  · split
    · exact onlyChanges_refl _ s
    · exact setDry_only s l _ _
  · exact setDry_only s l _ _

theorem judgeDryRuns_only (s : State) : s.onlyChanges [.screen] s.judgeDryRuns :=
  onlyChanges_forEach _ _ (fun l s => judgeDry_only s l) s

theorem dryTrip_only (s : State) (l : Nat) : s.onlyChanges screenBlocks (s.dryTrip l) := by
  have h : s.onlyChanges [.out, .faults]
      ((((s.modPort .field fun p => { p with seq := p.seq + 1 }).send .field
        (s.orderTelegram l s.bank.ownAddress s.partStop)).1).raiseFault .dryRunTrip l) :=
    (((modPort_only s _ _).andThen (send_only _ _ _)).andThen (raiseFault_keeps_mode _ l fun _ => rfl)).mono (by decide)
  unfold dryTrip
  dsimp only
  split
  · split
    · exact ((((h.andThen (orderOffered_only _ l _ _)).andThen (supersedeHeld_only _ l)).andThen (setDry_only _ l _ _)).andThen
        (reexamine_only _)).mono (by decide)
    · exact (((h.andThen (orderOffered_only _ l _ _)).andThen (supersedeHeld_only _ l)).andThen (setDry_only _ l _ _)).mono
        (by decide)
  · exact (h.andThen (setDry_only _ l _ _)).mono (by decide)

theorem withdrawHeld_only (s : State) (old : Nat → Option Byte) : s.onlyChanges [.screen, .out] (s.withdrawHeld old) := by
  unfold withdrawHeld
  refine onlyChanges_foldl _ _ (fun s h => ?_) s
  split
  · exact onlyChanges_refl _ s
  · exact (dropHeld_only s _).andThen (syntheticAck_only _ _ _ _ _ _)

theorem restartDryRuns_only (s : State) : s.onlyChanges [.screen] s.restartDryRuns :=
  (only_screen s _).trans (judgeDryRuns_only _)

/-! ### Station table -/

theorem recordState_only (s : State) (i : Nat) (x : LastState) : s.onlyChanges [.stations] (s.recordState i x) :=
  modStation_only s i _

theorem statePresence_only (s : State) (i : Nat) : s.onlyChanges [.stations, .faults, .out] (s.statePresence i) := by
  unfold statePresence
  dsimp only
  split
  · exact onlyChanges_refl _ s
  · exact (modStation_only s i _).andThen (clearFault_only _ _ i)
  · exact (modStation_only s i _).mono (by decide)
  · exact (modStation_only s i _).mono (by decide)

theorem judgeTripped_only (s : State) (i : Nat) : s.onlyChanges [.faults, .out] (s.judgeTripped i) := by
  unfold judgeTripped
  split
  · exact raiseFault_keeps_mode s i fun _ => rfl
  · exact clearFault_only s _ i
  · exact clearFault_only s _ i
  · exact onlyChanges_refl _ s

theorem judgeSlot_only (s : State) (i : Nat) : s.onlyChanges [.screen, .faults, .out] (s.judgeSlot i) := by
  unfold judgeSlot
  split
  · exact (freeSlotOf_only s i).andThen (clearFault_only _ _ i)
  · exact (freeSlotOf_only s i).mono (by decide)
  · exact onlyChanges_refl _ s

theorem takeState_only (s : State) (i : Nat) (p : List Byte) : s.onlyChanges screenBlocks (s.takeState i p) := by
  unfold takeState
  split
  · exact ((modStation_only s i _).andThen (advise_only _ _ i)).mono (by decide)
  · exact ((((((recordState_only s i _).andThen (statePresence_only _ i)).andThen (judgeTripped_only _ i)).andThen
      (judgeSlot_only _ i)).andThen (judgeDryRuns_only _)).andThen (reexamine_only _)).mono (by decide)

theorem takeAck_only (s : State) (i : Nat) (p : List Byte) : s.onlyChanges screenBlocks (s.takeAck i p) := by
  unfold takeAck
  split
  · exact (((closeOutstanding_only s i _ _).andThen (clearFault_only _ _ i)).andThen (reexamine_only _)).mono (by decide)
  · exact ((modStation_only s i _).andThen (advise_only _ _ i)).mono (by decide)

theorem ackTimedOut_only (s : State) (i : Nat) : s.onlyChanges screenBlocks (s.ackTimedOut i) := by
  unfold ackTimedOut
  split
  · exact (((((closeOutstanding_only s i _ _).andThen (modStation_only _ i _)).andThen
      (raiseFault_keeps_mode _ i fun _ => rfl)).andThen (answerOutstanding_only _ _ _ _)).andThen (reexamine_only _)).mono
      (by decide)
  · exact onlyChanges_refl _ s

theorem presenceTimedOut_only (s : State) (i : Nat) : s.onlyChanges screenBlocks (s.presenceTimedOut i) :=
  ((((modStation_only s i _).andThen (raiseFault_keeps_mode _ i fun _ => rfl)).andThen (judgeDryRuns_only _)).andThen
    (reexamine_only _)).mono (by decide)

theorem serviceOut_only (s : State) (i : Nat) : s.onlyChanges screenBlocks (s.serviceOut i) := by
  have h := modStation_only s i (fun r => { r with presence := .outOfService, presenceAt := none })
  have k := ((h.andThen (judgeDryRuns_only _)).andThen (reexamine_only _)).mono (m := screenBlocks) (by decide)
  unfold serviceOut
  dsimp only
  split
  · exact onlyChanges_refl _ s
  · exact (((h.andThen (clearFault_only _ _ i)).andThen (judgeDryRuns_only _)).andThen (reexamine_only _)).mono (by decide)
  · exact k
  · exact k

theorem serviceIn_only (s : State) (i : Nat) : s.onlyChanges screenBlocks (s.serviceIn i) := by
  unfold serviceIn
  dsimp only
  split
  · exact (((modStation_only s i _).andThen (judgeDryRuns_only _)).andThen (reexamine_only _)).mono (by decide)
  · exact onlyChanges_refl _ s

theorem bindStations_only (s : State) : s.onlyChanges [.stations] s.bindStations :=
  onlyChanges_forEach _ _ (fun i s => modStation_only s i _) s

theorem startPresenceTimers_only (s : State) : s.onlyChanges [.stations] s.startPresenceTimers :=
  onlyChanges_forEach _ _ (fun i s => modStation_only s i _) s

theorem withdrawOutstanding_only (s : State) (i : Nat) : s.onlyChanges [.stations, .screen, .out] (s.withdrawOutstanding i) := by
  unfold withdrawOutstanding
  split
  · exact ((closeOutstanding_only s i _ _).andThen (answerOutstanding_only _ _ _ _)).mono (by decide)
  · exact onlyChanges_refl _ s

theorem rebindStation_only (s : State) (bs : List (Nat × Byte)) (i : Nat) : s.onlyChanges screenBlocks (s.rebindStation bs i) := by
  unfold rebindStation
  dsimp only
  split
  · exact onlyChanges_refl _ s
  · split
    · exact (modStation_only s i _).mono (by decide)
    · exact (((((withdrawOutstanding_only s i).andThen (clearFault_only _ _ i)).andThen (clearFault_only _ _ i)).andThen
        (clearFault_only _ _ i)).andThen (modStation_only _ i _)).mono (by decide)

theorem rebindStations_only (s : State) : s.onlyChanges screenBlocks s.rebindStations := by
  have k : ∀ bs, s.onlyChanges screenBlocks (forEach stationIndices (fun i s => s.rebindStation bs i) s) := fun bs =>
    onlyChanges_forEach _ _ (fun i s => rebindStation_only s bs i) s
  unfold rebindStations
  extract_lets bs old
  exact ((k bs).andThen (withdrawHeld_only _ old)).mono (by decide)

/-! ### Condition engine -/

theorem tellMode_only (s : State) : s.onlyChanges [.shore, .screen, .stations, .out, .faults] s.tellMode :=
  ((sendBeacon_only s).andThen (reexamine_only _)).mono (by decide)

theorem tellModeIf_only (s : State) (m : Mode) : s.onlyChanges [.shore, .screen, .stations, .out, .faults] (s.tellModeIf m) :=
  onlyChanges_ite (onlyChanges_refl _ s) (tellMode_only s)

/-- What the blocks' reactions to a new ship bank can change (R2, R31, R116, R152, R184). -/
abbrev reactBlocks : List Block := [.tanks, .shore, .screen, .stations, .out, .faults]

theorem reactToShip_only (s : State) (o : ShipBank) : s.onlyChanges reactBlocks (s.reactToShip o) :=
  (((((switchTanks_only s o).andThen (switchHolds_only _)).andThen (rebindStations_only _)).andThen
    (restartDryRuns_only _)).andThen (judgeAlarm_only _)).mono (by decide)

theorem switchedShip_only (s : State) : s.onlyChanges [.ship, .store] s.switchedShip := by
  intro b hb; cases b <;> simp_all [agree, switchedShip]

theorem switchShip_only (s : State) : s.onlyChanges ([.ship, .store] ++ reactBlocks) s.switchShip :=
  (((switchedShip_only s).andThen (clearTableFaults_only _)).andThen (reactToShip_only _ _)).mono (by decide)

theorem switchedPlan_only (s : State) : s.onlyChanges [.plan] s.switchedPlan := only_plan s _

theorem switchPlan_only (s : State) : s.onlyChanges ([.plan] ++ pacingBlocks) s.switchPlan := by
  unfold switchPlan
  split
  · exact (((switchedPlan_only s).andThen (relatchReports_only _)).andThen (rebase_only _)).mono (by decide)
  · exact (switchedPlan_only s).mono (by decide)

/-- What an evaluation start can change (R37, R193). -/
abbrev startBlocks : List Block :=
  [.ship, .plan, .store, .tanks, .shore, .engine, .tracker, .pacing, .stations, .screen, .reports, .out, .faults]

theorem switchSealed_only (s : State) : s.onlyChanges startBlocks s.switchSealed := by
  have h : s.onlyChanges startBlocks (if s.mgmt.ship.isSealed then s.switchShip else s) :=
    onlyChanges_ite ((switchShip_only s).mono (by decide)) (onlyChanges_refl _ s)
  unfold switchSealed
  extract_lets a
  split
  · exact (h.andThen (switchPlan_only _)).mono (by decide)
  · exact h

theorem beginEvaluation_only (s : State) : s.onlyChanges startBlocks s.beginEvaluation := by
  have h : s.onlyChanges startBlocks (s.engineStarts.switchSealed.growUncertainty).engineSnapshots :=
    ((((only_engine s _).andThen (switchSealed_only _)).andThen (growUncertainty_only _)).andThen (only_engine _ _)).mono
      (by decide)
  unfold beginEvaluation
  dsimp only
  split
  · exact (h.andThen (reexamine_only _)).mono (by decide)
  · exact h

theorem requestEvaluation_only (s : State) : s.onlyChanges startBlocks s.requestEvaluation := by
  unfold requestEvaluation
  split
  · exact onlyChanges_refl _ s
  · split
    · exact (only_engine s _).mono (by decide)
    · exact beginEvaluation_only s

theorem takeDraft_only (s : State) (p : List Byte) : s.onlyChanges [.engine] (s.takeDraft p) := only_engine s _

/-! ### Modes and management -/

theorem setWeight_only (s : State) (w : Nat) (m : Int) : s.onlyChanges [.engine] (s.setWeight w m) := only_engine s _

theorem toggleAlarm_only (s : State) : s.onlyChanges [.faults] s.toggleAlarm := only_faults s _

theorem conditionExpired_only (s : State) : s.onlyChanges [.out, .reports] s.conditionExpired := by
  unfold conditionExpired
  extract_lets r a
  have h : s.onlyChanges [.out, .reports] a :=
    onlyChanges_ite (makeCondition_only s) ((advise_only s _ _).mono (by decide))
  exact (h.andThen (only_reports _ _)).mono (by decide)

theorem confirmExpired_only (s : State) (l : Nat) : s.onlyChanges [.pacing, .faults, .out] (s.confirmExpired l) :=
  (modPause_only s l _).andThen (raiseFault_keeps_mode _ l fun _ => rfl)

theorem intervalExpired_only (s : State) : s.onlyChanges startBlocks s.intervalExpired :=
  ((requestEvaluation_only s).andThen (only_engine _ _)).mono (by decide)

theorem acknowledge_only (s : State) (k : FaultKind) (x : Nat) : s.onlyChanges [.faults, .out] (s.acknowledge k x).1 := by
  unfold acknowledge
  split
  · exact onlyChanges_refl _ s
  · exact withFaults_only s _ k x _ _

theorem sendReply_only (s : State) (src seq code : Byte) (st re : Nat) (res : List Byte) :
    s.onlyChanges [.out] (s.sendReply src seq code st re res) :=
  onlyChanges_foldl _ _ (fun s _ => send_only s _ _) s

theorem sendResetReply_only (s : State) (src seq code : Byte) : s.onlyChanges [.out] (s.sendResetReply src seq code) := by
  unfold sendResetReply
  dsimp only
  split
  · exact (only_out s _).trans (offer_only _ _ _)
  · exact send_only s _ _

/-- Answering changes no more than the request itself and the output queue. -/
theorem answer_only (s : State) (r : Served) (src seq code : Byte) {l : List Block} (h : s.onlyChanges l r.1) :
    s.onlyChanges (l ++ [.out]) (answer r src seq code) := by
  unfold answer
  split
  · exact h.andThen (sendReply_only _ _ _ _ _ _ _)
  · exact h.andThen (sendReply_only _ _ _ _ _ _ _)
  · exact h.andThen (sendResetReply_only _ _ _ _)
  · exact h.mono (by simp_all)

/-! ### Passage -/

theorem applyAction_only (s : State) (a : Action) (p q : Port) (t : Telegram) : s.onlyChanges [.out] (s.applyAction a p q t) := by
  unfold applyAction
  split
  · exact send_only s _ _
  · exact modPort_only s _ _
  · exact modPort_only s _ _

theorem countAccepted_only (s : State) (p : Port) : s.onlyChanges [.out] (s.countAccepted p) := modPort_only s p _
theorem countMisdirected_only (s : State) (p : Port) : s.onlyChanges [.out] (s.countMisdirected p) := modPort_only s p _
theorem discardForeign_only (s : State) (p : Port) : s.onlyChanges [.out] (s.discardForeign p) :=
  (modPort_only s p _).trans (advise_only _ _ _)
theorem discardBad_only (s : State) (p : Port) : s.onlyChanges [.out] (s.discardBad p) :=
  (modPort_only s p _).trans (advise_only _ _ _)

theorem onwardField_only (s : State) (t : Telegram) (i : Inspected) : s.onlyChanges [.out] (s.onwardField t i) := by
  unfold onwardField
  split
  · exact onlyChanges_refl _ s
  · split
    · exact onlyChanges_ite (countMisdirected_only s _) (onlyChanges_refl _ s)
    · exact onlyChanges_ite (onlyChanges_refl _ s) (applyAction_only s _ _ _ _)

theorem endTransmission_only (s : State) (p : Port) : s.onlyChanges [.out] (s.endTransmission p) := by
  unfold endTransmission
  split
  · exact onlyChanges_refl _ s
  · exact only_out s _

end State

end Sys2Proof.Machine
end

