-- ==== Sys2Proof/Laws/Memory.lean ====
section
/-! SUPPORT. The laws of the table images: every operation keeps the canonical form, a byte read after a
write is the byte written, and a write leaves every other offset alone. -/

namespace Sys2Proof.Machine

/-- A canonical image from a bound on is canonical from a lower one. -/
theorem Memory.wfFrom_mono {m : Memory} {lo hi : Nat} (h : Memory.wfFrom hi m = true) (hle : lo ≤ hi) :
    Memory.wfFrom lo m = true := by
  cases m with
  | nil => rfl
  | cons p m =>
    obtain ⟨a, b⟩ := p
    simp only [Memory.wfFrom, Bool.and_eq_true, decide_eq_true_eq] at h ⊢
    exact ⟨⟨by omega, h.1.2⟩, h.2⟩

/-- A write keeps the canonical form. -/
theorem Memory.wfFrom_write {m : Memory} {lo x : Nat} {v : Byte} (h : Memory.wfFrom lo m = true) (hx : lo ≤ x) :
    Memory.wfFrom lo (m.write x v) = true := by
  induction m generalizing lo with
  | nil =>
    unfold Memory.write
    split
    · rfl
    · simp_all [Memory.wfFrom]
  | cons p m ih =>
    obtain ⟨a, b⟩ := p
    simp only [Memory.wfFrom, Bool.and_eq_true, decide_eq_true_eq] at h
    obtain ⟨⟨hla, hb⟩, hm⟩ := h
    unfold Memory.write
    split
    · split
      · simp [Memory.wfFrom, hla, hb, hm]
      · rename_i h1 h2
        have ha : x + 1 ≤ a := by omega
        simp [Memory.wfFrom, hx, ha, h2, hb, hm]
    · split
      · split
        · exact Memory.wfFrom_mono hm (by omega)
        · rename_i h1 h2 h3
          subst h2
          simp [Memory.wfFrom, hx, h3, hm]
      · simp only [Memory.wfFrom, hla, hb, decide_true, Bool.true_and]
        exact ih hm (by omega)

/-- A write keeps the canonical form of an image. -/
theorem Memory.wf_write {m : Memory} (x : Nat) (v : Byte) (h : m.wf = true) : (m.write x v).wf = true :=
  Memory.wfFrom_write h (Nat.zero_le x)

/-- Consecutive writes keep the canonical form. -/
theorem Memory.wf_writeBytes {m : Memory} (x : Nat) (bs : List Byte) (h : m.wf = true) : (m.writeBytes x bs).wf = true := by
  induction bs generalizing m x with
  | nil => exact h
  | cons b bs ih => exact ih (x + 1) (Memory.wf_write x b h)

/-- Below its lowest listed offset an image reads as unlisted. -/
theorem Memory.read_below {m : Memory} {lo x : Nat} (h : Memory.wfFrom lo m = true) (hx : x < lo) :
    m.read x = Memory.unlisted := by
  cases m with
  | nil => rfl
  | cons p m =>
    obtain ⟨a, b⟩ := p
    simp only [Memory.wfFrom, Bool.and_eq_true, decide_eq_true_eq] at h
    have : x < a := by omega
    simp [Memory.read, this]

/-- The byte read after a write at the same offset. -/
theorem Memory.read_write_same {m : Memory} {lo : Nat} (x : Nat) (v : Byte) (h : Memory.wfFrom lo m = true) :
    (m.write x v).read x = v := by
  induction m generalizing lo with
  | nil =>
    unfold Memory.write
    split
    · simp_all [Memory.read]
    · simp [Memory.read]
  | cons p m ih =>
    obtain ⟨a, b⟩ := p
    simp only [Memory.wfFrom, Bool.and_eq_true, decide_eq_true_eq] at h
    obtain ⟨_, hm⟩ := h
    unfold Memory.write
    split
    · rename_i hlt
      split
      · simp_all [Memory.read]
      · simp [Memory.read]
    · split
      · rename_i hge heq
        split
        · rename_i hv
          rw [hv]
          exact Memory.read_below hm (by omega)
        · simp [Memory.read]
      · rename_i hge hne
        simp only [Memory.read, if_neg hge, if_neg hne]
        exact ih hm

/-- A write leaves every other offset alone. -/
theorem Memory.read_write_other {m : Memory} {lo : Nat} (x y : Nat) (v : Byte) (h : Memory.wfFrom lo m = true)
    (hy : y ≠ x) : (m.write x v).read y = m.read y := by
  induction m generalizing lo with
  | nil =>
    unfold Memory.write
    split
    · rfl
    · simp only [Memory.read]
      split
      · rfl
      · simp
  | cons p m ih =>
    obtain ⟨a, b⟩ := p
    simp only [Memory.wfFrom, Bool.and_eq_true, decide_eq_true_eq] at h
    obtain ⟨_, hm⟩ := h
    unfold Memory.write
    split
    · rename_i hlt
      split
      · rfl
      · simp only [Memory.read]
        by_cases h1 : y < x
        · have h2 : y < a := by omega
          simp [h1, h2]
        · simp [h1, hy]
    · split
      · rename_i hge heq
        subst heq
        split
        · simp only [Memory.read]
          by_cases h1 : y < x
          · simp only [if_pos h1]
            exact Memory.read_below hm (by omega)
          · simp [h1, hy]
        · simp [Memory.read, hy]
      · rename_i hge hne
        simp only [Memory.read]
        split
        · rfl
        · split
          · rfl
          · exact ih hm

/-- The bytes read back after consecutive writes leave the offsets before and after them alone. -/
theorem Memory.read_writeBytes_other {m : Memory} (x : Nat) (bs : List Byte) (y : Nat) (h : m.wf = true)
    (hy : y < x ∨ x + bs.length ≤ y) : (m.writeBytes x bs).read y = m.read y := by
  induction bs generalizing m x with
  | nil => rfl
  | cons b bs ih =>
    simp only [List.length_cons] at hy
    simp only [Memory.writeBytes]
    rw [ih (x + 1) (Memory.wf_write x b h) (by omega)]
    exact Memory.read_write_other x y b h (by omega)

/-- The bytes read back after consecutive writes. -/
theorem Memory.read_writeBytes_same {m : Memory} (x : Nat) (bs : List Byte) (k : Nat) (h : m.wf = true)
    (hk : k < bs.length) : (m.writeBytes x bs).read (x + k) = bs[k] := by
  induction bs generalizing m x k with
  | nil => simp at hk
  | cons b bs ih =>
    simp only [Memory.writeBytes]
    cases k with
    | zero =>
      rw [Memory.read_writeBytes_other (x + 1) bs (x + 0) (Memory.wf_write x b h) (by omega)]
      exact Memory.read_write_same x b h
    | succ k =>
      simp only [List.length_cons] at hk
      have := ih (x + 1) k (Memory.wf_write x b h) (by omega)
      rw [show x + (k + 1) = x + 1 + k by omega]
      simpa using this

/-- A list of bytes placed from an offset up, those that read as unlisted left out, is canonical. -/
theorem Memory.wfFrom_place (bs : List Byte) (lo : Nat) :
    Memory.wfFrom lo ((bs.zipIdx lo).filterMap fun p => if p.1 = Memory.unlisted then none else some (p.2, p.1)) = true := by
  induction bs generalizing lo with
  | nil => rfl
  | cons b bs ih =>
    simp only [List.zipIdx_cons, List.filterMap_cons]
    split
    · exact Memory.wfFrom_mono (ih (lo + 1)) (by omega)
    · rename_i heq
      split at heq
      · cases heq
      · rename_i hb
        cases heq
        simp [Memory.wfFrom, hb, ih (lo + 1)]

/-- The image that holds a list of bytes is canonical. -/
theorem Memory.wf_ofBytes (bs : List Byte) : (Memory.ofBytes bs).wf = true := Memory.wfFrom_place bs 0

/-! ### Banks -/

/-- The default ship group's images are canonical. -/
theorem ShipBank.canonical_default : ShipBank.default.canonical = true := by
  simp only [ShipBank.canonical, TableCode.shipTables, List.all_cons, List.all_nil, ShipBank.get, ShipBank.default,
    tableOfBytes, Memory.wf_ofBytes, Bool.and_self]

/-- The images of a store that was never written are canonical. -/
theorem ShipBank.canonical_blank : ShipBank.blank.canonical = true := rfl

/-- The emptied plan's images are canonical. -/
theorem PlanBank.canonical_empty : PlanBank.empty.canonical = true := by
  simp only [PlanBank.canonical, PlanBank.empty, tableOfBytes, Memory.wf_ofBytes, Bool.and_self]

/-- The state after a reset is canonical if the ship store is. -/
theorem State.canonical_afterReset {st : ShipStore} (h : st.bank.canonical = true) (c : ResetCause) (q : List Instr) :
    (State.afterReset c st q).canonical = true := by
  simp [State.canonical, State.afterReset, Mgmt.resetWith, Group.resetShip, Group.resetPlan, Engine.reset,
    ShipBank.canonical_default, PlanBank.canonical_empty, h]

/-- The canonical form of the state right after power-on. -/
theorem State.canonical_reset : State.reset.canonical = true :=
  State.canonical_afterReset ShipBank.canonical_blank _ _

end Sys2Proof.Machine
end

