-- ==== Sys2Proof/Laws/Receive.lean ====
section
/-! SUPPORT. How a command reaches its meaning: a part that is ready acts at once, a due timer's expiry has
its effect, a telegram of the right kind is dispatched to its block, a request is carried out. -/

namespace Sys2Proof.Machine

/-- Within its range a figure of a reply is its signed 4-byte field. -/
theorem encFigure_of_range {x : Int} (h : -2147483648 ≤ x ∧ x ≤ 2147483647) : encFigure x = encS4 x := if_pos h

/-- A figure of a reply takes four bytes. -/
@[simp] theorem encFigure_length (x : Int) : (encFigure x).length = 4 := by
  unfold encFigure
  split <;> rfl

/-- A ready part acts on the command alone. -/
theorem act_ready {s : State} (f : State → State) (h : s.ready) : act f s = f s := by
  simp [act, h.1, State.performDue, h.2]

/-- A timer that is due has its effect. -/
theorem onDue_due {s : State} {due : State → Bool} (f : State → State) (h : due s = true) : onDue due f s = f s := by
  simp [onDue, h]

/-- A timer that is not due changes nothing. -/
theorem onDue_not_due {s : State} {due : State → Bool} (f : State → State) (h : due s = false) : onDue due f s = s := by
  simp [onDue, h]

namespace State

/-- A working mode is not BYPASS. -/
theorem not_bypass_of_working {s : State} (h : s.working = true) : s.sys.mode ≠ .bypass := by
  intro hb; simp [working, hb, Mode.working] at h

/-- A working mode is not UNCONFIGURED. -/
theorem not_unconfigured_of_working {s : State} (h : s.working = true) : s.unconfigured = false := by
  unfold unconfigured
  cases hm : s.sys.mode <;> simp_all [working, Mode.working]

@[simp] theorem countAccepted_bank (s : State) (p : Port) : (s.countAccepted p).bank = s.bank := rfl
@[simp] theorem countAccepted_sys (s : State) (p : Port) : (s.countAccepted p).sys = s.sys := rfl
@[simp] theorem countAccepted_working (s : State) (p : Port) : (s.countAccepted p).working = s.working := rfl
@[simp] theorem countAccepted_clock (s : State) (p : Port) : (s.countAccepted p).clock = s.clock := rfl
@[simp] theorem countAccepted_tanks (s : State) (p : Port) : (s.countAccepted p).tanks = s.tanks := rfl
@[simp] theorem countAccepted_mgmt (s : State) (p : Port) : (s.countAccepted p).mgmt = s.mgmt := rfl
@[simp] theorem countAccepted_engine (s : State) (p : Port) : (s.countAccepted p).engine = s.engine := rfl
@[simp] theorem countAccepted_shore (s : State) (p : Port) : (s.countAccepted p).shore = s.shore := rfl
@[simp] theorem countAccepted_stations (s : State) (p : Port) : (s.countAccepted p).stations = s.stations := rfl
@[simp] theorem countAccepted_screen (s : State) (p : Port) : (s.countAccepted p).screen = s.screen := rfl
@[simp] theorem countAccepted_faults (s : State) (p : Port) : (s.countAccepted p).faults = s.faults := rfl
@[simp] theorem countAccepted_pacing (s : State) (p : Port) : (s.countAccepted p).pacing = s.pacing := rfl
@[simp] theorem countAccepted_tracker (s : State) (p : Port) : (s.countAccepted p).tracker = s.tracker := rfl
@[simp] theorem countAccepted_reports (s : State) (p : Port) : (s.countAccepted p).reports = s.reports := rfl
@[simp] theorem countAccepted_pending (s : State) (p : Port) : (s.countAccepted p).pending = s.pending := rfl

/-- A telegram of an inspected kind from another node on the field port is dispatched (R99, R100, R102). -/
theorem receive_field {s : State} {t : Telegram} (h : s.working = true) (ha : t.acceptable = true)
    (hs : t.src ≠ s.bank.ownAddress) (ho : t.kind ≠ kindOrder) (hm : t.kind ≠ kindMgmt) :
    s.receive .field t = (s.countAccepted .field).dispatchField t := by
  have hf : (s.countAccepted .field).foreign .field t = false := by simp [foreign, hs, ho, hm]
  simp [receive, dispatch, not_bypass_of_working h, ha, hf, h]

/-- A telegram from another node on the shore port is dispatched (R99, R100, R105). -/
theorem receive_shore {s : State} {t : Telegram} (h : s.working = true) (ha : t.acceptable = true)
    (hs : t.src ≠ s.bank.ownAddress) : s.receive .shore t = (s.countAccepted .shore).dispatchShore t := by
  have hf : (s.countAccepted .shore).foreign .shore t = false := by simp [foreign, hs]
  simp [receive, dispatch, not_bypass_of_working h, ha, hf, h]

/-- An ORDER of a console is dispatched (R99, R100, R103). -/
theorem receive_order {s : State} {t : Telegram} (h : s.working = true) (ha : t.acceptable = true)
    (hs : t.src ≠ s.bank.ownAddress) (hk : t.kind = kindOrder) (hr : s.bank.role t.src = .console)
    (hd : t.dst ≠ s.bank.ownAddress) : s.receive .console t = (s.countAccepted .console).dispatchOrder t := by
  have hf : (s.countAccepted .console).foreign .console t = false := by simp [foreign, hs, hr]
  simp [receive, dispatch, not_bypass_of_working h, ha, hf, h, dispatchConsole, hd, hk]

/-- A request of a manager is carried out and answered (R185). -/
theorem request_taken {s : State} {src seq code : Byte} {args : List Byte} (h : s.inCircuit) (hm : s.manager src)
    (hl : args.length ≤ 55) :
    s.request src seq code args = (s.countAccepted .console).takeRequest src seq code args := by
  obtain ⟨⟨h0, h255, hown⟩, ho, hr⟩ := hm
  have ha : ∀ t : Telegram, t = { dst := s.bank.ownAddress, src := src, kind := kindMgmt, seq := seq, payload := code :: args } →
      t.acceptable = true := by
    rintro t rfl
    have hk : kindLengthOk kindMgmt (code :: args) = true := by
      simp [kindLengthOk, kindMgmt, kindSounding, kindDraft, kindState, kindAck, kindOrder]; omega
    have hlen : (code :: args).length ≤ 56 := by simp; omega
    simp only [Telegram.acceptable, hk, hlen, decide_true, Bool.and_true, Bool.true_and, Bool.and_eq_true, bne_iff_ne]
    exact ⟨⟨h0, h255⟩, ho⟩
  unfold request receive
  rw [if_neg h.2, if_pos (ha _ rfl)]
  unfold dispatch
  have hf : (s.countAccepted .console).foreign .console
      { dst := s.bank.ownAddress, src := src, kind := kindMgmt, seq := seq, payload := code :: args } = false := by
    cases hw : s.working <;> simp [foreign, hown, hw]
    simp [hr hw]
  rw [hf]
  cases hw : s.working <;> simp [hw, dispatchConsole, dispatchDefault, byteAt]

end State

end Sys2Proof.Machine
end

