-- ==== Sys2Proof/Laws/State.lean ====
section
/-! SUPPORT. One lemma per field for each of the state's updaters, each true by definition. -/

namespace Sys2Proof.Machine

/-! ### State.modTank -/

@[simp] theorem State.modTank_pending (s : State) (t : Nat) (f : TankRec → TankRec) : (s.modTank t f).pending = s.pending := rfl
@[simp] theorem State.modTank_sys (s : State) (t : Nat) (f : TankRec → TankRec) : (s.modTank t f).sys = s.sys := rfl
@[simp] theorem State.modTank_clock (s : State) (t : Nat) (f : TankRec → TankRec) : (s.modTank t f).clock = s.clock := rfl
@[simp] theorem State.modTank_out (s : State) (t : Nat) (f : TankRec → TankRec) : (s.modTank t f).out = s.out := rfl
@[simp] theorem State.modTank_faults (s : State) (t : Nat) (f : TankRec → TankRec) : (s.modTank t f).faults = s.faults := rfl
@[simp] theorem State.modTank_mgmt (s : State) (t : Nat) (f : TankRec → TankRec) : (s.modTank t f).mgmt = s.mgmt := rfl
@[simp] theorem State.modTank_tanks (s : State) (t : Nat) (f : TankRec → TankRec) : (s.modTank t f).tanks = upd s.tanks t f := rfl
@[simp] theorem State.modTank_shore (s : State) (t : Nat) (f : TankRec → TankRec) : (s.modTank t f).shore = s.shore := rfl
@[simp] theorem State.modTank_engine (s : State) (t : Nat) (f : TankRec → TankRec) : (s.modTank t f).engine = s.engine := rfl
@[simp] theorem State.modTank_tracker (s : State) (t : Nat) (f : TankRec → TankRec) : (s.modTank t f).tracker = s.tracker := rfl
@[simp] theorem State.modTank_pacing (s : State) (t : Nat) (f : TankRec → TankRec) : (s.modTank t f).pacing = s.pacing := rfl
@[simp] theorem State.modTank_stations (s : State) (t : Nat) (f : TankRec → TankRec) : (s.modTank t f).stations = s.stations := rfl
@[simp] theorem State.modTank_screen (s : State) (t : Nat) (f : TankRec → TankRec) : (s.modTank t f).screen = s.screen := rfl
@[simp] theorem State.modTank_reports (s : State) (t : Nat) (f : TankRec → TankRec) : (s.modTank t f).reports = s.reports := rfl

/-! ### State.modStation -/

@[simp] theorem State.modStation_pending (s : State) (i : Nat) (f : StationRec → StationRec) : (s.modStation i f).pending = s.pending := rfl
@[simp] theorem State.modStation_sys (s : State) (i : Nat) (f : StationRec → StationRec) : (s.modStation i f).sys = s.sys := rfl
@[simp] theorem State.modStation_clock (s : State) (i : Nat) (f : StationRec → StationRec) : (s.modStation i f).clock = s.clock := rfl
@[simp] theorem State.modStation_out (s : State) (i : Nat) (f : StationRec → StationRec) : (s.modStation i f).out = s.out := rfl
@[simp] theorem State.modStation_faults (s : State) (i : Nat) (f : StationRec → StationRec) : (s.modStation i f).faults = s.faults := rfl
@[simp] theorem State.modStation_mgmt (s : State) (i : Nat) (f : StationRec → StationRec) : (s.modStation i f).mgmt = s.mgmt := rfl
@[simp] theorem State.modStation_tanks (s : State) (i : Nat) (f : StationRec → StationRec) : (s.modStation i f).tanks = s.tanks := rfl
@[simp] theorem State.modStation_shore (s : State) (i : Nat) (f : StationRec → StationRec) : (s.modStation i f).shore = s.shore := rfl
@[simp] theorem State.modStation_engine (s : State) (i : Nat) (f : StationRec → StationRec) : (s.modStation i f).engine = s.engine := rfl
@[simp] theorem State.modStation_tracker (s : State) (i : Nat) (f : StationRec → StationRec) : (s.modStation i f).tracker = s.tracker := rfl
@[simp] theorem State.modStation_pacing (s : State) (i : Nat) (f : StationRec → StationRec) : (s.modStation i f).pacing = s.pacing := rfl
@[simp] theorem State.modStation_stations (s : State) (i : Nat) (f : StationRec → StationRec) : (s.modStation i f).stations = upd s.stations i f := rfl
@[simp] theorem State.modStation_screen (s : State) (i : Nat) (f : StationRec → StationRec) : (s.modStation i f).screen = s.screen := rfl
@[simp] theorem State.modStation_reports (s : State) (i : Nat) (f : StationRec → StationRec) : (s.modStation i f).reports = s.reports := rfl

/-! ### State.modLoader -/

@[simp] theorem State.modLoader_pending (s : State) (l : Nat) (f : LoaderRec → LoaderRec) : (s.modLoader l f).pending = s.pending := rfl
@[simp] theorem State.modLoader_sys (s : State) (l : Nat) (f : LoaderRec → LoaderRec) : (s.modLoader l f).sys = s.sys := rfl
@[simp] theorem State.modLoader_clock (s : State) (l : Nat) (f : LoaderRec → LoaderRec) : (s.modLoader l f).clock = s.clock := rfl
@[simp] theorem State.modLoader_out (s : State) (l : Nat) (f : LoaderRec → LoaderRec) : (s.modLoader l f).out = s.out := rfl
@[simp] theorem State.modLoader_faults (s : State) (l : Nat) (f : LoaderRec → LoaderRec) : (s.modLoader l f).faults = s.faults := rfl
@[simp] theorem State.modLoader_mgmt (s : State) (l : Nat) (f : LoaderRec → LoaderRec) : (s.modLoader l f).mgmt = s.mgmt := rfl
@[simp] theorem State.modLoader_tanks (s : State) (l : Nat) (f : LoaderRec → LoaderRec) : (s.modLoader l f).tanks = s.tanks := rfl
@[simp] theorem State.modLoader_shore (s : State) (l : Nat) (f : LoaderRec → LoaderRec) : (s.modLoader l f).shore = { s.shore with loaders := upd s.shore.loaders l f } := rfl
@[simp] theorem State.modLoader_engine (s : State) (l : Nat) (f : LoaderRec → LoaderRec) : (s.modLoader l f).engine = s.engine := rfl
@[simp] theorem State.modLoader_tracker (s : State) (l : Nat) (f : LoaderRec → LoaderRec) : (s.modLoader l f).tracker = s.tracker := rfl
@[simp] theorem State.modLoader_pacing (s : State) (l : Nat) (f : LoaderRec → LoaderRec) : (s.modLoader l f).pacing = s.pacing := rfl
@[simp] theorem State.modLoader_stations (s : State) (l : Nat) (f : LoaderRec → LoaderRec) : (s.modLoader l f).stations = s.stations := rfl
@[simp] theorem State.modLoader_screen (s : State) (l : Nat) (f : LoaderRec → LoaderRec) : (s.modLoader l f).screen = s.screen := rfl
@[simp] theorem State.modLoader_reports (s : State) (l : Nat) (f : LoaderRec → LoaderRec) : (s.modLoader l f).reports = s.reports := rfl

/-! ### State.modHold -/

@[simp] theorem State.modHold_pending (s : State) (h : Nat) (f : HoldRec → HoldRec) : (s.modHold h f).pending = s.pending := rfl
@[simp] theorem State.modHold_sys (s : State) (h : Nat) (f : HoldRec → HoldRec) : (s.modHold h f).sys = s.sys := rfl
@[simp] theorem State.modHold_clock (s : State) (h : Nat) (f : HoldRec → HoldRec) : (s.modHold h f).clock = s.clock := rfl
@[simp] theorem State.modHold_out (s : State) (h : Nat) (f : HoldRec → HoldRec) : (s.modHold h f).out = s.out := rfl
@[simp] theorem State.modHold_faults (s : State) (h : Nat) (f : HoldRec → HoldRec) : (s.modHold h f).faults = s.faults := rfl
@[simp] theorem State.modHold_mgmt (s : State) (h : Nat) (f : HoldRec → HoldRec) : (s.modHold h f).mgmt = s.mgmt := rfl
@[simp] theorem State.modHold_tanks (s : State) (h : Nat) (f : HoldRec → HoldRec) : (s.modHold h f).tanks = s.tanks := rfl
@[simp] theorem State.modHold_shore (s : State) (h : Nat) (f : HoldRec → HoldRec) : (s.modHold h f).shore = { s.shore with holds := upd s.shore.holds h f } := rfl
@[simp] theorem State.modHold_engine (s : State) (h : Nat) (f : HoldRec → HoldRec) : (s.modHold h f).engine = s.engine := rfl
@[simp] theorem State.modHold_tracker (s : State) (h : Nat) (f : HoldRec → HoldRec) : (s.modHold h f).tracker = s.tracker := rfl
@[simp] theorem State.modHold_pacing (s : State) (h : Nat) (f : HoldRec → HoldRec) : (s.modHold h f).pacing = s.pacing := rfl
@[simp] theorem State.modHold_stations (s : State) (h : Nat) (f : HoldRec → HoldRec) : (s.modHold h f).stations = s.stations := rfl
@[simp] theorem State.modHold_screen (s : State) (h : Nat) (f : HoldRec → HoldRec) : (s.modHold h f).screen = s.screen := rfl
@[simp] theorem State.modHold_reports (s : State) (h : Nat) (f : HoldRec → HoldRec) : (s.modHold h f).reports = s.reports := rfl

/-! ### State.modPause -/

@[simp] theorem State.modPause_pending (s : State) (l : Nat) (f : PauseRec → PauseRec) : (s.modPause l f).pending = s.pending := rfl
@[simp] theorem State.modPause_sys (s : State) (l : Nat) (f : PauseRec → PauseRec) : (s.modPause l f).sys = s.sys := rfl
@[simp] theorem State.modPause_clock (s : State) (l : Nat) (f : PauseRec → PauseRec) : (s.modPause l f).clock = s.clock := rfl
@[simp] theorem State.modPause_out (s : State) (l : Nat) (f : PauseRec → PauseRec) : (s.modPause l f).out = s.out := rfl
@[simp] theorem State.modPause_faults (s : State) (l : Nat) (f : PauseRec → PauseRec) : (s.modPause l f).faults = s.faults := rfl
@[simp] theorem State.modPause_mgmt (s : State) (l : Nat) (f : PauseRec → PauseRec) : (s.modPause l f).mgmt = s.mgmt := rfl
@[simp] theorem State.modPause_tanks (s : State) (l : Nat) (f : PauseRec → PauseRec) : (s.modPause l f).tanks = s.tanks := rfl
@[simp] theorem State.modPause_shore (s : State) (l : Nat) (f : PauseRec → PauseRec) : (s.modPause l f).shore = s.shore := rfl
@[simp] theorem State.modPause_engine (s : State) (l : Nat) (f : PauseRec → PauseRec) : (s.modPause l f).engine = s.engine := rfl
@[simp] theorem State.modPause_tracker (s : State) (l : Nat) (f : PauseRec → PauseRec) : (s.modPause l f).tracker = s.tracker := rfl
@[simp] theorem State.modPause_pacing (s : State) (l : Nat) (f : PauseRec → PauseRec) : (s.modPause l f).pacing = { s.pacing with loaders := upd s.pacing.loaders l f } := rfl
@[simp] theorem State.modPause_stations (s : State) (l : Nat) (f : PauseRec → PauseRec) : (s.modPause l f).stations = s.stations := rfl
@[simp] theorem State.modPause_screen (s : State) (l : Nat) (f : PauseRec → PauseRec) : (s.modPause l f).screen = s.screen := rfl
@[simp] theorem State.modPause_reports (s : State) (l : Nat) (f : PauseRec → PauseRec) : (s.modPause l f).reports = s.reports := rfl

/-! ### State.setMode -/

@[simp] theorem State.setMode_pending (s : State) (m : Mode) : (s.setMode m).pending = s.pending := rfl
@[simp] theorem State.setMode_sys (s : State) (m : Mode) : (s.setMode m).sys = { s.sys with mode := m } := rfl
@[simp] theorem State.setMode_clock (s : State) (m : Mode) : (s.setMode m).clock = s.clock := rfl
@[simp] theorem State.setMode_out (s : State) (m : Mode) : (s.setMode m).out = s.out := rfl
@[simp] theorem State.setMode_faults (s : State) (m : Mode) : (s.setMode m).faults = s.faults := rfl
@[simp] theorem State.setMode_mgmt (s : State) (m : Mode) : (s.setMode m).mgmt = s.mgmt := rfl
@[simp] theorem State.setMode_tanks (s : State) (m : Mode) : (s.setMode m).tanks = s.tanks := rfl
@[simp] theorem State.setMode_shore (s : State) (m : Mode) : (s.setMode m).shore = s.shore := rfl
@[simp] theorem State.setMode_engine (s : State) (m : Mode) : (s.setMode m).engine = s.engine := rfl
@[simp] theorem State.setMode_tracker (s : State) (m : Mode) : (s.setMode m).tracker = s.tracker := rfl
@[simp] theorem State.setMode_pacing (s : State) (m : Mode) : (s.setMode m).pacing = s.pacing := rfl
@[simp] theorem State.setMode_stations (s : State) (m : Mode) : (s.setMode m).stations = s.stations := rfl
@[simp] theorem State.setMode_screen (s : State) (m : Mode) : (s.setMode m).screen = s.screen := rfl
@[simp] theorem State.setMode_reports (s : State) (m : Mode) : (s.setMode m).reports = s.reports := rfl

/-! ### State.setTracking -/

@[simp] theorem State.setTracking_pending (s : State) (x : Tracking) : (s.setTracking x).pending = s.pending := rfl
@[simp] theorem State.setTracking_sys (s : State) (x : Tracking) : (s.setTracking x).sys = s.sys := rfl
@[simp] theorem State.setTracking_clock (s : State) (x : Tracking) : (s.setTracking x).clock = s.clock := rfl
@[simp] theorem State.setTracking_out (s : State) (x : Tracking) : (s.setTracking x).out = s.out := rfl
@[simp] theorem State.setTracking_faults (s : State) (x : Tracking) : (s.setTracking x).faults = s.faults := rfl
@[simp] theorem State.setTracking_mgmt (s : State) (x : Tracking) : (s.setTracking x).mgmt = s.mgmt := rfl
@[simp] theorem State.setTracking_tanks (s : State) (x : Tracking) : (s.setTracking x).tanks = s.tanks := rfl
@[simp] theorem State.setTracking_shore (s : State) (x : Tracking) : (s.setTracking x).shore = s.shore := rfl
@[simp] theorem State.setTracking_engine (s : State) (x : Tracking) : (s.setTracking x).engine = s.engine := rfl
@[simp] theorem State.setTracking_tracker (s : State) (x : Tracking) : (s.setTracking x).tracker = { s.tracker with tracking := x } := rfl
@[simp] theorem State.setTracking_pacing (s : State) (x : Tracking) : (s.setTracking x).pacing = s.pacing := rfl
@[simp] theorem State.setTracking_stations (s : State) (x : Tracking) : (s.setTracking x).stations = s.stations := rfl
@[simp] theorem State.setTracking_screen (s : State) (x : Tracking) : (s.setTracking x).screen = s.screen := rfl
@[simp] theorem State.setTracking_reports (s : State) (x : Tracking) : (s.setTracking x).reports = s.reports := rfl

/-! ### State.setSilence -/

@[simp] theorem State.setSilence_pending (s : State) (x : Silence) : (s.setSilence x).pending = s.pending := rfl
@[simp] theorem State.setSilence_sys (s : State) (x : Silence) : (s.setSilence x).sys = s.sys := rfl
@[simp] theorem State.setSilence_clock (s : State) (x : Silence) : (s.setSilence x).clock = s.clock := rfl
@[simp] theorem State.setSilence_out (s : State) (x : Silence) : (s.setSilence x).out = s.out := rfl
@[simp] theorem State.setSilence_faults (s : State) (x : Silence) : (s.setSilence x).faults = s.faults := rfl
@[simp] theorem State.setSilence_mgmt (s : State) (x : Silence) : (s.setSilence x).mgmt = s.mgmt := rfl
@[simp] theorem State.setSilence_tanks (s : State) (x : Silence) : (s.setSilence x).tanks = s.tanks := rfl
@[simp] theorem State.setSilence_shore (s : State) (x : Silence) : (s.setSilence x).shore = { s.shore with silence := x } := rfl
@[simp] theorem State.setSilence_engine (s : State) (x : Silence) : (s.setSilence x).engine = s.engine := rfl
@[simp] theorem State.setSilence_tracker (s : State) (x : Silence) : (s.setSilence x).tracker = s.tracker := rfl
@[simp] theorem State.setSilence_pacing (s : State) (x : Silence) : (s.setSilence x).pacing = s.pacing := rfl
@[simp] theorem State.setSilence_stations (s : State) (x : Silence) : (s.setSilence x).stations = s.stations := rfl
@[simp] theorem State.setSilence_screen (s : State) (x : Silence) : (s.setSilence x).screen = s.screen := rfl
@[simp] theorem State.setSilence_reports (s : State) (x : Silence) : (s.setSilence x).reports = s.reports := rfl

/-! ### State.modPort -/

@[simp] theorem State.modPort_pending (s : State) (p : Port) (f : PortState → PortState) : (s.modPort p f).pending = s.pending := rfl
@[simp] theorem State.modPort_sys (s : State) (p : Port) (f : PortState → PortState) : (s.modPort p f).sys = s.sys := rfl
@[simp] theorem State.modPort_clock (s : State) (p : Port) (f : PortState → PortState) : (s.modPort p f).clock = s.clock := rfl
@[simp] theorem State.modPort_out (s : State) (p : Port) (f : PortState → PortState) : (s.modPort p f).out = s.out.setPort p (f (s.out.port p)) := rfl
@[simp] theorem State.modPort_faults (s : State) (p : Port) (f : PortState → PortState) : (s.modPort p f).faults = s.faults := rfl
@[simp] theorem State.modPort_mgmt (s : State) (p : Port) (f : PortState → PortState) : (s.modPort p f).mgmt = s.mgmt := rfl
@[simp] theorem State.modPort_tanks (s : State) (p : Port) (f : PortState → PortState) : (s.modPort p f).tanks = s.tanks := rfl
@[simp] theorem State.modPort_shore (s : State) (p : Port) (f : PortState → PortState) : (s.modPort p f).shore = s.shore := rfl
@[simp] theorem State.modPort_engine (s : State) (p : Port) (f : PortState → PortState) : (s.modPort p f).engine = s.engine := rfl
@[simp] theorem State.modPort_tracker (s : State) (p : Port) (f : PortState → PortState) : (s.modPort p f).tracker = s.tracker := rfl
@[simp] theorem State.modPort_pacing (s : State) (p : Port) (f : PortState → PortState) : (s.modPort p f).pacing = s.pacing := rfl
@[simp] theorem State.modPort_stations (s : State) (p : Port) (f : PortState → PortState) : (s.modPort p f).stations = s.stations := rfl
@[simp] theorem State.modPort_screen (s : State) (p : Port) (f : PortState → PortState) : (s.modPort p f).screen = s.screen := rfl
@[simp] theorem State.modPort_reports (s : State) (p : Port) (f : PortState → PortState) : (s.modPort p f).reports = s.reports := rfl

/-! ### Vectors with one element changed -/

/-- An updated vector read at the updated index. -/
theorem nth_upd_same {α : Type} {n : Nat} (v : Vector α n) (i : Nat) (f : α → α) (d : α) (h : i < n) :
    nth (upd v i f) i d = f (nth v i d) := by
  simp [nth, upd, h]

/-- An updated vector read at another index. -/
theorem nth_upd_other {α : Type} {n : Nat} (v : Vector α n) (i j : Nat) (f : α → α) (d : α) (h : j ≠ i) :
    nth (upd v i f) j d = nth v j d := by
  unfold nth upd
  by_cases hi : i < n
  · by_cases hj : j < n
    · simp [hi, hj, Ne.symm h]
    · simp [hj]
  · simp [hi]

/-- A vector updated outside its range is itself. -/
theorem upd_out_of_range {α : Type} {n : Nat} (v : Vector α n) (i : Nat) (f : α → α) (h : ¬ i < n) : upd v i f = v := by
  simp [upd, h]

/-! ### One record after an update -/

theorem State.tank_modTank (s : State) (t : Nat) (f : TankRec → TankRec) (h : t < 32) :
    (s.modTank t f).tank t = f (s.tank t) := nth_upd_same _ _ _ _ h

theorem State.tank_modTank_other (s : State) (t u : Nat) (f : TankRec → TankRec) (h : u ≠ t) :
    (s.modTank t f).tank u = s.tank u := nth_upd_other _ _ _ _ _ h

theorem State.station_modStation (s : State) (i : Nat) (f : StationRec → StationRec) (h : i < 64) :
    (s.modStation i f).station i = f (s.station i) := nth_upd_same _ _ _ _ h

theorem State.station_modStation_other (s : State) (i j : Nat) (f : StationRec → StationRec) (h : j ≠ i) :
    (s.modStation i f).station j = s.station j := nth_upd_other _ _ _ _ _ h

theorem State.loader_modLoader (s : State) (l : Nat) (f : LoaderRec → LoaderRec) (h : l < 4) :
    (s.modLoader l f).loader l = f (s.loader l) := nth_upd_same _ _ _ _ h

theorem State.loader_modLoader_other (s : State) (l m : Nat) (f : LoaderRec → LoaderRec) (h : m ≠ l) :
    (s.modLoader l f).loader m = s.loader m := nth_upd_other _ _ _ _ _ h

theorem State.hold_modHold (s : State) (h : Nat) (f : HoldRec → HoldRec) (hh : h < 10) :
    (s.modHold h f).hold h = f (s.hold h) := nth_upd_same _ _ _ _ hh

theorem State.hold_modHold_other (s : State) (h k : Nat) (f : HoldRec → HoldRec) (hk : k ≠ h) :
    (s.modHold h f).hold k = s.hold k := nth_upd_other _ _ _ _ _ hk

theorem State.pause_modPause (s : State) (l : Nat) (f : PauseRec → PauseRec) (h : l < 4) :
    (s.modPause l f).pause l = f (s.pause l) := nth_upd_same _ _ _ _ h

theorem State.pause_modPause_other (s : State) (l m : Nat) (f : PauseRec → PauseRec) (h : m ≠ l) :
    (s.modPause l f).pause m = s.pause m := nth_upd_other _ _ _ _ _ h

end Sys2Proof.Machine
end

