-- ==== Sys2Proof/Laws/Tables.lean ====
section
/-! SUPPORT. Check words: a table sealed by `withChecks` is intact, and one whose kept word differs is not. -/

namespace Sys2Proof.Machine

theorem TableImage.intact_sealed (c : TableCode) (t : TableImage) : (t.sealed c).intact c = true := by
  simp [TableImage.intact, TableImage.sealed]

theorem TableImage.not_intact_of_check_ne {c : TableCode} {t : TableImage} (h : t.check ≠ checkWordOf c t.mem) :
    t.intact c = false := by
  simp [TableImage.intact, h]

/-- A table whose kept word is one off its computed word is not intact. -/
theorem TableImage.not_intact_off_by_one (c : TableCode) (t : TableImage) :
    ({ t with check := checkWordOf c t.mem + 1 } : TableImage).intact c = false :=
  TableImage.not_intact_of_check_ne fun h => absurd (BitVec.add_right_eq_self.mp h) (by decide)

theorem ShipBank.get_set (b : ShipBank) (t : TableImage) {c : TableCode} (h : c ∈ TableCode.shipTables) :
    (b.set t c).get c = t := by
  cases c <;> first | rfl | exact absurd h (by decide)

theorem ShipBank.get_set_ne (b : ShipBank) (t : TableImage) {c d : TableCode} (hd : d ∈ TableCode.shipTables) (h : d ≠ c) :
    (b.set t c).get d = b.get d := by
  cases c <;> cases d <;> first | rfl | exact absurd rfl h | exact absurd hd (by decide)

/-- Every table of a bank whose check words were computed is intact (R192, R194). -/
theorem ShipBank.intact_withChecks (b : ShipBank) (c : TableCode) (h : c ∈ TableCode.shipTables) :
    (b.withChecks.get c).intact c = true := by
  cases c <;>
    first
      | exact absurd h (by decide)
      | simp [ShipBank.withChecks, TableCode.shipTables, ShipBank.get, ShipBank.set, TableImage.intact_sealed]

/-- No table of a bank whose check words were computed is damaged (R195). -/
theorem ShipBank.firstDamaged_withChecks (b : ShipBank) : b.withChecks.firstDamaged = none := by
  simp only [ShipBank.firstDamaged, List.find?_eq_none]
  intro c h
  simp [b.intact_withChecks c h]

/-- A store with its mark over a bank whose check words were computed is valid (R195). -/
theorem State.storeValid_withChecks {s : State} {b : ShipBank} (hb : s.mgmt.store.bank = b.withChecks)
    (hm : s.mgmt.store.mark = true) : s.storeValid = true := by
  simp [State.storeValid, hb, hm, b.firstDamaged_withChecks]

end Sys2Proof.Machine
end

