-- ==== Sys2Proof/Tests/Slice0.lean ====
section
/-! SUPPORT. Tests: the ill-formed commands that WellFormed refuses; figures of the manual's worked examples;
and, for each statement with hypotheses, a small state and operands that meet them (`witness_…`). -/

namespace Sys2Proof.Tests

open Sys2Proof Sys2Proof.Machine

-- One theorem at a time: each is evaluated by the kernel on a thread of its own.
set_option Elab.async false

/-! ### Well-formedness: one ill-formed command for each check -/

theorem test_wellFormed_accepts : (Instr.gaugeTimeout 31).wellFormed = true ∧ (Instr.confirmTimerExpiry 3).wellFormed = true
    ∧ (Instr.mgmtUnknownCode 10 1 0 []).wellFormed = true ∧ (Instr.readStatus 10 1 [0]).wellFormed = true := by decide
theorem test_wellFormed_beacon_payload : (Instr.shoreBeacon 255 1 0 (List.replicate 57 0)).wellFormed = false := by decide
theorem test_wellFormed_gauge_tank : (Instr.gaugeTimeout 32).wellFormed = false := by decide
theorem test_wellFormed_still_tank : (Instr.stillIntervalExpiry 32).wellFormed = false := by decide
theorem test_wellFormed_presence_station : (Instr.presenceTimeout 64).wellFormed = false := by decide
theorem test_wellFormed_ack_station : (Instr.ackTimeout 64).wellFormed = false := by decide
theorem test_wellFormed_hold_station : (Instr.holdDeadline 64).wellFormed = false := by decide
theorem test_wellFormed_dry_line : (Instr.dryRunTrip 8).wellFormed = false := by decide
theorem test_wellFormed_confirm_loader : (Instr.confirmTimerExpiry 4).wellFormed = false := by decide
theorem test_wellFormed_known_code : (Instr.mgmtUnknownCode 10 1 28 []).wellFormed = false := by decide
theorem test_wellFormed_arguments : (Instr.writeTable 10 1 (List.replicate 56 0)).wellFormed = false := by decide

/-! ### A small ship -/

/-- A table image over the given bytes. -/
def image (bs : List Byte) : TableImage := { mem := Memory.ofBytes bs, check := 0 }

/-- A ship that passes every check of R191: tank 0 on line 0 (Table 1-4's descriptor and points), one hold, one
check station; console 10, gauge 20, draft node 21, pump 0 at 30, valves 8, 9 and 10 at 40, 41 and 42. -/
def ship : ShipBank :=
  ShipBank.withChecks
    { part := image defaultPartBytes
      ship := { mem := [(6, 1), (7, 1), (8, 1), (9, 2)], check := 0 }
      route :=
        { mem := [(30, 1), (60, 2), (63, 3), (90, 4), (120, 5), (121, 8), (123, 5), (124, 9), (126, 5), (127, 10)]
          check := 0 }
      cls := image []
      tank := image (enc1 1 ++ enc1 10 ++ enc1 0 ++ enc4 200000 ++ enc2 1025 ++ enc2 50 ++ enc1 20 ++ enc2 30 ++ encS2 50
        ++ enc4 200)
      sounding := image (enc1 2 ++ enc2 2000 ++ enc4 15000 ++ enc2 3000 ++ enc4 24000)
      item := image []
      influence := image []
      station := image (encS4 0 ++ encS4 0 ++ enc4 1000 ++ enc4 1000 ++ enc4 1000 ++ enc4 1000)
      hydro := image (enc4 0 ++ enc2 0 ++ enc2 0 ++ enc4 100 ++ enc4 1000000 ++ enc2 10000 ++ enc2 0 ++ enc4 100)
      pumpLine := image (enc1 1 ++ enc1 8 ++ enc1 9 ++ enc4 1 ++ enc2 30 ++ enc2 20) }

/-- A plan of one step: 100.0 t of cargo, loader 0 assigned hold 0. -/
def planOne : PlanBank :=
  { header := image defaultHeaderBytes
    steps := image (enc1 1 ++ enc4 1000 ++ enc4 500 ++ enc1 0 ++ enc1 15 ++ enc1 15 ++ enc1 15) }

theorem test_ship_validates : ship.validate = none := by decide +kernel
theorem test_plan_validates : planOne.validate ship = none := by decide +kernel
/-- Table 11-4, check 2: at least one hold. -/
theorem test_ship_without_holds : ({ ship with ship := image [] } : ShipBank).validate = some ⟨.ship, 0⟩ := by decide +kernel

/-- The part in a mode at second 100 with the small ship and plan active, its stations bound, ports idle. -/
def inMode (m : Mode) (session : Bool) : State :=
  { State.reset with
    sys := { State.reset.sys with
      mode := m, settle := none, sessionOpen := session, sessionNumber := if session then some 7 else none }
    clock := { seconds := 100, offset := 0, timeSet := false }
    mgmt := { State.reset.mgmt with
      ship := { active := ship, staging := ship, gen := 1, isSealed := false, isPending := false }
      plan := { active := planOne, staging := planOne, gen := 1, isSealed := false, isPending := false } }
    stations := upd (upd State.reset.stations 0 fun r => { r with address := some 30 }) 10 fun r =>
      { r with address := some 42 } }

/-- STANDBY. -/
def standby : State := inMode .standby false
/-- LOADING with session 7 open. -/
def loading : State := inMode .loading true
/-- SAFE with session 7 open. -/
def safe : State := inMode .safe true
/-- UNCONFIGURED. -/
def unconfigured : State := inMode .unconfigured false

/-- The state of a step that answers next. -/
def after (o : Host.Outcome State Fault Refusal) : State :=
  match o with
  | .next t => t
  | _ => State.reset

/-! ### The manual's figures -/

/-- Note 6-1. -/
theorem test_check_word : crc [0x31, 0x32, 0x33, 0x34, 0x35, 0x36, 0x37, 0x38, 0x39] = 0x29B1 := by decide +kernel

/-- Worked example of chapter 3, stages 1 to 3. -/
theorem test_rounding : roundDiv 240000000 560000 = 429 ∧ roundDiv (-78960000) 126000 = -627
    ∧ ceilDiv (1000 * 35250) 40000 = 882 := by decide
/-- Table 1-6. -/
theorem test_growth : ceilDiv (1800 * 1025 * 1) 360000 = 6 ∧ ceilDiv (1800 * 1025 * 2) 360000 = 11 := by decide
/-- Table 4-7, publication 1. -/
theorem test_planned_ballast :
    plannedOn ⟨1, 400000, 300000, 0, none, 0, none⟩ 500000 240000 462500 = 262500 := by decide
/-- Table 9-10. -/
theorem test_number_wraps : nextNumber 65534 = 65535 ∧ nextNumber 65535 = 1 := by decide

/-- Table 1-4: the gauge LIVE at 2,470 mm two seconds ago, the latest trim −627. -/
def sampled : State :=
  { standby with
    engine := { Engine.reset with latestTrim := some (-627) }
    tanks := upd standby.tanks 0 fun r =>
      { r with gauge := .live, rawLevel := 2470, lastAccepted := some 98, lastSample := some 3, gaugeTimer := some 98
               density := 1025 } }

/-- Table 1-4. -/
theorem test_sounding_trim_correction :
    let r := (after (exec (.sounding 240 20 0 2480 0 4) sampled)).tank 0
    (r.corrected, r.volume, r.mass, r.accepted) = (2449, 19041, 19517, 1) := by decide +kernel
/-- R5: the same sample number again. -/
theorem test_sounding_repeat :
    let r := (after (exec (.sounding 240 20 0 2480 0 3) sampled)).tank 0
    (r.rawLevel, r.accepted, r.rejected) = (2470, 0, 1) := by decide +kernel

/-- Table 2-4 before second 14: loader 0 at 1,250,600 over hold 0, which holds 60.0 t. -/
def pouring : State :=
  { loading with
    shore := { Shore.reset with
      loaders := upd Shore.reset.loaders 0 fun r =>
        { r with baselineSeen := true, baseline := 1250000, lastCum := 1250600, spout := some 0, sessionTonnage := 600 }
      holds := upd Shore.reset.holds 0 fun r => { r with attributed := 600, mass := 600 } } }

/-- Table 2-4, second 14: the delta goes to the previous spout. -/
theorem test_pour_previous_spout :
    let t := after (exec (.pour 240 9 0 0 15 1251100 0 0) pouring)
    ((t.hold 0).mass, (t.loader 0).spout, (t.loader 0).lastCum) = (1100, none, 1251100) := by decide +kernel
/-- Table 2-4, second 12: a regression is rejected. -/
theorem test_pour_regression :
    (after (exec (.pour 240 9 0 0 0 1250500 0 0) pouring)).shore.loaders = pouring.shore.loaders := by decide +kernel

/-- Valve 10 with order 61 outstanding until second 100 (Table 7-4). -/
def ordered : State :=
  { standby with
    stations := upd standby.stations 10 fun r =>
      { r with presence := .present, outstanding := some ⟨61, .valveOpen, 0, 0, some 10, 92, 100⟩ } }

/-- Table 7-4, second 322: a matched DONE. -/
theorem test_ack_done : ((after (exec (.ack 10 42 61 42 61 0 0) ordered)).station 10).lastClosing = some .done := by decide +kernel
/-- Table 7-4, second 308. -/
theorem test_ack_timeout :
    let r := (after (exec (.ackTimeout 10) ordered)).station 10
    (r.outstanding, r.lastClosing, r.timeouts) = (none, some .timeout, 1) := by decide +kernel
/-- Table 6-15: the order is forwarded unchanged at the idle field port. -/
theorem test_order_forwarded :
    ((after (exec (.order 42 10 57 4 0 0) standby)).out.field.sending.map fun e => (e.tel.dst, e.tel.seq, e.tel.payload))
      = some (42, 57, [4, 0, 0]) := by decide +kernel
/-- The part's PAUSE carries the reason set and the grace mark, NONE without a baseline (Table 6-12). -/
theorem test_manual_pause :
    ((after (exec (.manualPause 10 0 [2]) loading)).out.shore.sending.map fun e => (e.tel.kind, e.tel.payload))
      = some (0x62, [2, 2, 0, 255, 255, 255, 255]) := by decide +kernel
/-- Table 6-12: the part's beacon in STANDBY. -/
theorem test_beacon :
    ((after (exec .beaconTimerExpiry { standby with shore := { Shore.reset with beaconAt := some 100 } })).out.shore.sending.map
      fun e => (e.tel.kind, e.tel.payload)) = some (0x64, [2, 0]) := by decide +kernel
/-- Table 11-6: a STORE in STANDBY is WRITING, unanswered, with no valid mark. -/
theorem test_store_writes :
    let t := after (exec (.store 10 5 []) standby)
    (t.mgmt.storeState, t.mgmt.store.mark, t.out.console.sending) = (.writing, false, none) := by decide +kernel
/-- R185: an unknown request is refused BAD_REQUEST. -/
theorem test_unknown_request :
    ((after (exec (.mgmtUnknownCode 10 9 99 []) standby)).out.console.sending.map fun e => e.tel.payload)
      = some [99, 1, 1, 1, 1] := by decide +kernel
/-- No row of the table gives bits, so no word spells a command. -/
theorem test_no_word_spells_a_command : decodeTableWord 8 0 = none ∧ (standby.withFetchWord 8 0).pending = [] := by decide

/-- A valve order that a held-order list may hold. -/
def heldAt (i : Nat) : Held := ⟨⟨.valveOpen, 0, 0, 1, 10⟩, i, .awaitingRoute, 90, 100⟩

/-! ### Witnesses: states and operands that meet the hypotheses of the statements

Each names the statement in its docstring. `part` is own address 240; 10 the console; second 100 is now. -/

theorem standby_inService : standby.inService := ⟨⟨by decide, by decide⟩, by decide⟩
theorem standby_inCircuit : standby.inCircuit := ⟨standby_inService.1, by decide⟩
theorem loading_inService : loading.inService := ⟨⟨by decide, by decide⟩, by decide⟩
theorem loading_inCircuit : loading.inCircuit := ⟨loading_inService.1, by decide⟩
theorem safe_inCircuit : safe.inCircuit := ⟨⟨by decide, by decide⟩, by decide⟩
theorem unconfigured_inCircuit : unconfigured.inCircuit := ⟨⟨by decide, by decide⟩, by decide⟩
theorem console_manages : (inMode m b).manager 10 :=
  ⟨⟨by decide, by decide, show (10 : Byte) ≠ ship.ownAddress by decide +kernel⟩,
    show ship.ownAddress ≠ 0 by decide +kernel, fun _ => show ship.role 10 = .console by decide +kernel⟩
theorem empty_faults_sound : Faults.reset.sound :=
  ⟨by decide, by decide, by decide, by decide, by decide, by decide⟩
theorem empty_list_sound : standby.heldSound := ⟨by decide, by decide, by decide⟩

/-- EmptyQueueRunsADueEventOrASecond: the clause of a due event, at the last second of a settle. -/
theorem witness_due_event :
    let s := { State.reset with sys := { State.reset.sys with settle := some 0 } }
    s.pending = [] ∧ s.dueEvent = some .settleEnd := by decide +kernel
/-- EmptyQueueRunsADueEventOrASecond: a second outside BYPASS, and one of the settle. -/
theorem witness_second_passes :
    (unconfigured.pending = [] ∧ unconfigured.dueEvent = none ∧ unconfigured.sys.powered = true ∧ unconfigured.sys.mode ≠ .bypass) ∧
    (State.reset.pending = [] ∧ State.reset.dueEvent = none ∧ State.reset.sys.powered = true
      ∧ State.reset.sys.mode = .bypass) := by decide +kernel

/-- A state in which a commanded reset is due. -/
def resetDue : State := { standby with out := { standby.out with resetWait := .due } }
/-- A state without power. -/
def unpowered : State := { State.reset with sys := { State.reset.sys with powered := false } }
/-- SupplyEventsResetThePart. -/
theorem witness_supply : resetDue.sys.powered = true ∧ resetDue.out.resetWait = .due ∧ unpowered.sys.powered = false
    ∧ Instr.settleEnd ≠ .powerOn ∧ Instr.settleEnd ≠ .powerLoss := by decide

/-- A settle at its end over a store that holds the small ship with its mark. -/
def settled : State :=
  { State.reset with sys := { State.reset.sys with settle := some 0 }, mgmt := { State.reset.mgmt with store := ⟨ship, true⟩ } }
/-- SettleEndLoadsTheShipStore: a valid store, and one that was never written. -/
theorem witness_settle_end :
    settled.ready ∧ settled.sys.settle = some 0 ∧ settled.storeValid = true ∧ ship.tankFitted 0 = true
      ∧ (addressIn ship.stationBindings 0).isSome = true :=
  ⟨⟨by decide, by decide⟩, by decide, State.storeValid_withChecks rfl rfl, by decide +kernel, by decide +kernel⟩
theorem witness_settle_end_invalid :
    let s := { State.reset with sys := { State.reset.sys with settle := some 0 } }
    s.ready ∧ s.sys.settle = some 0 ∧ s.storeValid = false := ⟨⟨by decide, by decide⟩, by decide, by decide⟩
/-- TableFaultReloadNeedsAValidImage: both cases of the image. -/
theorem witness_reload :
    let s := { settled with sys := { settled.sys with settle := none, reload := some 0, latch := true } }
    s.ready ∧ s.sys.reload = some 0 ∧ s.storeValid = true :=
  ⟨⟨by decide, by decide⟩, by decide, State.storeValid_withChecks rfl rfl⟩
theorem witness_reload_invalid :
    let s := { State.reset with sys := { State.reset.sys with settle := none, reload := some 0 } }
    s.ready ∧ s.sys.reload = some 0 ∧ s.storeValid = false := ⟨⟨by decide, by decide⟩, by decide, by decide⟩

/-- FramesArriveAsTheirTelegrams: the longest payloads and arguments. -/
theorem witness_frames : (List.replicate 56 (0 : Byte)).length ≤ 56 ∧ (List.replicate 55 (0 : Byte)).length ≤ 55
    ∧ standby.ready := ⟨by decide, by decide, standby_inService.1⟩
/-- BadFramesAreCountedAndDiscarded: too short, too long, a wrong length byte, a wrong check word. -/
theorem witness_bad_frames : standby.inCircuit ∧ (List.replicate 6 (0 : Byte)).length < 7 ∧ 63 < (List.replicate 64 (0 : Byte)).length
    ∧ (byteAt [240, 10, 0x51, 0, 1, 0, 0] 4).toNat + 7 ≠ 7
    ∧ beNat ([240, 10, 0x51, 0, 0, 0, 0].drop 5) ≠ (crc ([240, 10, 0x51, 0, 0, 0, 0].take 5)).toNat :=
  ⟨standby_inCircuit, by decide, by decide, by decide, by decide +kernel⟩
/-- BadFramesAreCountedAndDiscarded: destination 0, sources 0 and 255, and a kind at the wrong length (a
SOUNDING of 3 and an ORDER of 4 bytes), in frames of the right size and check word. -/
theorem witness_bad_addresses : byteAt (soundingTelegram 0 20 0 0 0 0).frame 0 = 0
    ∧ byteAt (soundingTelegram 240 0 0 0 0 0).frame 1 = 0 ∧ byteAt (soundingTelegram 240 255 0 0 0 0).frame 1 = 255
    ∧ wrongLength 0x21 [0, 0, 0] ∧ wrongLength 0x41 [1, 2, 3, 4] ∧ wrongLength 0x23 [2, 0, 0, 0] ∧ ¬wrongLength 0x23 [1, 0, 0, 0] :=
  ⟨by decide, by decide, by decide, by unfold wrongLength; decide, by unfold wrongLength; decide, by unfold wrongLength; decide,
    by unfold wrongLength; decide⟩
/-- BadFramesAreCountedAndDiscarded: an own-address source, an ORDER from the field, a MGMT from no CONSOLE. -/
theorem witness_foreign :
    (draftTelegram 240 240 0 0 0 0).admitted ∧ standby.fromForeign .field (draftTelegram 240 240 0 0 0 0)
    ∧ standby.fromForeign .field (consoleOrderTelegram 30 10 0 1 0 0)
    ∧ standby.fromForeign .console { dst := 240, src := 11, kind := 0x51, seq := 0, payload := [1, 0] } :=
  ⟨by unfold Telegram.admitted wrongLength; decide, .inl (by decide +kernel), .inr ⟨by decide, by decide, .inl rfl⟩,
    .inr ⟨by decide, by decide, .inr ⟨rfl, by decide +kernel⟩⟩⟩
/-- BadFramesAreCountedAndDiscarded: telegrams of an unknown kind from nodes of no role or of role GAUGE. -/
def stray (dst src : Byte) : Telegram := { dst := dst, src := src, kind := 0x10, seq := 5, payload := [] }
theorem stray_admitted (hd : dst ≠ 0) (hs : src ≠ 0) (hs' : src ≠ 255) : (stray dst src).admitted :=
  ⟨by show (0 : Nat) ≤ 56; decide, hs, hs', hd, by show ¬wrongLength 0x10 []; unfold wrongLength; decide⟩
theorem witness_misdirected : standby.inCircuit ∧ (stray 240 77).admitted ∧ ¬standby.fromForeign .console (stray 240 10)
    ∧ standby.working = true ∧ (stray 240 10).dst = standby.bank.ownAddress ∧ standby.uninspected (stray 240 20)
    ∧ unconfigured.working = false ∧ ¬standby.fromForeign .shore (stray 9 77) ∧ (stray 9 77).dst ≠ standby.bank.ownAddress
    ∧ (stray 9 77).dst ≠ 255 :=
  ⟨standby_inCircuit, stray_admitted (by decide) (by decide) (by decide), by unfold State.fromForeign; decide +kernel, by decide,
    by decide +kernel, ⟨by decide, by decide, by decide⟩, by decide, by unfold State.fromForeign; decide +kernel,
    by decide +kernel, by decide⟩
/-- The small ship with route actions: node 77 TRAP, node 78 DROP, every other PASS. -/
def routed : State :=
  { standby with
    mgmt := { standby.mgmt with
      ship := { standby.mgmt.ship with
        active := { ship with route := { ship.route with mem := (ship.route.mem.write 233 1).write 236 2 } } } } }
/-- BadFramesAreCountedAndDiscarded: the governing entry is the source's on the field and the destination's on the
console port; a telegram that has reached its destination, and the three actions. -/
theorem witness_route : routed.inService ∧ ¬routed.fromForeign .field (stray 255 77) ∧ routed.uninspected (stray 255 77)
    ∧ (stray 255 77).dst ≠ routed.bank.ownAddress ∧ (routed.bank.role 30).fieldSide = true ∧ routed.bank.role 10 = .console
    ∧ (routed.bank.role 255).fieldSide = false ∧ routed.bank.role 255 ≠ .console ∧ (stray 255 77).kind ≠ 0x41
    ∧ routed.bank.action 77 = .trap ∧ routed.bank.action 78 = .drop ∧ routed.bank.action 79 = .pass :=
  ⟨⟨⟨by decide, by decide⟩, by decide⟩, by unfold State.fromForeign; decide +kernel, ⟨by decide, by decide, by decide⟩,
    by decide +kernel, by decide +kernel, by decide +kernel, by decide +kernel, by decide +kernel, by decide, by decide +kernel,
    by decide +kernel, by decide +kernel⟩
/-- BadFramesAreCountedAndDiscarded: an ORDER to a node that no screen takes, by each action; the gauge's node. -/
theorem witness_unscreened : (consoleOrderTelegram 77 10 1 4 0 0).admitted ∧ routed.bank.role 10 = .console ∧ routed.bank.role 77 = .none
    ∧ routed.bank.role 20 = .gauge ∧ (10 : Byte) ≠ routed.bank.ownAddress ∧ (77 : Byte) ≠ routed.bank.ownAddress
    ∧ routed.consoleIdle :=
  ⟨by unfold Telegram.admitted wrongLength; decide, by decide +kernel, by decide +kernel, by decide +kernel, by decide +kernel,
    by decide +kernel, by decide, by decide⟩
/-- BadFramesAreCountedAndDiscarded: the default passage in UNCONFIGURED, both ways, ORDERs among it. -/
theorem witness_default_passage : unconfigured.inCircuit ∧ unconfigured.working = false ∧ (stray 77 10).src ≠ unconfigured.bank.ownAddress
    ∧ ¬((stray 240 10).dst = unconfigured.bank.ownAddress ∧ (stray 240 10).kind = 0x51)
    ∧ (consoleOrderTelegram 30 10 1 1 0 0).kind ≠ 0x51 ∧ (stray 77 10).dst ≠ unconfigured.bank.ownAddress :=
  ⟨unconfigured_inCircuit, by decide, by decide +kernel, by decide, by decide, by decide +kernel⟩

/-- A telegram in a queue, of a class. -/
def entry (c : Fin 4) : QEntry := { tel := { dst := 255, src := 240, kind := 0x53, seq := 0, payload := [] }, cls := c, resetReply := false }
/-- A port that sends a telegram of class 2 with a queue behind it. -/
def busy (q : List QEntry) : PortState := { PortState.reset with queue := q, sending := some (entry 2) }
/-- TransmissionEndTakesTheNextHead. -/
theorem witness_transmission_end :
    let s := { standby with out := { standby.out with field := busy [] } }
    s.ready ∧ (s.out.port .field).sending = some (entry 2) := ⟨⟨by decide, by decide⟩, by decide⟩
/-- OfferFollowsClassAndAge: room for one more; a full queue with classes 2 and 1 offered, the latter with and
without a telegram to evict. -/
theorem witness_offer :
    (busy [entry 0, entry 3]).sending ≠ none ∧ (busy [entry 0, entry 3]).queue.Pairwise (fun a b => a.cls ≤ b.cls)
      ∧ (busy [entry 0, entry 3]).queue.length < 3 ∧ 2 ≤ (busy [entry 0, entry 3]).queue.length
      ∧ 2 ≤ (entry 2).cls ∧ (entry 1).cls < 2 ∧ ([entry 0, entry 3].filter fun x => x.cls = 3).getLast? = some (entry 3)
      ∧ ([entry 0, entry 1].filter fun x => x.cls = 3).getLast? = none
      ∧ ([entry 0, entry 1].filter fun x => x.cls = 2).getLast? = none := by decide
/-- OfferFollowsClassAndAge: the newest of class 3, and without one the newest of class 2. -/
theorem witness_eviction : ([entry 1, entry 3].filter fun x => x.cls = 3).getLast? = some (entry 3)
    ∧ (([entry 1, entry 2].filter fun x => x.cls = 3).getLast?).or (([entry 1, entry 2].filter fun x => x.cls = 2).getLast?)
      = some (entry 2) ∧ 2 ≤ (busy [entry 1, entry 2]).queue.length := by decide

/-- RejectedSoundingsKeepTheMass: the premises common to its clauses. -/
theorem witness_gauge : sampled.inService ∧ sampled.otherNode 20 ∧ sampled.bank.role 20 = .gauge
    ∧ sampled.bank.binding 20 = 0 ∧ sampled.bank.tankFitted 0 = true :=
  ⟨⟨⟨by decide, by decide⟩, by decide⟩, ⟨by decide, by decide, by decide +kernel⟩, by decide +kernel, by decide +kernel,
    by decide +kernel⟩
/-- RejectedSoundingsKeepTheMass: a repeat; a FAULT at the first level out of range; a level one beyond the
plausible 70 mm (Table 1-4) after two rejected samples. -/
theorem witness_rejected :
    (sampled.tank 0).lastSample = some 3 ∧ (sampled.tank 0).lastSample ≠ some 4 ∧ decide (40000 < (40001 : Word16).toNat) = true
      ∧ sampled.plausible 0 2541 = false ∧ sampled.faults.sound ∧ (sampled.tank 0).rejectRun < 3 :=
  ⟨by decide, by decide, by decide, by decide +kernel, empty_faults_sound, by decide⟩
/-- AcceptedSampleSetsLevelVolumeMass: the last plausible level, and an implausible one after three rejected;
a density from a change to FILLING, a gauge that was LOST. -/
theorem witness_accepted : sampled.plausible 0 2540 = true ∧ (2540 : Word16).toNat ≤ 40000
    ∧ 3 ≤ (({ sampled with tanks := upd sampled.tanks 0 fun r => { r with rejectRun := 3 } } : State).tank 0).rejectRun
    ∧ (({ sampled with tanks := upd sampled.tanks 0 fun r => { r with gauge := .lost 90 } } : State).tank 0).gauge.isLost = true := by
  decide +kernel

/-- The small ship's tank 0 with a mass in a movement state; its threshold is 50. -/
def moving (m : Int) (motion : Motion) : State :=
  { sampled with tanks := upd sampled.tanks 0 fun r => { r with mass := m, motion := motion } }
/-- AcceptedSampleSetsLevelVolumeMass, MovementFollowsTheMass: the rows of the change to FILLING at its boundaries, in
a session and outside one. -/
theorem witness_turns_to_filling :
    let e : MassAt := ⟨1000, 90⟩
    let o : Operation := ⟨1200, 80, false⟩
    let u := { sampled with sys := loading.sys }
    ((moving 1050 (.still (some e))).tank 0).motion.turnsToFilling 1050 50 = true
      ∧ (Motion.still (some e)).turnsToFilling 1049 50 = false ∧ (Motion.emptying e o).turnsToFilling 1050 50 = true
      ∧ (Motion.emptying e o).turnsToFilling 1049 50 = false ∧ (Motion.filling e o).turnsToFilling 2000 50 = false
      ∧ (Motion.still none).turnsToFilling 2000 50 = false ∧ sampled.sys.sessionOpen = false
      ∧ u.inService ∧ u.sys.sessionOpen = true ∧ u.plausible 0 2540 = true :=
  ⟨by decide +kernel, by decide, by decide, by decide, by decide, by decide, by decide, ⟨⟨by decide, by decide⟩, by decide⟩,
    by decide, by decide +kernel⟩
/-- MovementFollowsTheMass: STILL at both marks and between them. -/
theorem witness_still :
    let a : MassAt := ⟨1000, 90⟩
    let r := fun m => ((moving m (.still (some a))).tank 0).mass
    (moving 0 (.still none)).bank.tankThreshold 0 = 50 ∧ ((moving 0 (.still none)).tank 0).motion = .still none
      ∧ ((moving 950 (.still (some a))).tank 0).motion = .still (some a) ∧ r 950 ≤ 1000 - 50
      ∧ (1000 - 50 < r 1050 ∧ 1000 + 50 ≤ r 1050) ∧ (1000 - 50 < r 1049 ∧ r 1049 < 1000 + 50) := by decide +kernel
/-- MovementFollowsTheMass: EMPTYING and FILLING below, at and above the extreme and the reversal mark. -/
theorem witness_moving :
    let e : MassAt := ⟨1000, 90⟩
    let o : Operation := ⟨1200, 80, false⟩
    let r := fun m => ((moving m (.emptying e o)).tank 0).mass
    ((moving 999 (.emptying e o)).tank 0).motion = .emptying e o ∧ ((moving 999 (.filling e o)).tank 0).motion = .filling e o
      ∧ r 999 < 1000 ∧ (1000 ≤ r 1050 ∧ 1000 + 50 ≤ r 1050) ∧ (1000 ≤ r 1049 ∧ r 1049 < 1000 + 50)
      ∧ 1000 < r 1001 ∧ (r 950 ≤ 1000 ∧ r 950 ≤ 1000 - 50) ∧ (r 951 ≤ 1000 ∧ 1000 - 50 < r 951) := by decide +kernel

/-- TankTimersLoseGaugesAndCloseOperations: the gauge timer at its deadline (20 s). -/
theorem witness_gauge_timeout :
    let s := { sampled with tanks := upd sampled.tanks 0 fun r => { r with gaugeTimer := some 80 } }
    s.ready ∧ s.working = true ∧ s.bank.tankFitted 0 = true ∧ (s.tank 0).gaugeTimer = some 80
      ∧ 80 + s.bank.gaugeTimeout ≤ s.now ∧ s.faults.sound :=
  ⟨⟨by decide, by decide⟩, by decide, by decide +kernel, by decide, by decide +kernel, empty_faults_sound⟩
/-- TankTimersLoseGaugesAndCloseOperations: the still interval (60 s), in a session and outside. -/
theorem witness_still_interval :
    let e : MassAt := ⟨1000, 40⟩
    let o : Operation := ⟨1200, 30, true⟩
    let s := moving 1000 (.filling e o)
    let u := { s with sys := loading.sys }
    (s.ready ∧ s.working = true ∧ (s.tank 0).motion = (if true then .filling e o else .emptying e o)
      ∧ e.time + s.bank.stillInterval ≤ s.now ∧ s.sys.sessionOpen = false)
    ∧ (u.ready ∧ u.working = true ∧ u.sys.sessionOpen = true) :=
  ⟨⟨⟨by decide, by decide⟩, by decide, by decide, by decide +kernel, by decide⟩, ⟨⟨by decide, by decide⟩, by decide, by decide⟩⟩

/-- FirstPourSetsTheBaseline: the largest cumulative, a fitted hold and NONE. -/
theorem witness_first_pour : loading.inService ∧ loading.sys.sessionOpen = true ∧ loading.otherNode 9 ∧ loading.bank.ownAddress = 240
    ∧ (3 : Byte).toNat < 4 ∧ (4000000000 : Word32).toNat ≤ 4000000000 ∧ beltOf 2 = some .paused
    ∧ loading.bank.holdFitted 0 = true ∧ (15 : Byte).toNat = 15 ∧ (loading.loader 3).baselineSeen = false :=
  ⟨loading_inService, by decide, ⟨by decide, by decide, by decide +kernel⟩, by decide +kernel, by decide, by decide, by decide,
    by decide +kernel, by decide, by decide⟩
/-- LaterPourChargesThePreviousSpout: one below the last cumulative, and no more than it; over a hold and over
none. -/
theorem witness_later_pour :
    let u := { pouring with shore := { pouring.shore with loaders := upd pouring.shore.loaders 0 fun r => { r with spout := none } } }
    pouring.inService ∧ pouring.sys.sessionOpen = true ∧ pouring.mgmt.ship.isSealed = false ∧ (pouring.loader 0).baselineSeen = true
      ∧ (1250599 : Word32).toNat < (pouring.loader 0).lastCum ∧ (pouring.loader 0).lastCum ≤ (1250600 : Word32).toNat
      ∧ (pouring.loader 0).spout = some 0 ∧ (u.loader 0).spout = none :=
  ⟨⟨⟨by decide, by decide⟩, by decide⟩, by decide, by decide, by decide, by decide, by decide, by decide, by decide⟩
/-- LaterPourChargesThePreviousSpout: each field one beyond its range, a regression, and the first hold that is not
fitted; STANDBY, where no session is open. -/
theorem witness_rejected_pour :
    ¬(4 : Byte).toNat < 4 ∧ ¬(4000000001 : Word32).toNat ≤ 4000000000 ∧ ¬((10 : Byte).toNat < 10 ∨ (10 : Byte).toNat = 15)
      ∧ ¬(3 : Byte).toNat ≤ 2 ∧ (1250599 : Word32).toNat < (pouring.loader 0).lastCum ∧ (pouring.loader 3).baselineSeen = false
      ∧ (1 : Byte).toNat < 10 ∧ pouring.bank.holdFitted (1 : Byte).toNat = false ∧ pouring.otherNode 9
      ∧ standby.inService ∧ standby.otherNode 9 ∧ standby.sys.sessionOpen = false ∧ standby.shore.silence ≠ .silent :=
  ⟨by decide, by decide, by decide, by decide, by decide, by decide, by decide, by decide +kernel,
    ⟨by decide, by decide, by decide +kernel⟩, standby_inService, ⟨by decide, by decide, by decide +kernel⟩, by decide, by decide⟩
/-- FirstPourSetsTheBaseline, LaterPourChargesThePreviousSpout: the rows of the off-plan test, where the only step
assigns hold 0 to loader 0 and nothing to loader 1. -/
theorem witness_off_plan :
    let s : State := { pouring with
      tracker := { Tracker.reset with tracking := .tracking ⟨1, 0, 0, 90, none, 0, none⟩, offPlan := upd Tracker.reset.offPlan 1 fun _ => true } }
    s.assignment 0 = some 0 ∧ s.assignment 1 = none ∧ (s.assignment 0 = none ∨ s.assignment 0 ≠ some 1)
      ∧ nth s.tracker.offPlan 0 false = false ∧ nth s.tracker.offPlan 1 false = true ∧ (none : Option Nat) = s.assignment 1
      ∧ ¬(Belt.stopped = .running) ∧ s.faults.sound :=
  ⟨by decide +kernel, by decide +kernel, by decide +kernel, by decide, by decide, by decide +kernel, by decide, empty_faults_sound⟩
/-- Loader 0 of the small ship paused for STRESS with a grace mark of 1,251,000 and an overpour figure. -/
def overpouring (o : Option Nat) : State :=
  { pouring with
    pacing := { Pacing.reset with
      loaders := upd Pacing.reset.loaders 0 fun _ =>
        ⟨.pauseSent ⟨some 1251000, 90, Reason.stress.single, some 1249500, none, o⟩, Reason.stress.single, some 130⟩ } }
/-- LaterPourChargesThePreviousSpout: a cumulative at the grace mark, and one beyond it, before and after OVERPOUR
was raised in the episode. -/
theorem witness_overpour :
    let ep : Episode := ⟨some 1251000, 90, Reason.stress.single, some 1249500, none, none⟩
    let t := after (exec (.pour 240 9 0 0 0 1251001 0 0) (overpouring none))
    (overpouring none).faults.sound ∧ (overpouring none).mgmt.plan.isSealed = false
      ∧ ((overpouring none).pause 0).state.episode = some ep ∧ ((overpouring none).pause 0).reasons ≠ 0 ∧ (t.pause 0).reasons ≠ 0
      ∧ ep.grace = some 1251000 ∧ 1251000 < (1251001 : Word32).toNat ∧ (1251000 : Word32).toNat ≤ 1251000
      ∧ (overpouring none).faults.active .overpour 0 = false ∧ (overpouring none).bank.safeOverpour = true
      ∧ (((overpouring (some 1252000)).pause 0).state.episode.bind Episode.overpour).isSome = true
      ∧ (overpouring none).shore.silence ≠ .silent :=
  ⟨empty_faults_sound, by decide, by decide, by decide, by decide +kernel, by decide, by decide, by decide, by decide,
    by decide +kernel, by decide, by decide⟩

/-- LOADING with shore silence supervision in a state. -/
def shoreIs (x : Silence) : State := { loading with shore := { loading.shore with silence := x, beaconAt := some 100 } }
/-- ShoreTelegramIsASignOfLife: after silence and before it. -/
theorem witness_sign_of_life : (shoreIs .silent).inService ∧ (shoreIs .silent).otherNode 9 ∧ (255 : Byte) = allNodes
    ∧ (List.replicate 56 (0 : Byte)).length ≤ 56 ∧ (shoreIs .silent).shore.silence = .silent ∧ (shoreIs .silent).faults.sound
    ∧ (shoreIs .disarmed).shore.silence ≠ .silent :=
  ⟨⟨⟨by decide, by decide⟩, by decide⟩, ⟨by decide, by decide, by decide +kernel⟩, by decide, by decide, by decide,
    empty_faults_sound, by decide⟩
/-- ShoreTimersRaiseSilenceAndSendBeacons: both timers at their deadline, in a session and outside, at an idle
shore port. -/
theorem witness_shore_timers :
    let s := shoreIs (.watching 100)
    s.ready ∧ s.working = true ∧ s.shore.silence = .watching 100 ∧ 100 ≤ s.now ∧ s.faults.sound ∧ s.sys.sessionOpen = true
      ∧ { s with sys := standby.sys }.sys.sessionOpen = false ∧ s.shore.beaconAt = some 100 ∧ s.out.shore.queue = []
      ∧ s.out.shore.sending = none :=
  ⟨⟨by decide, by decide⟩, by decide, by decide, by decide, empty_faults_sound, by decide, by decide, by decide, by decide, by decide⟩

/-- ShoreTimersRaiseSilenceAndSendBeacons: a shore queue with one place, and the small ship's advisory ALERTs, which
are not copied to the shore. -/
theorem witness_beacon_sequence : (List.replicate 15 (entry 2)).length < 16
    ∧ (shoreIs .disarmed).out.shore.queue.length < 16 ∧ (shoreIs .disarmed).bank.alertShore .advisory = false :=
  ⟨by decide, by decide, by decide +kernel⟩

/-- DraftBecomesTheReading: the largest drafts that are OK. -/
theorem witness_draft : standby.inService ∧ standby.otherNode 21 ∧ standby.bank.role 21 = .draft
    ∧ decide ((0 : Byte) = 0 ∧ (30000 : Word16).toNat ≤ 30000) = true :=
  ⟨standby_inService, ⟨by decide, by decide, by decide +kernel⟩, by decide +kernel, by decide⟩
/-- STANDBY with the interval timer at its deadline. -/
def intervalDue : State := { standby with engine := { Engine.reset with intervalAt := some 100 } }
/-- IntervalExpiryBeginsOrCoalesces: an idle engine and one in flight, the groups sealed and not. -/
theorem witness_interval : intervalDue.ready ∧ intervalDue.working = true ∧ intervalDue.engine.intervalAt = some 100 ∧ 100 ≤ intervalDue.now
    ∧ intervalDue.engine.inFlight = false ∧ { intervalDue.engine with inFlight := true }.inFlight = true
    ∧ intervalDue.mgmt.ship.isSealed = false ∧ intervalDue.mgmt.plan.isSealed = false
    ∧ { intervalDue.mgmt.ship with isSealed := true }.isSealed = true :=
  ⟨⟨by decide, by decide⟩, by decide, by decide, by decide, by decide, rfl, by decide, by decide, rfl⟩
/-- The small ship with its tank 0 gone and a tank 1 in its place, and pump 0 moved from 30 to 31. -/
def moved : ShipBank :=
  { ship with
    route := { ship.route with mem := (ship.route.mem.write 90 0).write 93 4 }
    tank := image (List.replicate 20 0 ++ enc1 1 ++ enc1 10 ++ enc1 0 ++ enc4 200000 ++ enc2 1000)
    ship := image (List.replicate 10 0) }
/-- The interval timer due with a ship sealed that moves a pump; the pump has an order of console 10 outstanding
and one held. -/
def switching (b : ShipBank) : State :=
  { intervalDue with
    mgmt := { standby.mgmt with ship := { standby.mgmt.ship with staging := b, isSealed := true } }
    stations := upd standby.stations 0 fun r => { r with outstanding := some ⟨4, .pumpStart, 0, 50, some 10, 99, 109⟩ }
    screen := { Screen.reset with held := [heldAt 0] } }
/-- IntervalExpiryBeginsOrCoalesces: tanks fitted in both banks, in one and in the other; a hold that stays and one
that does not; stations kept and renewed. -/
theorem witness_switch : (switching moved).ready ∧ (switching moved).mgmt.ship.isSealed = true ∧ (switching moved).faults.sound
    ∧ (ship.tankFitted 0 = true ∧ moved.tankFitted 0 = false) ∧ (ship.tankFitted 1 = false ∧ moved.tankFitted 1 = true)
    ∧ ((switching ship).bank.tankFitted 0 = true ∧ ((switching ship).tank 0).gauge.isLost = false)
    ∧ (ship.holdFitted 0 = true ∧ moved.holdFitted 0 = false)
    ∧ ((switching moved).station 0).address ≠ addressIn moved.stationBindings 0 ∧ ((switching moved).station 0).address ≠ none
    ∧ ((switching moved).station 10).address = addressIn moved.stationBindings 10 ∧ (switching moved).heldOf 10 = none :=
  ⟨⟨by decide, by decide⟩, by decide, empty_faults_sound, by decide +kernel, by decide +kernel,
    ⟨by decide +kernel, by decide⟩, by decide +kernel, by decide +kernel, by decide, by decide +kernel, by decide⟩
/-- IntervalExpiryBeginsOrCoalesces: an outstanding and a held order of the moved pump, at an idle console port. -/
theorem witness_withdrawn : (switching moved).consoleIdle ∧ ((switching moved).station 0).address = some 30
    ∧ addressIn moved.stationBindings 0 ≠ some 30
    ∧ ((switching moved).station 0).outstanding = some ⟨4, .pumpStart, 0, 50, some 10, 99, 109⟩
    ∧ (switching moved).screen.held = [heldAt 0] ∧ ((switching moved).station (heldAt 0).station).address ≠ some 31 :=
  ⟨⟨by decide, by decide⟩, by decide, by decide +kernel, by decide, by decide, by decide⟩

/-- A snapshot of nothing but lightship figures over a ship. -/
def snapshot (b : ShipBank) : Snapshot :=
  { masses := Vector.replicate 48 0, uncertainty := Vector.replicate 32 0, reading := none, readingAge := 0, shipGen := 1, planGen := 1
    session := none, live := false, marks := ⟨800, 950, 900, 30000, 30000, 0, 0, 100, 200⟩, tables := b }
/-- An evaluation in flight over the small ship, whose HYDRO table's first row stands at 0 t. -/
def inFlight (damaged : Bool) : State :=
  { standby with engine := { Engine.reset with inFlight := true, damaged := damaged, snapshot := some (snapshot ship) } }
/-- CompletionPublishesARecord, HydroFlagDrivesItsFault: an evaluation that is valid, and one that is damaged. -/
theorem witness_completion :
    (inFlight false).ready ∧ (inFlight false).engine.inFlight = true ∧ (inFlight false).engine.snapshot = some (snapshot ship)
      ∧ (inFlight false).engine.abandon = false ∧ (inFlight false).engine.pending = false ∧ (inFlight false).validNow = true
      ∧ (inFlight false).faults.anyActive .tableFault = false ∧ (inFlight false).faults.sound
      ∧ (inFlight true).engine.damaged = true ∧ (inFlight true).faults.active .conditionInvalid subjectNone = false
      ∧ (inFlight true).sys.mode = .standby :=
  ⟨⟨by decide, by decide⟩, by decide, rfl, by decide, by decide, by decide, by decide, empty_faults_sound, by decide, by decide, by decide⟩
/-- The small ship with a shear factor for hold 0, so that 100.0 t of cargo there give 50 permille of shear. -/
def bent : ShipBank := { ship with influence := { mem := Memory.writeBytes [] 3072 (encS2 16384), check := 0 } }
/-- A snapshot of session 7 over that ship: cargo in hold 0, ballast in tank 0, a draft window and a draft reading. -/
def current (cargo ballast maxFwd minFwd : Int) (reading : Option DraftReading) : Snapshot :=
  { snapshot bent with
    masses := upd (upd (Vector.replicate 48 0) 32 fun _ => cargo) 0 fun _ => ballast
    session := some 7, live := true, reading := reading
    marks := ⟨800, 950, 900, maxFwd, 30000, minFwd, -30000, 100, 200⟩ }
/-- LOADING with loader 0 pouring into hold 0, step 1 of the small plan active, each draft run one short of its
count, and the evaluation of a snapshot in flight. -/
def publishing (n : Snapshot) (rs : ReasonSet) : State :=
  { loading with
    mgmt := { loading.mgmt with ship := { loading.mgmt.ship with active := bent } }
    shore := { Shore.reset with loaders := upd Shore.reset.loaders 0 fun r => { r with belt := .running, spout := some 0 } }
    tracker := { Tracker.reset with tracking := .tracking ⟨1, 0, 0, 90, none, 0, none⟩ }
    engine := { Engine.reset with inFlight := true, snapshot := some n, overRun := 2, withinRun := 2 }
    pacing := { Pacing.reset with
      loaders := Vector.replicate 4 ⟨.pauseSent ⟨none, 90, rs, none, none, none⟩, rs, none⟩ } }
/-- The figures it publishes. -/
def figures (n : Snapshot) : Figures := (publishing n 0).figuresOf n
/-- CompletionPublishesARecord: a session-current evaluation that is VALID, one with a request pending, and one that a
RELOAD has abandoned. -/
theorem witness_publication :
    let s := publishing (current 1900 0 30000 (-30000) none) 0
    s.ready ∧ s.engine.inFlight = true ∧ s.engine.snapshot = some (current 1900 0 30000 (-30000) none) ∧ s.engine.abandon = false
      ∧ s.engine.damaged = false ∧ s.faults.anyActive .tableFault = false ∧ s.faults.sound ∧ s.engine.pending = false
      ∧ s.sys.sessionOpen = true ∧ State.sessionCurrent (current 1900 0 30000 (-30000) none) = true
      ∧ State.sessionCurrent (snapshot ship) = false ∧ { s.engine with pending := true }.pending = true
      ∧ { s.engine with abandon := true }.abandon = true ∧ s.mgmt.ship.isSealed = false ∧ s.mgmt.plan.isSealed = false :=
  ⟨⟨by decide, by decide⟩, by decide, rfl, by decide, by decide, by decide, empty_faults_sound, by decide, by decide, by decide,
    by decide, rfl, rfl, by decide, by decide⟩
/-- CompletionPublishesARecord: the forward draft just past each mark of the draft window, and at each clearing mark;
a reading just past the draft tolerance and at it, each completing its run of 3. -/
theorem witness_publication_drafts :
    (let f := figures (current 2000 0 119 (-30000) none); f.fwd = 20 ∧ 119 - 100 < f.fwd) ∧
    (let f := figures (current 2000 0 220 (-30000) none); ¬220 - 100 < f.fwd ∧ f.fwd ≤ 220 - 200 ∧ f.aft ≤ 30000 - 200) ∧
    (let f := figures (current 2000 0 30000 (-79) none); f.fwd < -79 + 100) ∧
    (let f := figures (current 2000 0 30000 (-180) none); -180 + 200 ≤ f.fwd ∧ -30000 + 200 ≤ f.aft) ∧
    (let f := figures (current 2000 0 30000 (-30000) (some ⟨171, 20, true, 99⟩)); f.readingUsed = true ∧ bent.draftCount ≤ f.overRun) ∧
    (let f := figures (current 2000 0 30000 (-30000) (some ⟨170, 20, true, 99⟩));
      f.readingUsed = true ∧ ¬bent.draftCount ≤ f.overRun ∧ bent.draftCount ≤ f.withinRun) := by decide +kernel
/-- CompletionPublishesARecord: the peak at 1000, below the release mark 900 and at it; the lag at its two raising
marks, past its two clearing marks and between. -/
theorem witness_publication_marks :
    (figures (current 2000 0 30000 (-30000) none)).peak.value = 1000 ∧ (figures (current 1798 0 30000 (-30000) none)).peak.value < 900
      ∧ (figures (current 1800 0 30000 (-30000) none)).peak.value = 900
      ∧ (figures (current 2000 8500 30000 (-30000) none)).lag = some 8000 ∧ planOne.lagPause = 8000
      ∧ (figures (current 2000 4499 30000 (-30000) none)).lag = some 3999 ∧ planOne.lagRelease = 4000
      ∧ (figures (current 2000 4500 30000 (-30000) none)).lag = some 4000
      ∧ (figures (current 2000 (-7500) 30000 (-30000) none)).lag = some (-8000) ∧ planOne.leadLimit = -8000
      ∧ (figures (current 2000 (-3499) 30000 (-30000) none)).lag = some (-3999) ∧ planOne.leadRelease = -4000 := by decide +kernel
/-- CompletionPublishesARecord: loader 0 is adverse over its hold from the very figure of the record on, and loader 1,
which stands for no hold, nowhere. -/
theorem adverse_over (n : Snapshot) (rs : ReasonSet) (u : Int)
    (h : (figures n).stations = [⟨u, 0, 0, 0, u, u, 0, 0⟩]) (hu : 0 < u) (hn : (publishing n rs).standsFor 0 = some 0) :
    (publishing n rs).adverseOver (figures n) 0 u :=
  ⟨0, 0, ⟨u, 0, 0, 0, u, u, 0, 0⟩, hn, by rw [h]; rfl, .inl ⟨by
    rw [show (publishing n rs).bank.shearFactor (32 + 0) 0 = 16384 by show bent.shearFactor 32 0 = 16384; decide +kernel]
    exact Int.mul_pos (by decide) hu, Int.le_refl u⟩⟩
theorem not_adverse (n : Snapshot) (rs : ReasonSet) (m : Int) : ¬(publishing n rs).adverseOver (figures n) 1 m := by
  rintro ⟨h, st, g, e, -⟩
  rw [show (publishing n rs).standsFor 1 = none by show planOne.slotAssign 0 1 = none; decide +kernel] at e
  cases e
/-- CompletionPublishesARecord: the rows of R80 and R81: band LIMIT; band PAUSE with a loader adverse at the pause mark
and one that is not; band CAUTION with a loader adverse at the release mark; band NORMAL. -/
theorem witness_publication_stress :
    (figures (current 2000 0 30000 (-30000) none)).band = .limit ∧ (figures (current 1900 0 30000 (-30000) none)).band = .pause
      ∧ (publishing (current 1900 0 30000 (-30000) none) 0).adverseOver (figures (current 1900 0 30000 (-30000) none)) 0 950
      ∧ ¬(publishing (current 1900 0 30000 (-30000) none) 0).adverseOver (figures (current 1900 0 30000 (-30000) none)) 1 950
      ∧ (publishing (current 1800 0 30000 (-30000) none) 2).adverseOver (figures (current 1800 0 30000 (-30000) none)) 0 900
      ∧ ¬(publishing (current 1800 0 30000 (-30000) none) 2).adverseOver (figures (current 1800 0 30000 (-30000) none)) 1 900
      ∧ ((publishing (current 1800 0 30000 (-30000) none) 2).pause 0).reasons.has .stress = true
      ∧ ((publishing (current 1900 0 30000 (-30000) none) 0).pause 0).reasons.has .stress = false
      ∧ (figures (current 1800 0 30000 (-30000) none)).band = .caution ∧ (figures (current 1598 0 30000 (-30000) none)).band = .normal :=
  ⟨by decide +kernel, by decide +kernel, adverse_over _ _ 950 (by decide +kernel) (by decide) (by decide +kernel), not_adverse _ _ _,
    adverse_over _ _ 900 (by decide +kernel) (by decide) (by decide +kernel), not_adverse _ _ _, by decide, by decide,
    by decide +kernel, by decide +kernel⟩
/-- The small ship with its two rows' LCB far aft, so that a mass at the midship section trims it past the clamp. -/
def farAft : ShipBank :=
  { ship with
    hydro := image (enc4 0 ++ enc2 0 ++ encS2 30000 ++ enc4 1 ++ enc4 1000000 ++ enc2 10000 ++ encS2 30000 ++ enc4 1)
    ship := image (enc4 500000 ++ enc2 0 ++ enc1 1 ++ enc1 1 ++ enc1 1 ++ enc1 2) }
/-- TrimIsRoundedAndClamped: a trim inside the range, one clamped, and an MCT of 0. -/
theorem witness_trim : 0 < (snapshot ship).mct ∧ 0 < (snapshot farAft).mct
    ∧ 9999 < roundDiv ((snapshot farAft).disp * ((snapshot farAft).lcb - (snapshot farAft).lcg)) (10 * (snapshot farAft).mct)
    ∧ (snapshot { ship with hydro := image [] }).mct ≤ 0 := by decide +kernel
/-- The small ship with a lightship mass and LCBs that trim it 627 mm by the head, as in chapter 3's example. -/
def byTheHead : ShipBank :=
  { ship with
    hydro := image (enc4 0 ++ enc2 0 ++ encS2 (-627) ++ enc4 100 ++ enc4 1000000 ++ enc2 10000 ++ encS2 (-627) ++ enc4 100)
    ship := image (enc4 1000 ++ enc2 0 ++ enc1 1 ++ enc1 1 ++ enc1 1 ++ enc1 2) }
/-- DraftsDifferByTheTrim: the example's trim of −627 mm. -/
theorem witness_drafts : (snapshot byTheHead).trim = -627 := by decide +kernel
/-- PeakIsTheFirstLargestFigure: two stations that share the largest figure; marks that touch. -/
theorem witness_peak :
    let f : StationFig := ⟨0, 0, 0, 0, 0, 5, 0, 5⟩
    (∀ x ∈ [f, f], 0 ≤ x.uShearGuarded ∧ 0 ≤ x.uMomentGuarded) ∧ [f, f] ≠ []
      ∧ (let m : Marks := ⟨950, 950, 900, 0, 0, 0, 0, 0, 0⟩
         m.caution ≤ m.pause ∧ m.pause ≤ 1000) := by decide
/-- DivisionsRoundAsTheManualSays: a half, rounded away from zero, and divisors of both signs. -/
theorem witness_divisions : (-2 : Int) ≠ 0 ∧ (0 : Int) < 2 ∧ roundDiv (-5) 2 = -3 ∧ roundDiv 5 (-2) = -3 := by decide

/-- LOADING with a step of the small plan active. -/
def tracking : State :=
  { loading with tracker := { Tracker.reset with tracking := .tracking ⟨1, 0, 0, 90, none, 0, none⟩ } }
/-- AdvanceStopsAtAnUnmetTarget: an unmet target. -/
theorem witness_advance : tracking.tracker.tracking = .tracking ⟨1, 0, 0, 90, none, 0, none⟩
    ∧ tracking.totalCargo < tracking.targetOf 1 ∧ tracking.advance.tracker = tracking.tracker := by decide +kernel
/-- AdvanceStopsAtAnUnmetTarget: a plan of three steps with the totals at the second target, at the last (three STEP
records, numbered from 1), and no step active. -/
theorem witness_advance_over :
    let plan : PlanBank := { planOne with
      steps := image (enc1 1 ++ enc4 1000 ++ enc4 500 ++ enc4 0 ++ enc1 2 ++ enc4 2000 ++ enc4 400 ++ enc4 0
        ++ enc1 3 ++ enc4 3000 ++ enc4 300 ++ enc4 0) }
    let s := fun c : Int => ({ tracking with
      mgmt := { tracking.mgmt with plan := { tracking.mgmt.plan with active := plan } }
      shore := { Shore.reset with holds := upd Shore.reset.holds 0 fun _ => ⟨c, 0, c⟩ } } : State)
    (∃ b, (s 2000).advance.tracker.tracking = .tracking b ∧ b.k = 3 ∧ (s 2000).advance.tracker.stepsDone = 2)
      ∧ ((s 3000).advance.tracker.tracking = .complete ∧ (s 3000).advance.tracker.stepsDone = 3 ∧ (s 3000).sys.sessionOpen = true)
      ∧ ((s 3000).advance.reports.records.map fun r => (r.number, r.kind, r.body.headD 0))
        = [(1, .step, 1), (2, .step, 2), (3, .step, 3)]
      ∧ loading.tracker.tracking = .noSession :=
  ⟨⟨⟨3, 2000, 400, 100, none, 0, none⟩, by decide +kernel⟩, by decide +kernel, by decide +kernel, by decide⟩
/-- LOADING with loader 3 paused for a set of reasons. -/
def pausedFor (rs : ReasonSet) : State :=
  { loading with
    pacing := { Pacing.reset with
      loaders := upd Pacing.reset.loaders 3 fun _ => ⟨.pauseSent ⟨none, 90, rs, none, none, none⟩, rs, some 100⟩ } }
/-- ManualRequestsMoveOneReason: a set that fills, one that stays filled, one that empties. -/
theorem witness_manual : loading.inCircuit ∧ loading.manager 10 ∧ loading.sys.sessionOpen = true ∧ (3 : Byte).toNat < 4
    ∧ (loading.pause 3).reasons = 0 ∧ ((pausedFor Reason.manual.single).pause 3).reasons ≠ 0
    ∧ ((pausedFor Reason.manual.single).pause 3).reasons.remove .manual = 0
    ∧ ((pausedFor (Reason.stress.single ||| Reason.manual.single)).pause 3).reasons.remove .manual ≠ 0 ∧ loading.faults.sound :=
  ⟨loading_inCircuit, console_manages, by decide, by decide, by decide, by decide, by decide, by decide, empty_faults_sound⟩
/-- ConfirmTimerRaisesPauseUnconfirmed. -/
theorem witness_confirm :
    let s := pausedFor Reason.manual.single
    s.ready ∧ s.working = true ∧ (s.pause 3).timer = some 100 ∧ 100 ≤ s.now ∧ s.faults.sound :=
  ⟨⟨by decide, by decide⟩, by decide, by decide, by decide, empty_faults_sound⟩

/-- Pump 0 with a presence, its timer at its deadline. -/
def pumpIs (p : Presence) : State :=
  { standby with stations := upd standby.stations 0 fun r => { r with presence := p, presenceAt := some 100 } }
/-- StateTelegramIsRecordedOrCounted: a STATE that can be read at the top of its ranges, and one past them, of a
pump that is OUT_OF_SERVICE and of one that was SILENT. -/
theorem witness_state : (pumpIs .silent).inService ∧ (pumpIs .silent).otherNode 30 ∧ (pumpIs .silent).bank.stationOf 30 = some 0
    ∧ (readState true (statePayload (.pump 4 1 100 6000 1))).isSome = true
    ∧ readState true (statePayload (.pump 4 1 101 6000 1)) = none ∧ (pumpIs .silent).faults.sound
    ∧ ((pumpIs .silent).station 0).presence = .silent ∧ ((pumpIs .outOfService).station 0).presence = .outOfService :=
  ⟨⟨⟨by decide, by decide⟩, by decide⟩, ⟨by decide, by decide, by decide +kernel⟩, by decide +kernel, by decide +kernel,
    by decide +kernel, empty_faults_sound, by decide, by decide⟩
/-- AckClosesTheMatchingOrder: the order's sequence, and another. -/
theorem witness_ack : ordered.inService ∧ ordered.otherNode 42 ∧ ordered.bank.stationOf 42 = some 10
    ∧ (ordered.station 10).outstanding = some ⟨61, .valveOpen, 0, 0, some 10, 92, 100⟩ ∧ ordered.heldSound ∧ ordered.heldOf 10 = none
    ∧ ordered.faults.sound ∧ (∀ x, (ordered.station 10).outstanding = some x → x.seq ≠ 62) :=
  ⟨⟨⟨by decide, by decide⟩, by decide⟩, ⟨by decide, by decide, by decide +kernel⟩, by decide +kernel, by decide,
    ⟨by decide, by decide, by decide⟩, by decide, empty_faults_sound, by rintro x h; cases h; decide⟩
/-- StationTimersTimeOutOrdersAndPresence: both at their deadline. -/
theorem witness_station_timers : ordered.ready ∧ ordered.working = true ∧ 100 ≤ ordered.now ∧ (pumpIs .present).ready
    ∧ (pumpIs .present).working = true ∧ ((pumpIs .present).station 0).presenceAt = some 100 ∧ (pumpIs .present).faults.sound :=
  ⟨⟨by decide, by decide⟩, by decide, by decide, ⟨by decide, by decide⟩, by decide, by decide, empty_faults_sound⟩

/-- STANDBY with the line of pump 0 ready for a BALLAST start: sea and tank valves OPEN, overboard CLOSED. -/
def lineReady : State :=
  let valve := fun p : ValvePos => some (LastState.valve p 0 false)
  { standby with
    stations := upd (upd (upd (upd standby.stations 0 fun r => { r with
        presence := .present, last := some (.pump .stopped .ballast 0 0 false) }) 8 fun r => { r with
        presence := .present, last := valve .opened }) 9 fun r => { r with presence := .present, last := valve .closed }) 10 fun r => { r with
        presence := .present, last := valve .opened } }
/-- OrderHasTheOutcomeOfItsJudgement: the premises common to its clauses, for the pump and for its tank valve. -/
theorem witness_order : lineReady.inService ∧ lineReady.otherNode 10 ∧ lineReady.bank.role 10 = .console ∧ (30 : Byte) ≠ 0
    ∧ (30 : Byte) ≠ allNodes ∧ (30 : Byte) ≠ lineReady.bank.ownAddress ∧ lineReady.bank.stationOf 30 = some 0
    ∧ lineReady.bank.stationOf 42 = some 10 ∧ lineReady.heldOf 0 = none
    ∧ State.readOrder 0 (consoleOrderTelegram 30 10 1 1 0 100) = some ⟨.pumpStart, 0, 100, 1, 10⟩ :=
  ⟨⟨⟨by decide, by decide⟩, by decide⟩, ⟨by decide, by decide, by decide +kernel⟩, by decide +kernel, by decide, by decide,
    by decide +kernel, by decide +kernel, by decide +kernel, by decide, by decide +kernel⟩
/-- OrderHasTheOutcomeOfItsJudgement: a start forwarded, a stop forwarded, an order behind an outstanding one, and
a start of a pump that is OUT_OF_SERVICE. -/
theorem witness_judgements :
    lineReady.judge 0 ⟨.pumpStart, 0, 100, 1, 10⟩ = .forward ∧ lineReady.judge 0 ⟨.pumpStop, 0, 0, 1, 10⟩ = .forward
      ∧ ordered.judge 10 ⟨.valveClose, 0, 0, 1, 10⟩ = .keep .awaitingAck
      ∧ (pumpIs .outOfService).judge 0 ⟨.pumpStart, 0, 100, 1, 10⟩ = .refuse .outOfService
      ∧ lineReady.out.field.queue.length < 32 ∧ ordered.screen.held.length < 16
      ∧ 16 ≤ ({ ordered with screen := { ordered.screen with held := (List.range 16).map fun k => heldAt (20 + k) } } :
          State).screen.held.length := by decide +kernel
/-- OrderHasTheOutcomeOfItsJudgement: a held entry of the ordered valve, alone in the list, superseded by an order that
is held again; of a pump that is OUT_OF_SERVICE, refused; and of the ready pump, forwarded. -/
theorem witness_superseded :
    let held := fun (s : State) (i : Nat) => ({ s with screen := { Screen.reset with held := [heldAt i] } } : State)
    (held ordered 10).inService ∧ (held ordered 10).heldSound ∧ (held ordered 10).heldOf 10 = some (heldAt 10)
      ∧ (held ordered 10).consoleIdle ∧ (held ordered 10).screen.held = [heldAt 10]
      ∧ State.readOrder 10 (consoleOrderTelegram 42 10 2 5 0 0) = some ⟨.valveClose, 0, 0, 2, 10⟩
      ∧ (held ordered 10).judge 10 ⟨.valveClose, 0, 0, 2, 10⟩ = .keep .awaitingAck
      ∧ (held (pumpIs .outOfService) 0).judge 0 ⟨.pumpStart, 0, 100, 1, 10⟩ = .refuse .outOfService
      ∧ (held lineReady 0).judge 0 ⟨.pumpStart, 0, 100, 1, 10⟩ = .forward ∧ (held lineReady 0).out.field.queue.length < 32 :=
  ⟨⟨⟨by decide, by decide⟩, by decide⟩, ⟨by decide, by decide, by decide⟩, by decide, ⟨by decide, by decide⟩, by decide,
    by decide +kernel, by decide +kernel, by decide +kernel, by decide +kernel, by decide⟩
/-- The state with the field queue full of class-0 telegrams. -/
def fieldBusy (s : State) : State := { s with out := { s.out with field := busy (List.replicate 32 (entry 0)) } }
/-- OrderHasTheOutcomeOfItsJudgement: a start that finds no place, no ADVISORY going to the console. -/
theorem witness_queue_full :
    let quiet : ShipBank := { ship with part := { ship.part with mem := ship.part.mem.write 22 0 } }
    (fieldBusy lineReady).fieldFull ∧ (fieldBusy lineReady).consoleIdle ∧ (fieldBusy lineReady).heldOf 0 = none
      ∧ (fieldBusy lineReady).judge 0 ⟨.pumpStart, 0, 100, 1, 10⟩ = .forward ∧ quiet.alertConsole .advisory = false :=
  ⟨⟨by decide, .inr (by decide)⟩, ⟨by decide, by decide⟩, by decide, by decide +kernel, by decide +kernel⟩
/-- OrderHasTheOutcomeOfItsJudgement: bad content at each boundary: types 0 and 6, a valve type to a pump, a pump type to
a valve, a start's mode 2, a setpoint of 101. -/
theorem witness_bad_order : lineReady.bank.stationOf 30 = some 0 ∧ lineReady.bank.stationOf 42 = some 10 ∧ (255 : Byte) ≠ 0
    ∧ (255 : Byte) ≠ lineReady.bank.ownAddress ∧ (5 : Byte) < 6 ∧ (0 < 8 ∧ (3 : Byte) < 4) ∧ (8 ≤ 10 ∧ (3 : Byte) < 4)
    ∧ (1 : Byte) < 2 ∧ (100 : Byte) < 101 :=
  ⟨by decide +kernel, by decide +kernel, by decide, by decide +kernel, by decide, by decide, by decide, by decide, by decide⟩
/-- ScreenDeadlinesRefuseAndFree: a held entry and a start slot at their deadline. -/
theorem witness_screen_deadlines :
    let s := { standby with screen := { Screen.reset with held := [heldAt 10], slot := some ⟨0, .ballast, 90, 100⟩ } }
    s.ready ∧ s.working = true ∧ s.heldOf 10 = some (heldAt 10) ∧ (heldAt 10).deadline ≤ s.now
      ∧ s.screen.slot = some ⟨0, .ballast, 90, 100⟩ ∧ s.heldOf 0 = none ∧ s.faults.sound :=
  ⟨⟨by decide, by decide⟩, by decide, by decide, by decide, by decide, by decide, empty_faults_sound⟩
/-- DryRunTripStopsThePump. -/
theorem witness_dry_run :
    let s := { standby with screen := { Screen.reset with dryAt := upd Screen.reset.dryAt 0 fun _ => some 100 } }
    s.ready ∧ s.working = true ∧ nth s.screen.dryAt 0 none = some 100 ∧ 100 ≤ s.now ∧ s.out.field.queue.length < 32 ∧ s.faults.sound :=
  ⟨⟨by decide, by decide⟩, by decide, by decide, by decide, by decide, empty_faults_sound⟩
/-- DryRunTripStopsThePump: a full field queue, and a fault table with a place. -/
theorem witness_dry_run_full :
    let s := fieldBusy { standby with screen := { Screen.reset with dryAt := upd Screen.reset.dryAt 0 fun _ => some 100 } }
    s.ready ∧ s.working = true ∧ nth s.screen.dryAt 0 none = some 100 ∧ 100 ≤ s.now ∧ s.fieldFull ∧ s.faults.entries.length < 32
      ∧ s.faults.sound :=
  ⟨⟨by decide, by decide⟩, by decide, by decide, by decide, ⟨by decide, .inr (by decide)⟩, by decide, empty_faults_sound⟩

/-- Whether a published record is VALID. -/
def isValid : Published → Bool
  | .valid _ _ => true
  | _ => false
/-- ConditionTimerMakesARecord: the timer at its deadline, without and with a VALID record; intervals 0 and 60. -/
theorem witness_condition_timer :
    let s := { loading with reports := { loading.reports with conditionAt := some 100, interval := 60 } }
    s.ready ∧ s.working = true ∧ s.reports.conditionAt = some 100 ∧ 100 ≤ s.now ∧ (∀ h f, s.engine.published ≠ .valid h f)
      ∧ isValid (after (exec .evaluationComplete (inFlight false))).engine.published = true :=
  ⟨⟨by decide, by decide⟩, by decide, by decide, by decide, fun h f (e : Published.none = .valid h f) => (nomatch e),
    by decide +kernel⟩
/-- STANDBY with the scrub due at a table whose kept check word is off by one. -/
def scrubbed (c : TableCode) : State :=
  { standby with
    mgmt := { standby.mgmt with
      ship := { standby.mgmt.ship with
        active := ship.set { ship.get c with check := checkWordOf c (ship.get c).mem + 1 } c }
      scrubPos := c, scrubAt := some 100 } }
/-- ScrubChecksTheNextTable: an intact table, a damaged one of the evaluation group and one outside it. -/
theorem witness_scrub_intact :
    let s := { standby with mgmt := { standby.mgmt with scrubPos := .pumpLine, scrubAt := some 100 } }
    s.ready ∧ s.working = true ∧ s.mgmt.scrubAt = some 100 ∧ 100 ≤ s.now
      ∧ (s.bank.get s.mgmt.scrubPos).intact s.mgmt.scrubPos = true :=
  ⟨⟨by decide, by decide⟩, by decide, by decide, by decide, ShipBank.intact_withChecks _ _ (by decide)⟩
theorem witness_scrub_damaged (c : TableCode) (hc : c = .hydro ∨ c = .route) :
    let s := scrubbed c
    s.ready ∧ s.working = true ∧ s.mgmt.scrubAt = some 100 ∧ 100 ≤ s.now ∧ (s.bank.get s.mgmt.scrubPos).intact s.mgmt.scrubPos = false
      ∧ s.faults.sound ∧ s.faults.active .tableFault c.code = false ∧ s.sys.mode ≠ .safe := by
  refine ⟨⟨rfl, by intro h; cases h⟩, rfl, rfl, Nat.le_refl 100, ?_, empty_faults_sound, rfl, by intro h; cases h⟩
  show ((ship.set { ship.get c with check := checkWordOf c (ship.get c).mem + 1 } c).get c).intact c = false
  rw [ShipBank.get_set _ _ (by rcases hc with rfl | rfl <;> decide)]
  exact TableImage.not_intact_off_by_one c _
/-- AlarmTogglesWhilePulsing. -/
theorem witness_alarm :
    let s := { standby with faults := { Faults.reset with alarm := .pulsing, pulseAt := 100 } }
    s.ready ∧ s.faults.alarm = .pulsing ∧ s.faults.pulseAt ≤ s.now := ⟨⟨by decide, by decide⟩, by decide, by decide⟩

/-- StoreWritesTheActiveShip: a STORE accepted, and its end over an image that holds and over one that does not. -/
theorem witness_store : standby.inService ∧ standby.manager 10 ∧ standby.mgmt.writing = none ∧ standby.mgmt.ship.isSealed = false
    ∧ standby.faultedTable = none ∧ ship.firstDamaged = none :=
  ⟨standby_inService, console_manages, by decide, by decide, by decide, ShipBank.firstDamaged_withChecks _⟩
theorem witness_store_end :
    let j : StoreJob := ⟨10, 1, ShipBank.blank, 1, 104⟩
    let s := { standby with mgmt := { standby.mgmt with writing := some j } }
    s.ready ∧ s.mgmt.writing = some j ∧ s.faults.sound ∧ j.bank.firstDamaged ≠ none :=
  ⟨⟨by decide, by decide⟩, rfl, empty_faults_sound, by decide +kernel⟩
/-- MalformedRequestsAreRefused: an unknown code, and arguments one short or one too many. -/
theorem witness_malformed : standby.inCircuit ∧ standby.manager 10 ∧ knownRequestCode 10 = false ∧ knownRequestCode 29 = false
    ∧ ([0, 0, 0] : List Byte).length ≠ 4 ∧ ([0, 0, 0] : List Byte).length < 4 ∧ ([0, 0, 0] : List Byte).length ≠ 5
    ∧ ([] : List Byte).length ≠ 1 ∧ ([0] : List Byte) ≠ [] ∧ ([0, 0, 0] : List Byte).length ≠ 2 ∧ ([0, 0] : List Byte).length ≠ 3 :=
  ⟨standby_inCircuit, console_manages, by decide, by decide, by decide, by decide, by decide, by decide, by decide, by decide, by decide⟩
/-- MalformedRequestsAreRefused: the lengths no form has, and each enumeration at its first undefined value. -/
theorem witness_malformed_values : ([] : List Byte).length ≠ 1 ∧ ([] : List Byte).length ≠ 2 ∧ ([0, 0, 0] : List Byte).length ≠ 1
    ∧ ([0, 0, 0] : List Byte).length ≠ 2 ∧ ([0] : List Byte).length ≠ 2 ∧ ([0] : List Byte).length ≠ 3 ∧ ([0, 0] : List Byte).length ≠ 1
    ∧ ([0, 0] : List Byte).length ≠ 3 ∧ (1 : Byte) ≠ 0 ∧ (2 : Byte) < 3 ∧ (1 : Byte) < 2
    ∧ FaultKind.ofCode (0 : Byte).toNat = none ∧ FaultKind.ofCode (25 : Byte).toNat = none := by decide
/-- ReadRequestsAnswerAndChangeNothing: an idle console port and the longest one-segment results; the last 48 bytes
of a table. -/
theorem witness_reads : standby.consoleIdle ∧ (List.replicate 51 (0 : Byte)).length ≤ 51 ∧ standby.inCircuit ∧ standby.manager 10
    ∧ TableCode.ofCode 11 = some .pumpLine ∧ 0 * 256 + 40 + 48 ≤ TableCode.pumpLine.size ∧ standby.working = true
    ∧ standby.bank.tankFitted 0 = true ∧ standby.stationBound 10 = true :=
  ⟨⟨by decide, by decide⟩, by decide, standby_inCircuit, console_manages, by decide, by decide, by decide, by decide +kernel, by decide⟩
/-- ReadRequestsAnswerAndChangeNothing: a fault entry and a report record to read. -/
theorem witness_reads_stored :
    let r : ReportRec := ⟨65535, .step, ⟨0, true⟩, false, false, [0]⟩
    let e : FaultEntry := ⟨.gaugeLost, 0, .activeAck, ⟨0, true⟩, ⟨0, true⟩, 1⟩
    let s := { standby with
      faults := { Faults.reset with entries := [e], marks := [⟨.gaugeLost, 0, ⟨0, true⟩, false⟩] }
      reports := { standby.reports with records := [r] } }
    (0 : Byte).toNat < s.faults.entries.length ∧ s.reports.records.find? (fun x => x.number = 255 * 256 + 255) = some r
      ∧ 1 ≤ r.segments := by decide
/-- ReadRequestsAnswerAndChangeNothing: an empty fault table, and the last advisory counter. -/
theorem witness_read_counters : standby.faults.entries = [] ∧ (12 : Byte) ≤ 12 := by decide
/-- SettingsTakeTheirValue: fixed weight 5 at its largest mass, in a session and 100,000.0 t away from its old mass. -/
theorem witness_settings : standby.inCircuit ∧ standby.manager 10 ∧ loading.inService ∧ loading.manager 10 ∧ (5 : Byte).toNat ≤ 5
    ∧ ((0 * 256 + 15) * 256 + 66) * 256 + 64 ≤ 1000000 ∧ loading.sys.mode = .loading
    ∧ 10000 ≤ absInt ((((0 * 256 + 15) * 256 + 66) * 256 + 64 : Nat) - nth loading.engine.weights 5 0) :=
  ⟨standby_inCircuit, console_manages, loading_inService, console_manages, by decide, by decide, by decide, by decide⟩
/-- WriteTableChangesItsBytesAlone: the last byte of a ship table and of a plan table. -/
theorem witness_write_table : standby.inCircuit ∧ standby.manager 10 ∧ TableCode.ofCode 11 = some .pumpLine
    ∧ 0 * 256 + 87 + ([1] : List Byte).length ≤ TableCode.pumpLine.size ∧ TableCode.ofCode 17 = some .planSteps
    ∧ 3 * 256 + 63 + ([1] : List Byte).length ≤ TableCode.planSteps.size ∧ standby.sealedFor .pumpLine = false
    ∧ standby.sealedFor .planSteps = false ∧ (standby.stagingTable .pumpLine).mem.wf = true
    ∧ (standby.stagingTable .planSteps).mem.wf = true :=
  ⟨standby_inCircuit, console_manages, by decide, by decide, by decide, by decide, by decide, by decide, by decide +kernel,
    by decide +kernel⟩
/-- CommitSealsAValidBank: a valid plan and a valid ship, the engine in flight and idle. -/
theorem witness_commit : standby.mgmt.plan.isSealed = false ∧ standby.mgmt.plan.staging.validate standby.bank = none
    ∧ standby.engine.inFlight = false ∧ (inFlight false).engine.inFlight = true ∧ (inFlight false).sys.mode = .standby
    ∧ (inFlight false).mgmt.writing = none ∧ (inFlight false).mgmt.ship.isSealed = false
    ∧ (inFlight false).mgmt.ship.staging.validate = none ∧ unconfigured.mgmt.ship.staging.validate = none
    ∧ PlanBank.validate { planOne with steps := image [] } standby.bank = some ⟨.planSteps, 0⟩ := by decide +kernel
theorem witness_commit_agents : standby.inService ∧ standby.manager 10 ∧ unconfigured.inCircuit ∧ unconfigured.manager 10
    ∧ unconfigured.sys.mode = .unconfigured ∧ (inFlight false).inCircuit ∧ (inFlight false).manager 10 :=
  ⟨standby_inService, console_manages, unconfigured_inCircuit, console_manages, by decide, ⟨⟨by decide, by decide⟩, by decide⟩,
    console_manages⟩
/-- CommitSealsAValidBank: a ship committed with the engine idle, in STANDBY, and in SAFE without a session. -/
theorem witness_commit_idle : standby.inService ∧ standby.sessionMode = false ∧ (inMode .safe false).sessionMode = false
    ∧ standby.engine.inFlight = false ∧ standby.mgmt.writing = none ∧ standby.mgmt.ship.isSealed = false
    ∧ standby.mgmt.ship.staging.validate = none :=
  ⟨standby_inService, by decide, by decide, by decide, by decide, by decide, test_ship_validates⟩
/-- A STORE of the console, begun now. -/
def storing : StoreJob := { src := 10, seq := 5, bank := ship, gen := 1, deadline := 104 }
/-- CommitSealsAValidBank: a ship group that fails. -/
theorem witness_commit_ship_fails :
    let s := { standby with mgmt := { standby.mgmt with ship := { standby.mgmt.ship with staging := { ship with ship := image [] } } } }
    s.inCircuit ∧ s.manager 10 ∧ s.sessionMode = false ∧ s.mgmt.writing = none ∧ s.mgmt.ship.isSealed = false
      ∧ s.mgmt.ship.staging.validate = some ⟨.ship, 0⟩ :=
  ⟨⟨⟨by decide, by decide⟩, by decide⟩,
    ⟨⟨by decide, by decide, show (10 : Byte) ≠ ship.ownAddress by decide +kernel⟩,
      show ship.ownAddress ≠ 0 by decide +kernel, fun _ => show ship.role 10 = .console by decide +kernel⟩,
    rfl, rfl, rfl, test_ship_without_holds⟩
/-- CommitSealsAValidBank: both groups sealed during a STORE; LOADING and UNCONFIGURED refuse by the mode. -/
theorem witness_commit_refused :
    let s := { standby with
      mgmt := { standby.mgmt with
        ship := { standby.mgmt.ship with isSealed := true }, plan := { standby.mgmt.plan with isSealed := true }
        writing := some storing } }
    s.inCircuit ∧ s.manager 10 ∧ s.sessionMode = false ∧ s.mgmt.writing ≠ none ∧ s.mgmt.ship.isSealed = true
      ∧ s.sys.mode ≠ .unconfigured ∧ s.mgmt.plan.isSealed = true ∧ loading.inCircuit ∧ loading.sessionMode = true
      ∧ unconfigured.inCircuit ∧ unconfigured.sys.mode = .unconfigured :=
  ⟨standby_inCircuit, console_manages, rfl, nofun, rfl, nofun, rfl, loading_inCircuit, rfl, unconfigured_inCircuit, rfl⟩
/-- ReloadTakesTheStoredImage: a valid store in STANDBY, an evaluation in flight and not, and a store without its
mark. -/
theorem witness_reload_request :
    let s := { inFlight false with mgmt := { standby.mgmt with store := ⟨ship, true⟩ } }
    s.inCircuit ∧ s.manager 10 ∧ s.sessionMode = false ∧ s.mgmt.writing = none ∧ s.storeValid = true ∧ s.engine.inFlight = true
      ∧ s.sys.mode ≠ .unconfigured ∧ standby.sessionMode = false ∧ standby.mgmt.store.mark = false :=
  ⟨⟨⟨by decide, by decide⟩, by decide⟩, console_manages, by decide, by decide, State.storeValid_withChecks rfl rfl, by decide,
    by decide, by decide, by decide⟩
/-- ReloadTakesTheStoredImage: images with their mark whose first or last table fails its check word, and a STORE under
way; LOADING is a session (`witness_commit_refused`). -/
theorem witness_reload_refused :
    let off (b : ShipBank) (c : TableCode) : ShipBank :=
      b.set { b.get c with check := checkWordOf c (b.get c).mem + 1 } c
    let damaged (b : ShipBank) (c : TableCode) : State :=
      { standby with mgmt := { standby.mgmt with store := ⟨off b c, true⟩ } }
    (∀ b, (damaged ship b).inCircuit ∧ (damaged ship b).manager 10 ∧ (damaged ship b).sessionMode = false
      ∧ (damaged ship b).mgmt.writing = none ∧ (damaged ship b).mgmt.store.mark = true)
    ∧ (∀ c ∈ TableCode.shipTables, ((off ship c).get c).intact c = false)
    ∧ (∀ c ∈ TableCode.shipTables, ¬c.code < TableCode.part.code)
    ∧ (∀ c ∈ TableCode.shipTables, c.code < TableCode.pumpLine.code →
        ((off ship.withChecks .pumpLine).get c).intact c = true)
    ∧ { standby with mgmt := { standby.mgmt with writing := some storing } }.mgmt.writing ≠ none := by
  refine ⟨fun _ => ⟨standby_inCircuit, console_manages, rfl, rfl, rfl⟩, fun c h => ?_, by decide, fun c h hl => ?_, by decide⟩
  · rw [ShipBank.get_set _ _ h]; exact TableImage.not_intact_off_by_one c _
  · rw [ShipBank.get_set_ne _ _ h fun e => by simp [e] at hl]; exact ship.intact_withChecks c h
/-- ResetWaitsForItsReply. -/
theorem witness_reset : standby.inCircuit ∧ standby.manager 10 ∧ standby.out.resetWait = .idle ∧ standby.consoleIdle :=
  ⟨standby_inCircuit, console_manages, by decide, by decide, by decide⟩
/-- RequestEvaluationSaysWhatItDid: UNCONFIGURED, and a working mode with the engine idle and in flight. -/
theorem witness_request_evaluation : unconfigured.inCircuit ∧ unconfigured.manager 10 ∧ unconfigured.sys.mode = .unconfigured
    ∧ standby.inService ∧ standby.manager 10 ∧ standby.engine.inFlight = false ∧ (inFlight false).inService
    ∧ (inFlight false).engine.inFlight = true :=
  ⟨unconfigured_inCircuit, console_manages, by decide, standby_inService, console_manages, by decide,
    ⟨⟨by decide, by decide⟩, by decide⟩, by decide⟩
/-- ServiceRequestSetsThePresence: a bound pump that is SILENT, and one that is OUT_OF_SERVICE. -/
theorem witness_service : (pumpIs .silent).inService ∧ (pumpIs .silent).manager 10 ∧ (pumpIs .silent).stationBound 0 = true
    ∧ (pumpIs .silent).faults.sound ∧ ((pumpIs .silent).station 0).presence = .silent
    ∧ ((pumpIs .outOfService).station 0).presence = .outOfService :=
  ⟨⟨⟨by decide, by decide⟩, by decide⟩, console_manages, by decide, empty_faults_sound, by decide, by decide⟩
/-- ReadConditionReportsOnRequest: the one fitted check station. -/
theorem witness_read_condition : standby.inService ∧ standby.manager 10 ∧ (0 : Byte).toNat < standby.bank.stationCount
    ∧ standby.conditionPart (some 0) = some []
    ∧ isValid (after (exec .evaluationComplete (inFlight false))).engine.published = true :=
  ⟨standby_inService, console_manages, by decide +kernel, by decide, by decide +kernel⟩
/-- OpenSessionStartsTheAccount: session numbers 1 and 65535, a plan with a step. -/
theorem witness_open_session : standby.inCircuit ∧ standby.manager 10 ∧ standby.sys.mode = .standby
    ∧ (0 : Byte).toNat * 256 + (1 : Byte).toNat ≠ 0 ∧ (255 : Byte).toNat * 256 + (255 : Byte).toNat ≠ 0
    ∧ standby.criticalActive = false ∧ standby.plan.stepCount ≠ 0 ∧ standby.mgmt.ship.isSealed = false
    ∧ standby.mgmt.plan.isSealed = false :=
  ⟨standby_inCircuit, console_manages, by decide, by decide, by decide, by decide, by decide +kernel, by decide, by decide⟩
/-- SAFE with a session, every loader paused for SAFE, as pausesSound asks. -/
def safeSession : State :=
  { safe with
    pacing := { Pacing.reset with
      loaders := Vector.replicate 4 ⟨.pauseSent ⟨none, 90, Reason.safe.single, none, none, none⟩, Reason.safe.single, none⟩ } }
/-- CloseSessionEndsTheAccount: in LOADING and in SAFE. -/
theorem witness_close_session :
    (loading.inCircuit ∧ loading.manager 10 ∧ loading.sessionMode = true ∧ loading.sys.sessionOpen = true ∧ loading.pausesSound
      ∧ loading.sys.mode = .loading)
    ∧ (safeSession.inCircuit ∧ safeSession.manager 10 ∧ safeSession.sessionMode = true ∧ safeSession.sys.sessionOpen = true
      ∧ safeSession.pausesSound ∧ safeSession.sys.mode = .safe) :=
  ⟨⟨loading_inCircuit, console_manages, by decide, by decide, by unfold State.pausesSound; decide, by decide⟩,
    ⟨⟨by decide, by decide⟩, by decide⟩, console_manages, by decide, by decide, by unfold State.pausesSound; decide, by decide⟩
/-- ClearSafeNeedsNoCriticalMark: SAFE without a CRITICAL mark, SAFE with one, and another mode; a loader that only
SAFE pauses. -/
theorem witness_clear_safe :
    let s := { safe with faults := { Faults.reset with marks := [⟨.overpour, 0, ⟨0, true⟩, true⟩] } }
    safeSession.inCircuit ∧ safeSession.manager 10 ∧ safeSession.sys.mode = .safe ∧ safeSession.criticalActive = false
      ∧ (safeSession.pause 0).reasons ≠ 0 ∧ s.criticalActive = true ∧ standby.sys.mode ≠ .safe :=
  ⟨⟨⟨by decide, by decide⟩, by decide⟩, console_manages, by decide, by decide, by decide, by decide, by decide⟩
/-- AcknowledgementClearsNoMark: one entry in each state. -/
theorem witness_acknowledge :
    let z : Stamp := ⟨0, true⟩
    let s := { standby with
      faults := { Faults.reset with
        entries := [⟨.gaugeLost, 0, .activeUnack, z, z, 1⟩, ⟨.gaugeFault, 0, .activeAck, z, z, 1⟩, ⟨.overpour, 3, .clearedUnack, z, z, 1⟩]
        marks := [⟨.gaugeLost, 0, z, false⟩, ⟨.gaugeFault, 0, z, false⟩] } }
    s.inCircuit ∧ s.manager 10 ∧ s.faults.sound ∧ FaultKind.ofCode 2 = some .gaugeLost
      ∧ s.faults.entry .gaugeLost 0 = some ⟨.gaugeLost, 0, .activeUnack, z, z, 1⟩
      ∧ s.faults.entry .gaugeFault 0 = some ⟨.gaugeFault, 0, .activeAck, z, z, 1⟩
      ∧ s.faults.entry .overpour 3 = some ⟨.overpour, 3, .clearedUnack, z, z, 1⟩ ∧ s.faults.entry .overpour 2 = none :=
  ⟨⟨⟨by decide, by decide⟩, by decide⟩, console_manages, ⟨by decide, by decide, by decide, by decide, by decide, by decide⟩,
    by decide, by decide, by decide, by decide, by decide⟩
/-- AcknowledgementClearsNoMark: a full table with one CLEARED_UNACK entry and a mark that waits; ALL frees the place
and the mark takes it, unacknowledged. -/
theorem witness_acknowledge_waiting :
    let z : Stamp := ⟨0, true⟩
    let marks := (List.range 64).map fun i => (⟨if i < 32 then .gaugeLost else .gaugeFault, i % 32, z, i == 63⟩ : FaultMark)
    let s := { standby with
      faults := { Faults.reset with
        entries := (marks.take 63).map (fun m => (⟨m.kind, m.subject, .activeAck, z, z, 1⟩ : FaultEntry))
          ++ [⟨.overpour, 3, .clearedUnack, z, z, 1⟩]
        marks := marks } }
    s.faults.entry .gaugeFault 31 = none
      ∧ (after (exec (.ackFault 10 1 [1]) s)).faults.entry .gaugeFault 31 = some ⟨.gaugeFault, 31, .activeUnack, z, z, 1⟩ := by
  decide +kernel

/-- The invariants' premises at the state right after power-on, whose step answers next. -/
theorem witness_invariants : State.reset.modeSound ∧ State.reset.alarmSound ∧ State.reset.portsSound ∧ State.reset.faults.sound
    ∧ State.reset.heldSound ∧ State.reset.reportsSound ∧ State.reset.pausesSound ∧ ∃ t, step State.reset = .next t :=
  ⟨⟨by decide, by decide, by decide⟩, by unfold State.alarmSound; decide,
    ⟨⟨by decide, by decide, by decide⟩, ⟨by decide, by decide, by decide⟩, by decide, by decide, by decide⟩, empty_faults_sound,
    ⟨by decide, by decide, by decide⟩, ⟨by decide, trivial, by decide, by decide⟩, by unfold State.pausesSound; decide, _, rfl⟩
/-- EveryStepConservesTonnage: a session with tonnage in a hold. -/
theorem witness_tonnage : pouring.modeSound ∧ pouring.tonnageSound :=
  ⟨⟨by decide, by decide, by decide⟩, by decide, by decide, by decide, by decide, by decide, by decide, by decide⟩
/-- EveryStepKeepsImagesCanonical: at the state right after power-on, and over tables that a COMMIT accepts. -/
theorem witness_canonical : State.reset.canonical = true ∧ standby.mgmt.plan.active.canonical = true
    ∧ standby.mgmt.ship.active.canonical = true := ⟨State.canonical_reset, by decide +kernel, by decide +kernel⟩

end Sys2Proof.Tests
end

section
/-! PROOFS. The active marks of the fault table (R178, R179): what a raising and a clearing do to them, and
which fault kinds each operation between a VALID publication and the next command can touch. -/

namespace Sys2Proof.Machine

namespace Faults

/-! ### The marks after one operation on the table -/

theorem active_iff {f : Faults} {k : FaultKind} {x : Nat} :
    f.active k x = true ↔ ∃ m ∈ f.marks, m.kind = k ∧ m.subject = x := by
  simp [active]

theorem mark_isSome_iff {f : Faults} {k : FaultKind} {x : Nat} :
    (f.mark k x).isSome = true ↔ f.active k x = true := by
  simp [mark, active]

/-- Whether a fault is active is read off the marks alone. -/
theorem active_of_marks_eq {f g : Faults} (h : g.marks = f.marks) (k : FaultKind) (x : Nat) :
    g.active k x = f.active k x := by
  simp only [active, h]

/-- A mark that takes a freed place stays set. -/
@[simp] theorem active_fillPlace (f : Faults) (k : FaultKind) (x : Nat) : f.fillPlace.active k x = f.active k x := by
  unfold fillPlace
  split
  · rfl
  · simp only [active, List.any_map]
    congr 1
    funext m
    simp only [Function.comp_apply]
    split <;> rfl

theorem active_removeMark (f : Faults) (k j : FaultKind) (x y : Nat) :
    (f.removeMark k x).active j y = (f.active j y && !decide (j = k ∧ y = x)) := by
  rw [Bool.eq_iff_iff]
  simp only [active_iff, removeMark, List.mem_filter, Bool.and_eq_true, Bool.not_eq_true', decide_eq_false_iff_not,
    Bool.and_eq_false_iff]
  constructor
  · rintro ⟨m, ⟨hm, hne⟩, rfl, rfl⟩
    exact ⟨⟨m, hm, rfl, rfl⟩, by tauto⟩
  · rintro ⟨⟨m, hm, rfl, rfl⟩, hne⟩
    exact ⟨m, ⟨hm, by tauto⟩, rfl, rfl⟩

theorem active_addMark (f : Faults) (k j : FaultKind) (x y : Nat) (z : Stamp) (w : Bool) :
    (f.addMark k x z w).active j y = (f.active j y || decide (j = k ∧ y = x)) := by
  unfold addMark
  split
  case isTrue h =>
    by_cases hj : j = k ∧ y = x
    · obtain ⟨rfl, rfl⟩ := hj
      simp [h]
    · simp [hj]
  case isFalse => simp [active, eq_comm]

theorem marks_of_makeRoom {f g : Faults} (h : f.makeRoom = some g) : g.marks = f.marks := by
  unfold makeRoom at h
  split at h
  · cases h; rfl
  · split at h
    · cases h; rfl
    · cases h

/-- A raising sets the fault's mark and no other, unless the fault is one that acknowledgement clears, which never
has a mark (R178). -/
theorem active_of_raise {f g : Faults} {k : FaultKind} {x n : Nat} {z : Stamp} (h : f.raise k x z = some (g, n))
    (j : FaultKind) (y : Nat) : g.active j y = (f.active j y || (!k.ackCleared && decide (j = k ∧ y = x))) := by
  have marked : ∀ (g : Faults) (w : Bool), g.marks = f.marks →
      (if k.ackCleared then g else g.addMark k x z w).active j y
        = (f.active j y || (!k.ackCleared && decide (j = k ∧ y = x))) := by
    intro g w hg
    cases k.ackCleared
    · simp [active_addMark, active_of_marks_eq hg]
    · simp [active_of_marks_eq hg]
  unfold raise at h
  dsimp only at h
  split at h
  case h_1 =>
    split at h
    · cases h; exact marked _ _ rfl
    · cases h
  case h_2 =>
    split at h
    · cases h
    · split at h
      case h_1 g' hg =>
        have hroom : g'.marks = f.marks := marks_of_makeRoom hg
        cases h
        exact marked _ _ hroom
      case h_2 => cases h; exact marked _ _ rfl

/-- A clearing takes the fault's mark and no other. -/
theorem active_of_clear {f g : Faults} {k : FaultKind} {x n : Nat} (h : f.clear k x = some (g, n))
    (j : FaultKind) (y : Nat) : g.active j y = (f.active j y && !decide (j = k ∧ y = x)) := by
  rw [← active_removeMark]
  unfold clear at h
  dsimp only at h
  split at h
  case h_1 =>
    split at h
    · cases h; rfl
    · cases h; exact active_fillPlace _ _ _
    · cases h
  case h_2 =>
    split at h
    · cases h; rfl
    · cases h

/-- An entry of a kind and subject in the table is the one the table answers for them, and no other. -/
theorem sound.entry_eq {f : Faults} (hs : f.sound) {e : FaultEntry} (he : e ∈ f.entries) :
    f.entry e.kind e.subject = some e := by
  have hp := hs.oneEntry
  unfold entry
  generalize f.entries = es at he hp ⊢
  induction es with
  | nil => cases he
  | cons a as ih =>
    obtain ⟨ha, has⟩ := List.pairwise_cons.1 hp
    obtain rfl | he := List.mem_cons.1 he
    · simp [FaultEntry.isFor]
    · rw [List.find?_cons_of_neg (by simpa [FaultEntry.isFor] using ha e he)]
      exact ih he has

theorem mem_of_entry {f : Faults} {k : FaultKind} {x : Nat} {e : FaultEntry} (h : f.entry k x = some e) :
    e ∈ f.entries ∧ e.kind = k ∧ e.subject = x :=
  ⟨List.mem_of_find?_eq_some h, by simpa [FaultEntry.isFor] using List.find?_some h⟩

/-- In a sound table a raising that changes nothing is that of an active fault (R178, R179). -/
theorem sound.active_of_raise_none {f : Faults} (hs : f.sound) {k : FaultKind} {x : Nat} {z : Stamp}
    (h : f.raise k x z = none) : f.active k x = true := by
  unfold raise at h
  dsimp only at h
  split at h
  case h_1 e he =>
    split at h
    case isTrue => cases h
    case isFalse hstate =>
      obtain ⟨hmem, rfl, rfl⟩ := mem_of_entry he
      obtain ⟨m, hm, hk, hx, _⟩ := hs.marked e hmem hstate
      exact active_iff.2 ⟨m, hm, hk, hx⟩
  case h_2 =>
    split at h
    case isTrue hmark => exact mark_isSome_iff.1 hmark
    case isFalse => split at h <;> cases h

/-- In a sound table a clearing that changes nothing is that of a fault that is not active (R178, R179). -/
theorem sound.inactive_of_clear_none {f : Faults} (hs : f.sound) {k : FaultKind} {x : Nat}
    (h : f.clear k x = none) : f.active k x = false := by
  unfold clear at h
  dsimp only at h
  split at h
  case h_1 e he =>
    split at h
    · cases h
    · cases h
    case h_3 hstate =>
      rw [Bool.eq_false_iff, ne_eq, active_iff]
      rintro ⟨m, hm, rfl, rfl⟩
      cases hw : m.waiting
      case true =>
        obtain ⟨hmem, hk⟩ := mem_of_entry he
        exact (hs.waits m hm hw).2 e hmem hk
      case false =>
        obtain ⟨e', he', hk, hx, hne⟩ := hs.entered m hm hw
        have heq := hs.entry_eq he'
        rw [hk, hx, he] at heq
        cases heq
        exact hne hstate
  case h_2 =>
    split at h
    case isTrue => cases h
    case isFalse hmark => simpa [mark_isSome_iff] using hmark

end Faults

namespace State

/-! ### One fault raised or cleared -/

@[simp] theorem active_judgeAlarm (s : State) (k : FaultKind) (x : Nat) :
    s.judgeAlarm.faults.active k x = s.faults.active k x := by
  apply Faults.active_of_marks_eq
  simp only [judgeAlarm, Faults.judgeAlarm]
  split <;> rfl

@[simp] theorem active_withFaults (s : State) (f : Faults) (k j : FaultKind) (x y tr c : Nat) :
    (s.withFaults f k x tr c).faults.active j y = f.active j y :=
  active_judgeAlarm _ j y

@[simp] theorem enterSafeOn_faults (s : State) (k : FaultKind) : (s.enterSafeOn k).faults = s.faults :=
  (enterSafeOn_only s k).faults (by decide)

/-- A raising in a sound table leaves the fault active, unless it is one that acknowledgement clears. -/
theorem active_raiseFault {s : State} (hs : s.faults.sound) {k : FaultKind} (hk : k.ackCleared = false) (x : Nat) :
    (s.raiseFault k x).faults.active k x = true := by
  unfold raiseFault
  split
  case h_1 h => exact hs.active_of_raise_none h
  case h_2 h => simp [Faults.active_of_raise h, hk]

/-- A clearing in a sound table leaves the fault inactive. -/
theorem active_clearFault {s : State} (hs : s.faults.sound) (k : FaultKind) (x : Nat) :
    (s.clearFault k x).faults.active k x = false := by
  unfold clearFault
  split
  case h_1 h => exact hs.inactive_of_clear_none h
  case h_2 h => simp [Faults.active_of_clear h]

/-- A fault raised on a flag and cleared without it follows the flag. -/
theorem active_judgeFault {s : State} (hs : s.faults.sound) {k : FaultKind} (hk : k.ackCleared = false) (x : Nat)
    (flag : Bool) : (s.judgeFault k x flag !flag).faults.active k x = flag := by
  cases flag
  · exact active_clearFault hs k x
  · exact active_raiseFault hs hk x

/-! ### Which faults an operation can touch -/

/-- The frame of an operation on the active faults: every fault of a kind not listed is active after it exactly if it
was before. -/
def marksOnly (ks : List FaultKind) (s t : State) : Prop :=
  ∀ k x, k ∉ ks → t.faults.active k x = s.faults.active k x

theorem marksOnly_refl (ks : List FaultKind) (s : State) : s.marksOnly ks s := fun _ _ _ => rfl

theorem marksOnly.trans {s t u : State} {ks : List FaultKind} (h : s.marksOnly ks t) (h' : t.marksOnly ks u) :
    s.marksOnly ks u := fun k x hk => (h' k x hk).trans (h k x hk)

theorem marksOnly.mono {s t : State} {ks ls : List FaultKind} (h : s.marksOnly ks t) (hkl : ∀ k ∈ ks, k ∈ ls) :
    s.marksOnly ls t := fun k x hk => h k x fun hks => hk (hkl k hks)

theorem marksOnly.andThen {s t u : State} {ks ls : List FaultKind} (h : s.marksOnly ks t) (h' : t.marksOnly ls u) :
    s.marksOnly (ks ++ ls) u :=
  (h.mono fun _ => List.mem_append_left ls).trans (h'.mono fun _ => List.mem_append_right ks)

/-- An operation that leaves the fault table alone touches no fault. -/
theorem onlyChanges.marksOnly {s t : State} {l : List Block} (h : s.onlyChanges l t) (ks : List FaultKind)
    (n : Block.faults ∉ l := by decide) : s.marksOnly ks t := fun k x _ => by rw [h.faults n]

theorem marksOnly_ite {ks : List FaultKind} {s t u : State} {p : Prop} [Decidable p] (h : s.marksOnly ks t)
    (h' : s.marksOnly ks u) : s.marksOnly ks (if p then t else u) := by
  split <;> assumption

theorem marksOnly_foldl {α : Type} {ks : List FaultKind} (xs : List α) (f : State → α → State)
    (h : ∀ s x, marksOnly ks s (f s x)) (s : State) : s.marksOnly ks (xs.foldl f s) := by
  induction xs generalizing s with
  | nil => exact marksOnly_refl ks s
  | cons x xs ih => exact (h s x).trans (ih (f s x))

theorem marksOnly_forEach {ks : List FaultKind} (is : List Nat) (f : Nat → State → State)
    (h : ∀ i s, marksOnly ks s (f i s)) (s : State) : s.marksOnly ks (forEach is f s) :=
  marksOnly_foldl is _ (fun s i => h i s) s

theorem raiseFault_marks (s : State) (k : FaultKind) (x : Nat) : s.marksOnly [k] (s.raiseFault k x) := by
  intro j y hj
  have hjk : j ≠ k := List.mem_singleton.not.1 hj
  unfold raiseFault
  split
  · rfl
  case h_2 h => simp [Faults.active_of_raise h, hjk]

theorem clearFault_marks (s : State) (k : FaultKind) (x : Nat) : s.marksOnly [k] (s.clearFault k x) := by
  intro j y hj
  have hjk : j ≠ k := List.mem_singleton.not.1 hj
  unfold clearFault
  split
  · rfl
  case h_2 h => simp [Faults.active_of_clear h, hjk]

theorem judgeFault_marks (s : State) (k : FaultKind) (x : Nat) (up down : Bool) :
    s.marksOnly [k] (s.judgeFault k x up down) :=
  marksOnly_ite (raiseFault_marks s k x) (marksOnly_ite (clearFault_marks s k x) (marksOnly_refl _ s))

theorem judgeAlarm_marks (s : State) : s.marksOnly [] s.judgeAlarm := fun k x _ => active_judgeAlarm s k x

theorem clearTableFaults_marks (s : State) : s.marksOnly [.tableFault] s.clearTableFaults :=
  marksOnly_foldl _ _ (fun s _ => clearFault_marks s _ _) s

/-! ### The faults of the pacing block (R83 to R90) -/

/-- A release clears the two faults of the loader's episode (R90). -/
theorem release_marks (s : State) (l : Nat) : s.marksOnly [.pauseUnconfirmed, .overpour] (s.release l) := by
  have hc : s.marksOnly [.pauseUnconfirmed, .overpour]
      ((((s.originate .shore kindResume (enc1 l)).modPause l fun p => { p with state := .free, timer := none }).clearFault
        .pauseUnconfirmed l).clearFault .overpour l) :=
    ((((originate_only s _ _ _).andThen (modPause_only _ l _)).marksOnly []).andThen (clearFault_marks _ _ _)).andThen
      (clearFault_marks _ _ _)
  have hd (a : State) : a.marksOnly [.pauseUnconfirmed, .overpour] (if a.notFree = 0 then a.tellFree else a) :=
    marksOnly_ite ((modStep_only _ _).marksOnly _) (marksOnly_refl _ _)
  unfold release
  dsimp only
  refine marksOnly.trans ?_ (hd _)
  split
  · exact hc.trans ((closeEpisode_only _ _ _).marksOnly _)
  · exact hc

theorem openEpisode_marks (s : State) (l : Nat) : s.marksOnly [] (s.openEpisode l) := by
  have ho : s.marksOnly []
      ((s.modPause l fun p => { p with state := .pauseSent (s.newEpisode l), timer := s.confirmDeadline }).sendPause l) :=
    ((modPause_only s l _).andThen (sendPause_only _ l)).marksOnly []
  exact marksOnly_ite (ho.trans ((modStep_only _ _).marksOnly _)) ho

theorem actLoader_marks (s : State) (l : Nat) (b : ReasonSet) (f : Bool) :
    s.marksOnly [.pauseUnconfirmed, .overpour] (s.actLoader l b f) := by
  have hr : s.marksOnly [.pauseUnconfirmed, .overpour] (s.repeatPause l) :=
    ((modPause_only s l _).andThen (sendPause_only _ l)).marksOnly _
  exact marksOnly_ite (marksOnly_ite (marksOnly_refl _ s) ((openEpisode_marks s l).mono (by decide)))
    (marksOnly_ite (release_marks s l) (marksOnly_ite (marksOnly_refl _ s) hr))

theorem actOn_marks (s : State) (b : Nat → ReasonSet) (f : Option Nat) :
    s.marksOnly [.pauseUnconfirmed, .overpour] (s.actOn b f) :=
  marksOnly_forEach _ _ (fun _ s => actLoader_marks s _ _ _) s

/-- An event that only changes reason sets touches no fault but those of the released episodes. -/
theorem pacingEvent_marks (s : State) (f : State → State) (h : s.onlyChanges [.pacing] (f s)) :
    s.marksOnly [.pauseUnconfirmed, .overpour] (s.pacingEvent f) :=
  (h.marksOnly _).trans (actOn_marks _ _ _)

/-! ### The faults of the order screen and of a switch of groups (R145, R193) -/

theorem orderOffered_marks (s : State) (i : Nat) (o : Order) (c : Option Byte) :
    s.marksOnly [.pumpStartFailed] (s.orderOffered i o c) := by
  have hs : s.marksOnly [.pumpStartFailed]
      (if o.type = .pumpStop then (s.supersedeOutstanding i).freeSlotOf i else s) :=
    marksOnly_ite (((supersedeOutstanding_only s i).andThen (freeSlotOf_only _ i)).marksOnly _) (marksOnly_refl _ s)
  have ho := hs.trans ((openOutstanding_only _ i o.seq o.type o.mode o.speed c).marksOnly _)
  exact marksOnly_ite (ho.trans (((only_screen _ _).marksOnly _).trans (clearFault_marks _ _ i))) ho

theorem forwardOrder_marks (s : State) (i : Nat) (o : Order) : s.marksOnly [.pumpStartFailed] (s.forwardOrder i o) :=
  marksOnly_ite (((send_only s _ _).marksOnly _).trans (orderOffered_marks _ i o _))
    (((send_only s _ _).trans (syntheticAck_only _ _ _ _ _ _)).marksOnly _)

theorem scanEntry_marks (s : State) (h : Held) : s.marksOnly [.pumpStartFailed] (s.scanEntry h).1 := by
  unfold scanEntry
  split
  · exact ((dropHeld_only s _).andThen (refuseOrder_only _ _ _ _)).marksOnly _
  · exact (updateHeld_only s _ _).marksOnly _
  · exact (((adviseClamp_only s _ _).andThen (dropHeld_only _ _)).marksOnly _).trans (forwardOrder_marks _ _ _)

theorem scan_marks (s : State) : s.marksOnly [.pumpStartFailed] s.scan.1 := by
  unfold scan
  suffices h : ∀ (hs : List Held) (a : State × Bool), s.marksOnly [.pumpStartFailed] a.1 →
      s.marksOnly [.pumpStartFailed]
        (hs.foldl (fun a h => let r := a.1.scanEntry h; (r.1, a.2 || r.2)) a).1 from
    h _ (s, false) (marksOnly_refl _ s)
  intro hs
  induction hs with
  | nil => exact fun a h => h
  | cons x xs ih => exact fun a h => ih _ (h.trans (scanEntry_marks _ x))

/-- The re-examination of the held orders clears the start fault of the pumps it starts, and touches no other. -/
theorem reexamine_marks (s : State) : s.marksOnly [.pumpStartFailed] s.reexamine := by
  have h (n : Nat) (s : State) : s.marksOnly [.pumpStartFailed] (reexamineFrom n s) := by
    induction n generalizing s with
    | zero => exact marksOnly_refl _ s
    | succ n ih => exact marksOnly_ite ((scan_marks s).trans (ih _)) (scan_marks s)
  exact h _ s

/-- The faults a switch of the ship group can clear: those of the tables, of a tank that leaves and of a station
that leaves its address (R2, R116, R175). -/
abbrev shipFaults : List FaultKind :=
  [.tableFault, .gaugeFault, .gaugeLost, .tankOverrange, .stationSilent, .orderTimeout, .pumpTripped]

theorem switchTank_marks (s : State) (o : ShipBank) (t : Nat) : s.marksOnly shipFaults (s.switchTank o t) := by
  unfold switchTank
  dsimp only
  split
  · exact (modTank_only s t _).marksOnly _
  · exact (modTank_only s t _).marksOnly _
  · exact (((((modTank_only s t _).marksOnly []).andThen (clearFault_marks _ _ t)).andThen (clearFault_marks _ _ t)).andThen
      (clearFault_marks _ _ t)).mono (by decide)
  · exact (modTank_only s t _).marksOnly _

theorem rebindStation_marks (s : State) (bs : List (Nat × Byte)) (i : Nat) :
    s.marksOnly shipFaults (s.rebindStation bs i) := by
  unfold rebindStation
  dsimp only
  split
  · exact marksOnly_refl _ s
  · split
    · exact (modStation_only s i _).marksOnly _
    · exact ((((((withdrawOutstanding_only s i).marksOnly []).andThen (clearFault_marks _ _ i)).andThen
        (clearFault_marks _ _ i)).andThen (clearFault_marks _ _ i)).andThen ((modStation_only _ i _).marksOnly [])).mono
        (by decide)

theorem rebindStations_marks (s : State) : s.marksOnly shipFaults s.rebindStations := by
  have each (bs : List (Nat × Byte)) :
      s.marksOnly shipFaults (forEach stationIndices (fun i s => s.rebindStation bs i) s) :=
    marksOnly_forEach _ _ (fun i s => rebindStation_marks s bs i) s
  unfold rebindStations
  extract_lets bs old
  exact (each bs).trans ((withdrawHeld_only _ old).marksOnly _)

theorem reactToShip_marks (s : State) (o : ShipBank) : s.marksOnly shipFaults (s.reactToShip o) := by
  have tanks : s.marksOnly shipFaults (s.switchTanks o) := marksOnly_forEach _ _ (fun t s => switchTank_marks s o t) s
  exact (((tanks.trans ((switchHolds_only _).marksOnly _)).trans (rebindStations_marks _)).trans
    ((restartDryRuns_only _).marksOnly _)).trans ((judgeAlarm_marks _).mono (by decide))

theorem switchShip_marks (s : State) : s.marksOnly shipFaults s.switchShip :=
  (((switchedShip_only s).marksOnly _).trans ((clearTableFaults_marks _).mono (by decide))).trans (reactToShip_marks _ _)

theorem switchPlan_marks (s : State) : s.marksOnly [.pauseUnconfirmed, .overpour] s.switchPlan := by
  have rebased (a : State) : a.marksOnly [.pauseUnconfirmed, .overpour] a.rebase :=
    (((rebaseCursor_only a).marksOnly _).trans (actOn_marks _ _ _)).trans ((modStep_only _ _).marksOnly _)
  exact marksOnly_ite ((((switchedPlan_only s).andThen (relatchReports_only _)).marksOnly _).trans (rebased _))
    ((switchedPlan_only s).marksOnly _)

/-- The faults the beginning of an evaluation can clear, by the groups it switches (R37, R193). -/
abbrev startFaults : List FaultKind := shipFaults ++ [.pauseUnconfirmed, .overpour, .pumpStartFailed]

theorem switchSealed_marks (s : State) : s.marksOnly startFaults s.switchSealed := by
  have h : s.marksOnly startFaults (if s.mgmt.ship.isSealed then s.switchShip else s) :=
    marksOnly_ite ((switchShip_marks s).mono (by decide)) (marksOnly_refl _ s)
  exact marksOnly_ite (h.trans ((switchPlan_marks _).mono (by decide))) h

theorem beginEvaluation_marks (s : State) : s.marksOnly startFaults s.beginEvaluation := by
  have h : s.marksOnly startFaults (s.engineStarts.switchSealed.growUncertainty).engineSnapshots :=
    (((only_engine s _).marksOnly _).trans (switchSealed_marks _)).trans
      (((growUncertainty_only _).andThen (only_engine _ _)).marksOnly _)
  exact marksOnly_ite (h.trans ((reexamine_marks _).mono (by decide))) h

end State

end Sys2Proof.Machine
end

section
/-! PROOFS. The condition evaluation (chapter 3): trim and drafts (R44, R45), the peak and its band (R49), and the
hydro flag from its causes to its fault and record (R50). -/

namespace Sys2Proof.Machine

/-! ### Trim and drafts (R44, R45) -/

theorem clampInt_eq_max_min {lo hi : Int} (h : lo ≤ hi) (x : Int) : clampInt lo hi x = max lo (min hi x) := by
  unfold clampInt
  split
  · omega
  · split <;> omega

theorem clampInt_ne_iff {lo hi : Int} (h : lo ≤ hi) (x : Int) : clampInt lo hi x ≠ x ↔ x < lo ∨ hi < x := by
  rw [clampInt_eq_max_min h]
  omega

namespace Snapshot

theorem trim_eq_max_min (n : Snapshot) : n.trim = max (-9999) (min 9999 n.rawTrim) := clampInt_eq_max_min (by decide) _

/-- The hydro flag is set by a displacement outside the table, an MCT of 0 or below and a clamped trim (R50). -/
theorem hydro_iff (n : Snapshot) : n.hydro = true ↔ n.outsideHydro = true ∨ n.mct ≤ 0 ∨ n.trim ≠ n.rawTrim := by
  simp [hydro, or_assoc]

theorem rawTrim_of_mct_pos {n : Snapshot} (h : 0 < n.mct) :
    n.rawTrim = roundDiv (n.disp * (n.lcb - n.lcg)) (10 * n.mct) := if_neg (by omega)

theorem rawTrim_of_mct_nonpos {n : Snapshot} (h : n.mct ≤ 0) : n.rawTrim = 0 := if_pos h

/-- The half-trim, truncated toward zero, by flooring divisions. -/
theorem halfTrim_eq (n : Snapshot) : n.halfTrim = if 0 ≤ n.trim then n.trim / 2 else -(-n.trim / 2) := by
  unfold halfTrim
  split
  case isTrue h => exact Int.tdiv_eq_ediv_of_nonneg h
  case isFalse h => rw [← Int.tdiv_eq_ediv_of_nonneg (by omega), Int.neg_tdiv, neg_neg]

theorem aft_sub_fwd (n : Snapshot) : n.aft - n.fwd = n.trim := by
  unfold aft fwd
  omega

end Snapshot

/-- Settles O21: the trim is the clamp of the rounded quotient, and a clamp or an MCT of 0 or below is one of the
causes of the hydro flag. -/
theorem trimIsRoundedAndClamped : Obligations.TrimIsRoundedAndClamped := by
  intro n
  have htrim := n.trim_eq_max_min
  refine ⟨fun hmct => ?_, fun hmct => ?_, by omega, by omega⟩
  · rw [← Snapshot.rawTrim_of_mct_pos hmct]
    refine ⟨htrim, fun hout => n.hydro_iff.2 (.inr (.inr ?_))⟩
    exact (clampInt_ne_iff (by decide) _).2 hout
  · rw [Snapshot.rawTrim_of_mct_nonpos hmct] at htrim
    exact ⟨htrim, n.hydro_iff.2 (.inr (.inl hmct))⟩

/-- Settles O22: both drafts take their share of the same half-trim. -/
theorem draftsDifferByTheTrim : Obligations.DraftsDifferByTheTrim := by
  intro n
  have hhalf := n.halfTrim_eq
  refine ⟨⟨?_, ?_⟩, n.aft_sub_fwd, fun htrim => ?_⟩
  · rw [← hhalf]; rfl
  · rw [← hhalf]; rfl
  · have h313 : n.halfTrim = -313 := by rw [hhalf, htrim]; rfl
    constructor
    · rw [Snapshot.aft, h313]; rfl
    · rw [Snapshot.fwd, htrim, h313]; omega

/-! ### The peak and the band (R49) -/

/-- The peak is a pair of the list, at the station and of the quantity it names; a moment only where it exceeds the
shear of its station. -/
def Peak.pairOf (p : Peak) (fs : List StationFig) : Prop :=
  ∃ f, fs[p.station]? = some f ∧ (p.quantity = .shear → f.uShearGuarded = p.value) ∧
    (p.quantity = .moment → f.uMomentGuarded = p.value ∧ f.uShearGuarded < p.value)

/-- The peak `p` is the first largest pair of a list of station figures, or, where nothing exceeds 0, the
0 at station 0 that the search begins with. -/
structure FirstPeak (fs : List StationFig) (p : Peak) : Prop where
  nonneg : 0 ≤ p.value
  largest : ∀ f ∈ fs, f.uShearGuarded ≤ p.value ∧ f.uMomentGuarded ≤ p.value
  attained : p = { value := 0, station := 0, quantity := .shear } ∨ p.pairOf fs
  first : ∀ st f, st < p.station → fs[st]? = some f → f.uShearGuarded < p.value ∧ f.uMomentGuarded < p.value

namespace FirstPeak

theorem initial : FirstPeak [] { value := 0, station := 0, quantity := .shear } :=
  ⟨le_refl _, by simp, .inl rfl, by simp⟩

/-- A station that exceeds nothing leaves the peak. -/
theorem keep {fs : List StationFig} {p : Peak} {f : StationFig} (h : FirstPeak fs p) (hs : f.uShearGuarded ≤ p.value)
    (hm : f.uMomentGuarded ≤ p.value) : FirstPeak (fs ++ [f]) p where
  nonneg := h.nonneg
  largest g hg := by
    obtain hg | hg := List.mem_append.1 hg
    · exact h.largest g hg
    · rw [List.mem_singleton.1 hg]; exact ⟨hs, hm⟩
  attained := h.attained.imp_right fun ⟨g, hg, hq⟩ =>
    ⟨g, by rw [List.getElem?_append_left (List.getElem?_eq_some_iff.1 hg).1]; exact hg, hq⟩
  first st g hst hg := by
    obtain hp | ⟨g', hg', -⟩ := h.attained
    · rw [hp] at hst; cases hst
    · have hlen : st < fs.length := hst.trans (List.getElem?_eq_some_iff.1 hg').1
      exact h.first st g hst (by rwa [List.getElem?_append_left hlen] at hg)

/-- A pair of a new station that exceeds the peak and the other pair becomes the peak: the shear also where both are
equal, the moment only beyond the shear. -/
theorem replace {fs : List StationFig} {p : Peak} {f : StationFig} (h : FirstPeak fs p) {v : Int} {q : Quantity}
    (hv : p.value < v) (hs : f.uShearGuarded ≤ v) (hm : f.uMomentGuarded ≤ v) (hq : q = .shear → f.uShearGuarded = v)
    (hq' : q = .moment → f.uMomentGuarded = v ∧ f.uShearGuarded < v) :
    FirstPeak (fs ++ [f]) { value := v, station := fs.length, quantity := q } where
  nonneg := h.nonneg.trans hv.le
  largest g hg := by
    obtain hg | hg := List.mem_append.1 hg
    · exact ⟨(h.largest g hg).1.trans hv.le, (h.largest g hg).2.trans hv.le⟩
    · rw [List.mem_singleton.1 hg]; exact ⟨hs, hm⟩
  attained := .inr ⟨f, by simp, hq, hq'⟩
  first st g hst hg := by
    rw [List.getElem?_append_left hst] at hg
    obtain ⟨hgs, hgm⟩ := h.largest g (List.mem_of_getElem? hg)
    exact ⟨hgs.trans_lt hv, hgm.trans_lt hv⟩

/-- The search takes in one station: its shear, then its moment. -/
theorem station {fs : List StationFig} {p : Peak} (h : FirstPeak fs p) (f : StationFig) :
    FirstPeak (fs ++ [f])
      ((p.raise { value := f.uShearGuarded, station := fs.length, quantity := .shear }).raise
        { value := f.uMomentGuarded, station := fs.length, quantity := .moment }) := by
  by_cases hs : p.value < f.uShearGuarded
  · simp only [Peak.raise, if_pos hs]
    split
    case isTrue hm => exact h.replace (hs.trans hm) hm.le (le_refl _) nofun fun _ => ⟨rfl, hm⟩
    case isFalse hm => exact h.replace hs (le_refl _) (not_lt.1 hm) (fun _ => rfl) nofun
  · simp only [Peak.raise, if_neg hs]
    split
    case isTrue hm => exact h.replace hm (by omega) (le_refl _) nofun fun _ => ⟨rfl, by omega⟩
    case isFalse hm => exact h.keep (not_lt.1 hs) (not_lt.1 hm)

/-- The search takes in the remaining stations. -/
theorem peakFrom_append {pre : List StationFig} {p : Peak} (h : FirstPeak pre p) (fs : List StationFig) :
    FirstPeak (pre ++ fs) (peakFrom p pre.length fs) := by
  induction fs generalizing pre p with
  | nil => rw [List.append_nil]; exact h
  | cons f fs ih =>
    have hnext := ih (h.station f)
    rw [List.append_assoc, List.length_append] at hnext
    exact hnext

theorem of_peakOf (fs : List StationFig) : FirstPeak fs (peakOf fs) := initial.peakFrom_append fs

/-- Over a non-empty list of figures that are not negative the peak is a pair of the list: where nothing exceeds 0,
the shear 0 of station 0. -/
theorem attained_of_nonneg {fs : List StationFig} {p : Peak} (h : FirstPeak fs p)
    (hfs : ∀ f ∈ fs, 0 ≤ f.uShearGuarded ∧ 0 ≤ f.uMomentGuarded) (hne : fs ≠ []) : p.pairOf fs := by
  obtain hp | hatt := h.attained
  · obtain ⟨f, rest, rfl⟩ := List.exists_cons_of_ne_nil hne
    have hle := (h.largest f List.mem_cons_self).1
    have hge := (hfs f List.mem_cons_self).1
    subst hp
    exact ⟨f, rfl, fun _ => le_antisymm hle hge, nofun⟩
  · exact hatt

end FirstPeak

/-- The four bands between the watermarks. -/
theorem bandOf_iff {m : Marks} (hpause : m.caution ≤ m.pause) (hlimit : m.pause ≤ 1000) (x : Int) :
    (bandOf m x = .normal ↔ x < m.caution) ∧ (bandOf m x = .caution ↔ m.caution ≤ x ∧ x < m.pause) ∧
    (bandOf m x = .pause ↔ m.pause ≤ x ∧ x < 1000) ∧ (bandOf m x = .limit ↔ 1000 ≤ x) := by
  unfold bandOf
  split_ifs <;> simp only [true_iff, false_iff] <;> omega

/-- Settles O24: the search for the peak keeps `FirstPeak`. -/
theorem peakIsTheFirstLargestFigure : Obligations.PeakIsTheFirstLargestFigure := by
  refine ⟨fun fs hfs hne => ?_, fun m x hpause hlimit => bandOf_iff hpause hlimit x, fun _ _ _ _ _ => ⟨rfl, rfl, rfl⟩⟩
  have hpeak := FirstPeak.of_peakOf fs
  exact ⟨hpeak.largest, hpeak.attained_of_nonneg hfs hne, hpeak.first⟩

/-! ### The completion of a VALID evaluation (R39, R50) -/

theorem exec_evaluationComplete {s : State} (h : s.ready) : exec .evaluationComplete s = .next s.completeEvaluation :=
  congrArg Host.Outcome.next (act_ready State.completeEvaluation h)

namespace State

theorem completeEvaluation_valid {s : State} {n : Snapshot} (hflight : s.engine.inFlight = true)
    (hsnap : s.engine.snapshot = some n) (habandon : s.engine.abandon = false) (hvalid : s.validNow = true) :
    s.completeEvaluation = (((s.completeValid n).beaconIf s.sys.mode).reexamine).followUp := by
  unfold completeEvaluation
  rw [hflight, hsnap]
  simp [habandon, hvalid]

/-- The beginning of an evaluation leaves the published record. -/
theorem beginEvaluation_published (s : State) : s.beginEvaluation.engine.published = s.engine.published := by
  have hship (a : State) : a.switchShip.engine = a.engine := (switchShip_only a).engine (by decide)
  have hplan (a : State) : a.switchPlan.engine = a.engine := (switchPlan_only a).engine (by decide)
  have hsealed (a : State) : a.switchSealed.engine = a.engine := by
    unfold switchSealed
    dsimp only
    split <;> split <;> simp only [hship, hplan]
  have hgrow (a : State) : a.growUncertainty.engine = a.engine := (growUncertainty_only a).engine (by decide)
  have hsnap : ((s.engineStarts.switchSealed.growUncertainty).engineSnapshots).engine.published = s.engine.published := by
    simp only [engineSnapshots, hgrow, hsealed, engineStarts]
  unfold beginEvaluation
  dsimp only
  split
  · rw [(reexamine_only _).engine (by decide), hsnap]
  · exact hsnap

theorem followUp_published (s : State) : s.followUp.engine.published = s.engine.published := by
  unfold followUp
  split
  · exact beginEvaluation_published _
  · rfl

theorem followUp_marks (s : State) : s.marksOnly startFaults s.followUp :=
  marksOnly_ite (((only_engine s _).marksOnly _).trans (beginEvaluation_marks _)) (marksOnly_refl _ s)

theorem beaconIf_only (s : State) (m : Mode) : s.onlyChanges [.out, .shore] (s.beaconIf m) :=
  onlyChanges_ite (onlyChanges_refl _ s) (sendBeacon_only s)

/-- The reason changes of a VALID publication, as the pacing event of `pacePublication` makes them. -/
theorem paceReasons_only (s : State) (m : Marks) (f : Figures) (current : Bool) (before : FollowedFaults) (mode : Mode) :
    s.onlyChanges [.pacing] ((if current then s.paceCurrent m f else s).paceFaults before mode) := by
  have stress (l : Nat) (s : State) : s.onlyChanges [.pacing] (s.judgeStress m f l) :=
    onlyChanges_ite (addReason_only s l _) (onlyChanges_ite
      (onlyChanges_ite (removeReason_only s l _) (onlyChanges_refl _ s))
      (onlyChanges_ite (addReason_only s l _) (onlyChanges_refl _ s)))
  have hcurrent : s.onlyChanges [.pacing] (if current then s.paceCurrent m f else s) :=
    onlyChanges_ite ((removeReasonAll_only s _).trans (onlyChanges_forEach _ _ stress _)) (onlyChanges_refl _ s)
  exact hcurrent.trans ((((followFault_only _ _ _ _).trans (followFault_only _ _ _ _)).trans
    (followFault_only _ _ _ _)).trans (followSafe_only _ _))

theorem pacePublication_only (s : State) (m : Marks) (f : Figures) (current : Bool) (before : FollowedFaults)
    (mode : Mode) : s.onlyChanges pacingBlocks (s.pacePublication m (some f) current before mode) :=
  (((paceReasons_only s m f current before mode).andThen (actOn_only _ _ _)).andThen
    (judgeFault_keeps_mode _ _ _ _ fun _ => rfl)).mono (by decide)

theorem pacePublication_marks (s : State) (m : Marks) (f : Figures) (current : Bool) (before : FollowedFaults)
    (mode : Mode) : s.marksOnly [.pauseUnconfirmed, .overpour, .stressBallastDriven]
      (s.pacePublication m (some f) current before mode) :=
  ((pacingEvent_marks s _ (paceReasons_only s m f current before mode)).andThen (judgeFault_marks _ _ _ _ _)).mono
    (by decide)

/-- The record of a VALID completion. -/
theorem completeValid_published (s : State) (n : Snapshot) :
    (s.completeValid n).engine.published = .valid (s.headerOf n) (s.figuresOf n) := by
  unfold completeValid
  dsimp only
  rw [(pacePublication_only _ _ _ _ _ _).engine (by decide)]
  split
  · rw [(trackPeak_only _ _).engine (by decide)]; rfl
  · rfl

/-! ### The hydro flag and its fault (R50) -/

/-- The faults a VALID publication judges after HYDRO_OUT_OF_TABLE (R51 to R54, R71). -/
abbrev laterFaults : List FaultKind :=
  [.draftLimit, .airDraft, .draftDisagree, .stressLimit, .conditionInvalid, .ballastLag, .deballastAhead]

theorem judgeWindow_marks (s : State) (n : Snapshot) (f : Figures) : s.marksOnly laterFaults (s.judgeWindow n f) :=
  marksOnly_ite (((judgeFault_marks s _ _ _ _).andThen (judgeFault_marks _ _ _ _ _)).mono (by decide))
    (((clearFault_marks s _ _).andThen (clearFault_marks _ _ _)).mono (by decide))

theorem judgeDisagree_marks (s : State) (n : Snapshot) (f : Figures) : s.marksOnly laterFaults (s.judgeDisagree n f) :=
  marksOnly_ite ((judgeFault_marks s _ _ _ _).mono (by decide)) (marksOnly_refl _ s)

theorem judgeStressLimit_marks (s : State) (n : Snapshot) (f : Figures) :
    s.marksOnly laterFaults (s.judgeStressLimit n f) := (judgeFault_marks s _ _ _ _).mono (by decide)

theorem judgeLag_marks (s : State) (x : Int) : s.marksOnly laterFaults (s.judgeLag x) :=
  ((judgeFault_marks s _ _ _ _).andThen (judgeFault_marks _ _ _ _ _)).mono (by decide)

/-- A VALID publication judges HYDRO_OUT_OF_TABLE, then the other faults of the condition. -/
theorem judgeValid_marks (s : State) (n : Snapshot) (f : Figures) :
    (s.judgeFault .hydroOutOfTable TableCode.hydro.code f.hydro !f.hydro).marksOnly laterFaults (s.judgeValid n f) := by
  unfold judgeValid
  extract_lets a b c
  have h : a.marksOnly laterFaults c :=
    (((judgeWindow_marks a n f).trans (judgeDisagree_marks _ n f)).trans (judgeStressLimit_marks _ n f)).trans
      ((clearFault_marks _ _ _).mono (by decide))
  split
  · exact h.trans (judgeLag_marks _ _)
  · exact h

theorem judgeValid_hydro {s : State} (hs : s.faults.sound) (n : Snapshot) (f : Figures) :
    (s.judgeValid n f).faults.active .hydroOutOfTable TableCode.hydro.code = f.hydro := by
  rw [judgeValid_marks s n f _ _ (by decide)]
  exact active_judgeFault hs rfl _ _

/-- After its judgements a VALID completion touches only the faults of the pacing block. -/
theorem completeValid_marks (s : State) (n : Snapshot) :
    (s.judgeValid n (s.figuresOf n)).marksOnly [.pauseUnconfirmed, .overpour, .stressBallastDriven] (s.completeValid n) := by
  refine marksOnly.trans ?_ (pacePublication_marks _ _ _ _ _ _)
  exact marksOnly_ite (((only_engine _ _).marksOnly _).trans ((trackPeak_only _ _).marksOnly _))
    ((only_engine _ _).marksOnly _)

theorem completeEvaluation_hydro {s : State} {n : Snapshot} (hs : s.faults.sound) (hflight : s.engine.inFlight = true)
    (hsnap : s.engine.snapshot = some n) (habandon : s.engine.abandon = false) (hvalid : s.validNow = true) :
    s.completeEvaluation.faults.active .hydroOutOfTable TableCode.hydro.code = n.hydro := by
  rw [completeEvaluation_valid hflight hsnap habandon hvalid]
  calc
    _ = ((s.completeValid n).beaconIf s.sys.mode).reexamine.faults.active .hydroOutOfTable TableCode.hydro.code :=
      followUp_marks _ _ _ (by decide)
    _ = ((s.completeValid n).beaconIf s.sys.mode).faults.active .hydroOutOfTable TableCode.hydro.code :=
      reexamine_marks _ _ _ (by decide)
    _ = (s.completeValid n).faults.active .hydroOutOfTable TableCode.hydro.code := by
      rw [(beaconIf_only _ _).faults (by decide)]
    _ = (s.judgeValid n (s.figuresOf n)).faults.active .hydroOutOfTable TableCode.hydro.code :=
      completeValid_marks s n _ _ (by decide)
    _ = n.hydro := judgeValid_hydro hs n _

theorem completeEvaluation_published {s : State} {n : Snapshot} (hflight : s.engine.inFlight = true)
    (hsnap : s.engine.snapshot = some n) (habandon : s.engine.abandon = false) (hvalid : s.validNow = true) :
    s.completeEvaluation.engine.published = .valid (s.headerOf n) (s.figuresOf n) := by
  rw [completeEvaluation_valid hflight hsnap habandon hvalid, followUp_published,
    (reexamine_only _).engine (by decide), (beaconIf_only _ _).engine (by decide), completeValid_published]

end State

/-- Settles O23: the first judgement of a VALID publication makes the fault follow the flag, and nothing after it, up
to the beginning of the next evaluation, touches that fault. -/
theorem hydroFlagDrivesItsFault : Obligations.HydroFlagDrivesItsFault := by
  intro s n hready hsound hflight hsnap habandon hvalid
  exact ⟨n.hydro_iff, s.completeEvaluation, exec_evaluationComplete hready,
    State.completeEvaluation_hydro hsound hflight hsnap habandon hvalid, s.headerOf n, s.figuresOf n,
    State.completeEvaluation_published hflight hsnap habandon hvalid, rfl⟩

end Sys2Proof.Machine
end

section
/-! PROOFS. The invariants of single blocks under that block's own operations: an output queue under an offer (R110,
R111), the fault table under a raising, a clearing and an acknowledgement (R178, R179), the report store under a new
record (R154), and the table banks under a replaced table. -/

namespace Sys2Proof.Machine

/-! ### Output queues (R110, R111) -/

theorem mem_insertByClass {e x : QEntry} {q : List QEntry} : x ∈ insertByClass e q ↔ x = e ∨ x ∈ q := by
  induction q with
  | nil => simp [insertByClass]
  | cons y ys ih =>
    unfold insertByClass
    split
    · simp only [List.mem_cons, ih]
      tauto
    · simp

@[simp] theorem insertByClass_length (e : QEntry) (q : List QEntry) : (insertByClass e q).length = q.length + 1 := by
  induction q with
  | nil => rfl
  | cons y ys ih =>
    unfold insertByClass
    split
    · simp [ih]
    · simp

/-- Entering by class keeps a queue in class order. -/
theorem pairwise_insertByClass {e : QEntry} {q : List QEntry} (h : q.Pairwise fun a b => a.cls ≤ b.cls) :
    (insertByClass e q).Pairwise fun a b => a.cls ≤ b.cls := by
  induction q with
  | nil => simp [insertByClass]
  | cons y ys ih =>
    obtain ⟨hy, hys⟩ := List.pairwise_cons.1 h
    unfold insertByClass
    split
    case isTrue hle =>
      refine List.pairwise_cons.2 ⟨fun x hx => ?_, ih hys⟩
      obtain rfl | hx := mem_insertByClass.1 hx
      · exact hle
      · exact hy x hx
    case isFalse hle =>
      have hlt : e.cls ≤ y.cls := (not_le.1 hle).le
      refine List.pairwise_cons.2 ⟨fun x hx => ?_, h⟩
      obtain rfl | hx := List.mem_cons.1 hx
      · exact hlt
      · exact hlt.trans (hy x hx)

/-- Taking the newest telegram of a class leaves the others, in their order. -/
theorem takeNewest_some {c : Fin 4} {q r : List QEntry} {v : QEntry} (h : takeNewest c q = some (v, r)) :
    v.cls = c ∧ r.Sublist q ∧ q.length = r.length + 1 := by
  induction q generalizing v r with
  | nil => cases h
  | cons x xs ih =>
    unfold takeNewest at h
    split at h
    case h_1 v' ys hrest =>
      cases h
      obtain ⟨hc, hsub, hlen⟩ := ih hrest
      exact ⟨hc, hsub.cons_cons x, by simp [hlen]⟩
    case h_2 =>
      split at h
      case isTrue hx => cases h; exact ⟨hx, List.sublist_cons_self x xs, rfl⟩
      case isFalse => cases h

namespace PortState

@[simp] theorem countDrop_queue (p : PortState) (c : Fin 4) : (p.countDrop c).queue = p.queue := rfl
@[simp] theorem countDrop_sending (p : PortState) (c : Fin 4) : (p.countDrop c).sending = p.sending := rfl

/-- Soundness of a port is read off its queue and its transmit side. -/
theorem sound_of_eq {p q : PortState} {n : Nat} (h : p.sound n) (hq : q.queue = p.queue) (hs : q.sending = p.sending) :
    q.sound n := by
  unfold sound at h ⊢
  rwa [hq, hs]

/-- A port with a queue in class order within its slots is sound once the head has been taken (R111). -/
theorem sound_start {p : PortState} {n : Nat} (hlen : p.queue.length ≤ n)
    (horder : p.queue.Pairwise fun a b => a.cls ≤ b.cls) : p.start.sound n := by
  unfold start
  split
  case h_1 e q hsend hq =>
    rw [hq] at hlen horder
    exact ⟨Nat.le_of_succ_le hlen, (List.pairwise_cons.1 horder).2, nofun⟩
  case h_2 hne =>
    refine ⟨hlen, horder, fun hsend => ?_⟩
    cases hq : p.queue with
    | nil => rfl
    | cons e q => exact absurd hq (hne e q hsend)

/-- What an offer takes the place of: a telegram of class 3, else of class 2 (R110). -/
theorem evicted_some {q r : List QEntry} {v : QEntry} (h : (takeNewest 3 q).or (takeNewest 2 q) = some (v, r)) :
    r.Sublist q ∧ q.length = r.length + 1 := by
  obtain h3 | ⟨-, h2⟩ := Option.or_eq_some_iff.1 h
  · exact (takeNewest_some h3).2
  · exact (takeNewest_some h2).2

/-- An offer keeps a port sound (R110, R111). -/
theorem sound_offer {p : PortState} {n : Nat} (h : p.sound n) (e : QEntry) : (p.offer n e).port.sound n := by
  obtain ⟨hlen, horder, hfree⟩ := h
  unfold offer
  split
  case isTrue hroom => exact sound_start (by simpa using hroom) (pairwise_insertByClass horder)
  case isFalse =>
    split
    case isTrue => exact ⟨hlen, horder, hfree⟩
    case isFalse =>
      split
      case h_1 v q hv =>
        obtain ⟨hsub, hq⟩ := evicted_some hv
        exact sound_start (by simpa [← hq] using hlen) (pairwise_insertByClass (horder.sublist hsub))
      case h_2 => exact ⟨hlen, horder, hfree⟩

end PortState

namespace Out

/-- The three ports are sound. -/
def sound (o : Out) : Prop := ∀ p, (o.port p).sound (portCapacity p)

theorem sound_iff {s : State} : s.portsSound ↔ s.out.sound :=
  ⟨fun h p => by cases p; exacts [h.1, h.2.1, h.2.2], fun h => ⟨h .console, h .field, h .shore⟩⟩

@[simp] theorem port_setPort_same (o : Out) (p : Port) (x : PortState) : (o.setPort p x).port p = x := by cases p <;> rfl

theorem port_setPort_other (o : Out) {p q : Port} (x : PortState) (h : q ≠ p) : (o.setPort p x).port q = o.port q := by
  cases p <;> cases q <;> first | rfl | exact absurd rfl h

theorem sound.setPort {o : Out} (h : o.sound) {p : Port} {x : PortState} (hx : x.sound (portCapacity p)) :
    (o.setPort p x).sound := by
  intro q
  by_cases hq : q = p
  · subst hq
    rwa [port_setPort_same]
  · rw [port_setPort_other o x hq]
    exact h q

/-- A port with its queue and transmit side left alone. -/
theorem sound.setPort_eq {o : Out} (h : o.sound) {p : Port} {x : PortState} (hq : x.queue = (o.port p).queue)
    (hs : x.sending = (o.port p).sending) : (o.setPort p x).sound :=
  h.setPort (PortState.sound_of_eq (h p) hq hs)

theorem afterLoss_port (o : Out) (p q : Port) (l : Option QEntry) : (o.afterLoss p l).1.port q = o.port q := by
  unfold afterLoss
  split <;> cases q <;> rfl

theorem sound.offer {o : Out} (h : o.sound) (p : Port) (e : QEntry) : (o.offer p e).1.sound := by
  intro q
  unfold Out.offer
  dsimp only
  rw [afterLoss_port]
  exact h.setPort (PortState.sound_offer (h p) e) q

theorem sound.make {o : Out} (h : o.sound) (b : ShipBank) (p : Port) (k : Byte) (x : List Byte) :
    (o.make b p k x).2.sound := h.setPort_eq rfl rfl

theorem sound.alertCopy {o : Out} (h : o.sound) (b : ShipBank) (t : Stamp) (a : Alert) (p : Port) :
    (o.alertCopy b t a p).1.sound := (h.make b p kindAlert (a.payload t)).offer _ _

theorem sound.alertOnce {o : Out} (h : o.sound) (b : ShipBank) (t : Stamp) (a : Alert) : (o.alertOnce b t a).1.sound := by
  have hc : (if b.alertConsole a.severity then o.alertCopy b t a .console else (o, [])).1.sound := by
    split
    · exact h.alertCopy b t a _
    · exact h
  unfold Out.alertOnce
  dsimp only
  split
  · exact hc.alertCopy b t a _
  · exact hc

theorem sound.count {o : Out} (h : o.sound) (k : Advisory) : (o.count k).sound := by
  intro p
  cases p
  exacts [h .console, h .field, h .shore]

theorem sound.drops (b : ShipBank) (t : Stamp) (n : Nat) (ls : List Loss) {o : Out} (h : o.sound) :
    (Out.drops b t n ls o).sound := by
  induction n generalizing ls o with
  | zero => exact h
  | succ n ih =>
    cases ls with
    | nil => exact h
    | cons l ls => exact ih _ ((h.count _).alertOnce b t _)

theorem sound.settleDrops {r : Out × List Loss} (h : r.1.sound) (b : ShipBank) (t : Stamp) :
    (Out.settleDrops b t r).sound := h.drops b t _ _

/-- The end of a transmission takes the next head (R111). -/
theorem sound.setPort_start {o : Out} (h : o.sound) (p : Port) :
    (o.setPort p (PortState.start { o.port p with sending := none })).sound :=
  h.setPort (PortState.sound_start (h p).1 (h p).2.1)

theorem sound_reset : Out.reset.sound := by
  intro p
  cases p <;> exact ⟨by decide, by decide, by decide⟩

end Out

/-! ### Reports (R154) -/

/-- A record with the next number joins a list of consecutive records. -/
theorem consecutive_append {n : Nat} {l : List ReportRec} {r : ReportRec} (h : consecutive n l) (hr : r.number = n) :
    consecutive (nextNumber n) (l ++ [r]) := by
  induction l with
  | nil => simp [consecutive, hr]
  | cons a l ih =>
    cases l with
    | nil => exact ⟨h.trans hr.symm, by simp [consecutive, hr]⟩
    | cons b l => exact ⟨h.1, ih h.2⟩

theorem consecutive_tail {n : Nat} {l : List ReportRec} (h : consecutive n l) : consecutive n l.tail := by
  cases l with
  | nil => trivial
  | cons a l =>
    cases l with
    | nil => trivial
    | cons b l => exact h.2

theorem nextNumber_range (n : Nat) : 1 ≤ nextNumber n ∧ nextNumber n ≤ 65535 := by
  unfold nextNumber
  split <;> omega

/-- A record under the next number keeps the store sound. -/
theorem Reports.add_sound {s : State} {r : ReportRec} (h : s.reportsSound) (hr : r.number = s.reports.next) :
    ({ s with reports := s.reports.add r } : State).reportsSound := by
  obtain ⟨hlen, hcons, hnext⟩ := h
  have hkept : consecutive s.reports.next
      (if s.reports.records.length < reportCapacity then s.reports.records else s.reports.records.tail) := by
    split
    · exact hcons
    · exact consecutive_tail hcons
  refine ⟨?_, consecutive_append hkept hr, nextNumber_range _⟩
  simp only [Reports.add, List.length_append, List.length_singleton]
  split
  case isTrue hroom => exact hroom
  case isFalse => simp only [List.length_tail]; omega

/-! ### Table banks (R188) -/

theorem ShipBank.canonical_iff {b : ShipBank} :
    b.canonical = true ↔ ∀ c ∈ TableCode.shipTables, (b.get c).mem.wf = true := by
  simp [ShipBank.canonical]

theorem ShipBank.get_wf {b : ShipBank} (h : b.canonical = true) (c : TableCode) : (b.get c).mem.wf = true := by
  have hc := ShipBank.canonical_iff.1 h
  cases c <;> first | exact hc _ (by decide) | exact hc .part (by decide)

theorem ShipBank.canonical_set {b : ShipBank} {t : TableImage} (h : b.canonical = true) (ht : t.mem.wf = true)
    (c : TableCode) : (b.set t c).canonical = true := by
  refine ShipBank.canonical_iff.2 fun d hd => ?_
  by_cases hdc : d = c
  · subst hdc
    rwa [ShipBank.get_set b t hd]
  · rw [ShipBank.get_set_ne b t hd hdc]
    exact b.get_wf h d

theorem ShipBank.canonical_withChecks {b : ShipBank} (h : b.canonical = true) : b.withChecks.canonical = true := by
  unfold ShipBank.withChecks
  generalize TableCode.shipTables = l
  induction l generalizing b with
  | nil => exact h
  | cons c l ih => exact ih (ShipBank.canonical_set (t := (b.get c).sealed c) h (b.get_wf h c) c)

theorem PlanBank.get_wf {b : PlanBank} (h : b.canonical = true) (c : TableCode) : (b.get c).mem.wf = true := by
  obtain ⟨hh, hs⟩ := (Bool.and_eq_true _ _).mp h
  cases c <;> first | exact hh | exact hs

theorem PlanBank.canonical_set {b : PlanBank} {t : TableImage} (h : b.canonical = true) (ht : t.mem.wf = true)
    (c : TableCode) : (b.set t c).canonical = true := by
  obtain ⟨hh, hs⟩ := (Bool.and_eq_true _ _).mp h
  have hset : ∀ x y : TableImage, x.mem.wf = true → y.mem.wf = true → PlanBank.canonical ⟨x, y⟩ = true :=
    fun x y hx hy => (Bool.and_eq_true _ _).mpr ⟨hx, hy⟩
  cases c <;> first | exact h | exact hset _ _ ht hs | exact hset _ _ hh ht

@[simp] theorem TableImage.sealed_mem (c : TableCode) (t : TableImage) : (t.sealed c).mem = t.mem := by
  obtain ⟨mem, check⟩ := t
  rfl

theorem PlanBank.canonical_withChecks {b : PlanBank} (h : b.canonical = true) : b.withChecks.canonical = true := by
  obtain ⟨header, steps⟩ := b
  simpa only [PlanBank.canonical, PlanBank.withChecks, TableImage.sealed_mem] using h

end Sys2Proof.Machine
end

section
/-! PROOFS. The fault table stays sound under a raising, a clearing and an acknowledgement (R178, R179). -/

namespace Sys2Proof.Machine

/-- A mark once the mark `m` has taken a freed place. -/
def FaultMark.filled (m y : FaultMark) : FaultMark :=
  if y.kind = m.kind && y.subject = m.subject then { y with waiting := false } else y

@[simp] theorem FaultMark.filled_kind (m y : FaultMark) : (m.filled y).kind = y.kind := by
  unfold filled
  split <;> rfl

@[simp] theorem FaultMark.filled_subject (m y : FaultMark) : (m.filled y).subject = y.subject := by
  unfold filled
  split <;> rfl

theorem FaultMark.filled_of_ne {m y : FaultMark} (h : ¬(y.kind = m.kind ∧ y.subject = m.subject)) : m.filled y = y :=
  if_neg (by simpa [imp_iff_not_or] using h)

namespace Faults

theorem isFor_iff {e : FaultEntry} {k : FaultKind} {x : Nat} : e.isFor k x = true ↔ e.kind = k ∧ e.subject = x := by
  simp [FaultEntry.isFor]

theorem entry_none_iff {f : Faults} {k : FaultKind} {x : Nat} :
    f.entry k x = none ↔ ∀ e ∈ f.entries, ¬(e.kind = k ∧ e.subject = x) := by
  simp [entry, List.find?_eq_none, FaultEntry.isFor]

theorem active_false_iff {f : Faults} {k : FaultKind} {x : Nat} :
    f.active k x = false ↔ ∀ m ∈ f.marks, ¬(m.kind = k ∧ m.subject = x) := by
  simp [active]

/-- Two entries of a sound table for one fault are one entry. -/
theorem sound.entry_unique {f : Faults} (hs : f.sound) {a b : FaultEntry} (ha : a ∈ f.entries) (hb : b ∈ f.entries)
    (hkind : a.kind = b.kind) (hsubject : a.subject = b.subject) : a = b := by
  have := hs.entry_eq ha
  rw [hkind, hsubject, hs.entry_eq hb] at this
  exact (Option.some.inj this).symm

/-- A fault whose entry is CLEARED_UNACK has no mark. -/
theorem sound.inactive_of_cleared {f : Faults} (hs : f.sound) {e : FaultEntry} (he : e ∈ f.entries)
    (hstate : e.state = .clearedUnack) : f.active e.kind e.subject = false := by
  refine active_false_iff.2 fun m hm ⟨hkind, hsubject⟩ => ?_
  cases hw : m.waiting
  case true => exact (hs.waits m hm hw).2 e he ⟨hkind.symm, hsubject.symm⟩
  case false =>
    obtain ⟨d, hd, hdk, hds, hne⟩ := hs.entered m hm hw
    exact hne ((hs.entry_unique hd he (hdk.trans hkind) (hds.trans hsubject)).symm ▸ hstate)

theorem removeMark_of_inactive {f : Faults} {k : FaultKind} {x : Nat} (h : f.active k x = false) :
    f.removeMark k x = f := by
  have : f.marks.filter (fun m => !(m.kind = k && m.subject = x)) = f.marks :=
    List.filter_eq_self.2 fun m hm => by simpa [imp_iff_not_or] using active_false_iff.1 h m hm
  unfold removeMark
  rw [this]

theorem mem_removeMark {f : Faults} {k : FaultKind} {x : Nat} {m : FaultMark} :
    m ∈ (f.removeMark k x).marks ↔ m ∈ f.marks ∧ ¬(m.kind = k ∧ m.subject = x) := by
  simp [removeMark, imp_iff_not_or]

theorem mem_removeEntry {f : Faults} {k : FaultKind} {x : Nat} {e : FaultEntry} :
    e ∈ (f.removeEntry k x).entries ↔ e ∈ f.entries ∧ ¬(e.kind = k ∧ e.subject = x) := by
  simp [removeEntry, FaultEntry.isFor, imp_iff_not_or]

/-! ### A table with a place to fill -/

/-- The table between the leaving of an entry and the entry that takes its place: sound, but that a mark waits where
only that one place is free. -/
structure soundBut (f : Faults) : Prop where
  capacity : f.entries.length < 32
  oneEntry : f.entries.Pairwise fun a b => ¬(a.kind = b.kind ∧ a.subject = b.subject)
  oneMark : f.marks.Pairwise fun a b => ¬(a.kind = b.kind ∧ a.subject = b.subject)
  waits : ∀ m ∈ f.marks, m.waiting = true →
    f.entries.length = 31 ∧ ∀ e ∈ f.entries, ¬(e.kind = m.kind ∧ e.subject = m.subject)
  entered : ∀ m ∈ f.marks, m.waiting = false →
    ∃ e ∈ f.entries, e.kind = m.kind ∧ e.subject = m.subject ∧ e.state ≠ .clearedUnack
  marked : ∀ e ∈ f.entries, e.state ≠ .clearedUnack →
    ∃ m ∈ f.marks, m.kind = e.kind ∧ m.subject = e.subject ∧ m.waiting = false

/-- A list in which a test holds of one element at most loses one element with it. -/
theorem length_filter_not {α : Type} {p : α → Bool} {l : List α} (hl : l.Pairwise fun a b => ¬(p a = true ∧ p b = true))
    {e : α} (he : e ∈ l) (hp : p e = true) : l.length = (l.filter fun a => !p a).length + 1 := by
  induction l with
  | nil => cases he
  | cons a l ih =>
    obtain ⟨ha, hl⟩ := List.pairwise_cons.1 hl
    cases hpa : p a
    case true =>
      have hrest : (l.filter fun b => !p b) = l := List.filter_eq_self.2 fun b hb => by simpa [hpa] using ha b hb
      simp [hpa, hrest]
    case false =>
      have he' : e ∈ l := (List.mem_cons.1 he).resolve_left fun h => by simp [← h, hp] at hpa
      simp [hpa, ← ih hl he']

/-- An entry that leaves with its mark frees a place. -/
theorem sound.soundBut_remove {f : Faults} (hs : f.sound) {k : FaultKind} {x : Nat} {e : FaultEntry}
    (he : f.entry k x = some e) : ((f.removeMark k x).removeEntry k x).soundBut := by
  obtain ⟨hmem, hk, hx⟩ := mem_of_entry he
  have hlen : f.entries.length = ((f.removeMark k x).removeEntry k x).entries.length + 1 :=
    length_filter_not (hs.oneEntry.imp fun hab ⟨ha, hb⟩ =>
      hab ⟨(isFor_iff.1 ha).1.trans (isFor_iff.1 hb).1.symm, (isFor_iff.1 ha).2.trans (isFor_iff.1 hb).2.symm⟩) hmem
      (isFor_iff.2 ⟨hk, hx⟩)
  refine ⟨by have := hs.capacity; omega, hs.oneEntry.filter _, hs.oneMark.filter _, ?_, ?_, ?_⟩
  · intro m hm hw
    have hm' := (mem_removeMark (f := f)).1 hm
    obtain ⟨h32, hno⟩ := hs.waits m hm'.1 hw
    exact ⟨by omega, fun a ha => hno a (mem_removeEntry.1 ha).1⟩
  · intro m hm hw
    obtain ⟨hmf, hne⟩ := (mem_removeMark (f := f)).1 hm
    obtain ⟨a, ha, hak, hax, hst⟩ := hs.entered m hmf hw
    exact ⟨a, mem_removeEntry.2 ⟨ha, by rwa [hak, hax]⟩, hak, hax, hst⟩
  · intro a ha hst
    obtain ⟨haf, hne⟩ := mem_removeEntry.1 ha
    obtain ⟨m, hm, hmk, hmx, hw⟩ := hs.marked a haf hst
    exact ⟨m, mem_removeMark.2 ⟨hm, by rwa [hmk, hmx]⟩, hmk, hmx, hw⟩

/-- The mark that waits longest takes the free place (R179). -/
theorem soundBut.fillPlace {f : Faults} (h : f.soundBut) : f.fillPlace.sound := by
  unfold Faults.fillPlace
  split
  case h_1 hnone =>
    have hwait : ∀ m ∈ f.marks, m.waiting = false := by simpa [List.find?_eq_none] using hnone
    exact ⟨h.capacity.le, h.oneEntry, h.oneMark, fun m hm hw => by simp [hwait m hm] at hw, h.entered, h.marked⟩
  case h_2 m hsome =>
    have hm : m ∈ f.marks := List.mem_of_find?_eq_some hsome
    have hmw : m.waiting = true := by simpa using List.find?_some hsome
    obtain ⟨hlen, hno⟩ := h.waits m hm hmw
    have hm' : (m.filled m).waiting = false := by simp [FaultMark.filled]
    have hφw : ∀ y ∈ f.marks, (m.filled y).waiting = true → y.waiting = true ∧ ¬(y.kind = m.kind ∧ y.subject = m.subject) := by
      intro y _ hy
      by_cases hkey : y.kind = m.kind ∧ y.subject = m.subject
      · simp [FaultMark.filled, hkey] at hy
      · exact ⟨by rwa [FaultMark.filled_of_ne hkey] at hy, hkey⟩
    refine ⟨by simp [hlen], ?_, ?_, ?_, ?_, ?_⟩
    · refine List.pairwise_append.2 ⟨h.oneEntry, List.pairwise_singleton _ _, fun a ha b hb => ?_⟩
      rw [List.mem_singleton.1 hb]
      exact hno a ha
    · exact List.pairwise_map.2 (h.oneMark.imp fun {a b} hab => by
        change ¬((m.filled a).kind = (m.filled b).kind ∧ (m.filled a).subject = (m.filled b).subject)
        simpa using hab)
    · intro z hz hw
      obtain ⟨y, hy, rfl⟩ := List.mem_map.1 hz
      obtain ⟨hyw, hkey⟩ := hφw y hy hw
      refine ⟨by simp [hlen], fun e he => ?_⟩
      change ¬(e.kind = (m.filled y).kind ∧ e.subject = (m.filled y).subject)
      rw [FaultMark.filled_kind, FaultMark.filled_subject]
      obtain he | he := List.mem_append.1 he
      · exact (h.waits y hy hyw).2 e he
      · rw [List.mem_singleton.1 he]
        exact fun ⟨h1, h2⟩ => hkey ⟨h1.symm, h2.symm⟩
    · intro z hz hw
      obtain ⟨y, hy, rfl⟩ := List.mem_map.1 hz
      change ∃ e ∈ _, FaultEntry.kind e = (m.filled y).kind ∧ FaultEntry.subject e = (m.filled y).subject ∧ _
      simp only [FaultMark.filled_kind, FaultMark.filled_subject]
      by_cases hkey : y.kind = m.kind ∧ y.subject = m.subject
      · exact ⟨_, List.mem_append_right _ (List.mem_singleton_self _), hkey.1.symm, hkey.2.symm, nofun⟩
      · obtain ⟨e, he, hek, hes, hst⟩ := h.entered y hy (by change (m.filled y).waiting = false at hw; rwa [FaultMark.filled_of_ne hkey] at hw)
        exact ⟨e, List.mem_append_left _ he, hek, hes, hst⟩
    · intro e he hst
      obtain he | he := List.mem_append.1 he
      · obtain ⟨y, hy, hyk, hys, hyw⟩ := h.marked e he hst
        have hkey : ¬(y.kind = m.kind ∧ y.subject = m.subject) := fun hk => hno e he ⟨hyk.symm.trans hk.1, hys.symm.trans hk.2⟩
        exact ⟨m.filled y, List.mem_map_of_mem hy, by simpa using hyk, by simpa using hys, by rwa [FaultMark.filled_of_ne hkey]⟩
      · rw [List.mem_singleton.1 he]
        exact ⟨m.filled m, List.mem_map_of_mem hm, by simp, by simp, hm'⟩

/-- A waiting mark that is cleared leaves the rest as it is. -/
theorem sound.removeMark {f : Faults} (hs : f.sound) {k : FaultKind} {x : Nat} (h : f.entry k x = none) :
    (f.removeMark k x).sound where
  capacity := hs.capacity
  oneEntry := hs.oneEntry
  oneMark := hs.oneMark.filter _
  waits m hm hw := hs.waits m (mem_removeMark.1 hm).1 hw
  entered m hm hw := hs.entered m (mem_removeMark.1 hm).1 hw
  marked e he hst := by
    obtain ⟨m, hm, hmk, hms, hw⟩ := hs.marked e he hst
    exact ⟨m, mem_removeMark.2 ⟨hm, by rw [hmk, hms]; exact entry_none_iff.1 h e he⟩, hmk, hms, hw⟩

/-! ### An entry changed in place -/

/-- The entry that a change in place gives for an entry. -/
def changed (k : FaultKind) (x : Nat) (g : FaultEntry → FaultEntry) (e : FaultEntry) : FaultEntry :=
  if e.isFor k x then g e else e

theorem mapEntry_eq (f : Faults) (k : FaultKind) (x : Nat) (g : FaultEntry → FaultEntry) :
    f.mapEntry k x g = { f with entries := f.entries.map (changed k x g) } := rfl

theorem changed_of_key {k : FaultKind} {x : Nat} (g : FaultEntry → FaultEntry) {e : FaultEntry} (hk : e.kind = k)
    (hx : e.subject = x) : changed k x g e = g e := if_pos (isFor_iff.2 ⟨hk, hx⟩)

theorem changed_of_ne {k : FaultKind} {x : Nat} (g : FaultEntry → FaultEntry) {e : FaultEntry}
    (h : ¬(e.kind = k ∧ e.subject = x)) : changed k x g e = e := if_neg fun hf => h (isFor_iff.1 hf)

/-- A change that keeps an entry's field keeps it in the table. -/
theorem changed_field {α : Type} {p : FaultEntry → α} {g : FaultEntry → FaultEntry} (hg : ∀ e, p (g e) = p e)
    (k : FaultKind) (x : Nat) (e : FaultEntry) : p (changed k x g e) = p e := by
  unfold changed
  split
  · exact hg e
  · rfl

/-- Entries changed in place and marks that match them. -/
theorem sound.change {f : Faults} (hs : f.sound) {k : FaultKind} {x : Nat} {g : FaultEntry → FaultEntry}
    {marks : List FaultMark}
    (hkind : ∀ e, (g e).kind = e.kind) (hsubject : ∀ e, (g e).subject = e.subject)
    (hone : marks.Pairwise fun a b => ¬(a.kind = b.kind ∧ a.subject = b.subject))
    (hwaits : ∀ m ∈ marks, m.waiting = true → m ∈ f.marks)
    (hentered : ∀ m ∈ marks, m.waiting = false →
      ∃ e ∈ f.entries, e.kind = m.kind ∧ e.subject = m.subject ∧ (changed k x g e).state ≠ .clearedUnack)
    (hmarked : ∀ e ∈ f.entries, (changed k x g e).state ≠ .clearedUnack →
      ∃ m ∈ marks, m.kind = e.kind ∧ m.subject = e.subject ∧ m.waiting = false) :
    ({ f with entries := f.entries.map (changed k x g), marks := marks } : Faults).sound where
  capacity := by simpa using hs.capacity
  oneEntry := List.pairwise_map.2 (hs.oneEntry.imp fun {a b} hab => by rwa [changed_field hkind, changed_field hkind, changed_field hsubject, changed_field hsubject])
  oneMark := hone
  waits m hm hw := by
    obtain ⟨hlen, hno⟩ := hs.waits m (hwaits m hm hw) hw
    refine ⟨by simpa using hlen, fun z hz => ?_⟩
    obtain ⟨e, he, rfl⟩ := List.mem_map.1 hz
    rw [changed_field hkind, changed_field hsubject]
    exact hno e he
  entered m hm hw := by
    obtain ⟨e, he, hek, hes, hst⟩ := hentered m hm hw
    exact ⟨changed k x g e, List.mem_map_of_mem he, (changed_field hkind k x e).trans hek, (changed_field hsubject k x e).trans hes, hst⟩
  marked z hz hst := by
    obtain ⟨e, he, rfl⟩ := List.mem_map.1 hz
    rw [changed_field hkind, changed_field hsubject]
    exact hmarked e he hst

/-- A change in place that keeps an entry CLEARED_UNACK, or keeps it ACTIVE. -/
theorem sound.mapEntry {f : Faults} (hs : f.sound) {k : FaultKind} {x : Nat} {g : FaultEntry → FaultEntry}
    (hkind : ∀ e, (g e).kind = e.kind) (hsubject : ∀ e, (g e).subject = e.subject)
    (hstate : ∀ e ∈ f.entries, e.kind = k → e.subject = x → ((g e).state = .clearedUnack ↔ e.state = .clearedUnack)) :
    (f.mapEntry k x g).sound := by
  have hst : ∀ e ∈ f.entries, ((changed k x g e).state = .clearedUnack ↔ e.state = .clearedUnack) := by
    intro e he
    by_cases hkey : e.kind = k ∧ e.subject = x
    · rw [changed_of_key g hkey.1 hkey.2]
      exact hstate e he hkey.1 hkey.2
    · rw [changed_of_ne g hkey]
  refine hs.change hkind hsubject hs.oneMark (fun m hm _ => hm) ?_ ?_
  · intro m hm hw
    obtain ⟨e, he, hek, hes, hne⟩ := hs.entered m hm hw
    exact ⟨e, he, hek, hes, fun h => hne ((hst e he).1 h)⟩
  · exact fun e he hne => hs.marked e he fun h => hne ((hst e he).2 h)

theorem addMark_of_inactive {f : Faults} {k : FaultKind} {x : Nat} (h : f.active k x = false) (z : Stamp) (w : Bool) :
    f.addMark k x z w = { f with marks := f.marks ++ [{ kind := k, subject := x, raised := z, waiting := w }] } := by
  unfold addMark
  rw [h]
  rfl

/-- One more mark, of a fault that had none. -/
theorem pairwise_marks_append {l : List FaultMark} {k : FaultKind} {x : Nat} {z : Stamp} {w : Bool}
    (hl : l.Pairwise fun a b => ¬(a.kind = b.kind ∧ a.subject = b.subject))
    (h : ∀ m ∈ l, ¬(m.kind = k ∧ m.subject = x)) :
    (l ++ [({ kind := k, subject := x, raised := z, waiting := w } : FaultMark)]).Pairwise
      fun a b => ¬(a.kind = b.kind ∧ a.subject = b.subject) :=
  List.pairwise_append.2 ⟨hl, List.pairwise_singleton _ _, fun a ha b hb => by rw [List.mem_singleton.1 hb]; exact h a ha⟩

/-- A CLEARED_UNACK entry raised again takes a mark (Table 10-4). -/
theorem sound.raiseAgain {f : Faults} (hs : f.sound) {k : FaultKind} {x : Nat} {e : FaultEntry}
    (he : f.entry k x = some e) (hcleared : e.state = .clearedUnack) (z : Stamp) :
    ((f.mapEntry k x fun e => e.raiseAgain z .activeUnack).addMark k x z false).sound := by
  obtain ⟨hmem, hk, hx⟩ := mem_of_entry he
  have hinactive : f.active k x = false := by simpa [hk, hx] using hs.inactive_of_cleared hmem hcleared
  rw [addMark_of_inactive (f := f.mapEntry k x _) hinactive, mapEntry_eq]
  refine hs.change (g := fun e => e.raiseAgain z .activeUnack) (fun _ => rfl) (fun _ => rfl)
    (pairwise_marks_append hs.oneMark (active_false_iff.1 hinactive)) ?_ ?_ ?_
  · intro m hm hw
    obtain hm | hm := List.mem_append.1 hm
    · exact hm
    · rw [List.mem_singleton.1 hm] at hw
      cases hw
  · intro m hm hw
    obtain hm | hm := List.mem_append.1 hm
    · obtain ⟨d, hd, hdk, hds, hne⟩ := hs.entered m hm hw
      refine ⟨d, hd, hdk, hds, ?_⟩
      rwa [changed_of_ne _ (by rw [hdk, hds]; exact active_false_iff.1 hinactive m hm)]
    · rw [List.mem_singleton.1 hm]
      exact ⟨e, hmem, hk, hx, by rw [changed_of_key _ hk hx]; exact nofun⟩
  · intro d hd hne
    by_cases hkey : d.kind = k ∧ d.subject = x
    · exact ⟨_, List.mem_append_right _ (List.mem_singleton_self _), hkey.1.symm, hkey.2.symm, rfl⟩
    · rw [changed_of_ne _ hkey] at hne
      obtain ⟨m, hm, hmk, hms, hw⟩ := hs.marked d hd hne
      exact ⟨m, List.mem_append_left _ hm, hmk, hms, hw⟩

/-- An ACTIVE_UNACK entry cleared loses its mark (Table 10-4). -/
theorem sound.clearEntry {f : Faults} (hs : f.sound) (k : FaultKind) (x : Nat) :
    ((f.removeMark k x).mapEntry k x fun e => { e with state := .clearedUnack }).sound := by
  rw [mapEntry_eq]
  refine hs.change (g := fun e => { e with state := .clearedUnack }) (fun _ => rfl) (fun _ => rfl) (hs.oneMark.filter _)
    (fun m hm _ => (mem_removeMark.1 hm).1) ?_ ?_
  · intro m hm hw
    obtain ⟨hmf, hne⟩ := mem_removeMark.1 hm
    obtain ⟨e, he, hek, hes, hst⟩ := hs.entered m hmf hw
    exact ⟨e, he, hek, hes, by rwa [changed_of_ne _ (by rwa [hek, hes])]⟩
  · intro e he hst
    by_cases hkey : e.kind = k ∧ e.subject = x
    · rw [changed_of_key _ hkey.1 hkey.2] at hst
      exact absurd rfl hst
    · rw [changed_of_ne _ hkey] at hst
      obtain ⟨m, hm, hmk, hms, hw⟩ := hs.marked e he hst
      exact ⟨m, mem_removeMark.2 ⟨hm, by rwa [hmk, hms]⟩, hmk, hms, hw⟩

/-! ### A new entry -/

/-- A list without its first element that satisfies a test, which it has. -/
theorem length_removeFirst {α : Type} {p : α → Bool} {l : List α} (h : l.any p = true) :
    l.length = (removeFirst p l).length + 1 := by
  induction l with
  | nil => cases h
  | cons a l ih =>
    unfold removeFirst
    split
    case isTrue => rfl
    case isFalse hp => simp [ih (by simpa [hp] using h)]

theorem removeFirst_sublist {α : Type} (p : α → Bool) (l : List α) : (removeFirst p l).Sublist l := by
  induction l with
  | nil => exact List.Sublist.slnil
  | cons a l ih =>
    unfold removeFirst
    split
    · exact List.sublist_cons_self a l
    · exact ih.cons_cons a

/-- What satisfies no test stays. -/
theorem mem_removeFirst {α : Type} {p : α → Bool} {l : List α} {a : α} (ha : a ∈ l) (hp : p a = false) :
    a ∈ removeFirst p l := by
  induction l with
  | nil => cases ha
  | cons b l ih =>
    unfold removeFirst
    obtain rfl | ha := List.mem_cons.1 ha
    · simp [hp]
    · split
      · exact ha
      · exact List.mem_cons_of_mem b (ih ha)

/-- A place made for a new entry (R179). -/
theorem sound.soundBut_makeRoom {f g : Faults} (hs : f.sound) (h : f.makeRoom = some g) :
    g.soundBut ∧ g.entries.Sublist f.entries := by
  unfold makeRoom at h
  split at h
  case isTrue hroom =>
    cases h
    have hlt : f.entries.length < 32 := hroom
    exact ⟨⟨hlt, hs.oneEntry, hs.oneMark, fun m hm hw => absurd (hs.waits m hm hw).1 hlt.ne, hs.entered, hs.marked⟩,
      List.Sublist.refl _⟩
  case isFalse hroom =>
    split at h
    case isFalse => cases h
    case isTrue hany =>
      cases h
      have hlen := length_removeFirst hany
      have hsub := removeFirst_sublist (fun e : FaultEntry => decide (e.state = .clearedUnack)) f.entries
      have hcap : f.entries.length ≤ 32 := hs.capacity
      refine ⟨⟨?_, hs.oneEntry.sublist hsub, hs.oneMark, ?_, ?_, fun e he => hs.marked e (hsub.subset he)⟩, hsub⟩
      · dsimp only
        omega
      · intro m hm hw
        obtain ⟨h32, hno⟩ := hs.waits m hm hw
        refine ⟨?_, fun e he => hno e (hsub.subset he)⟩
        dsimp only
        omega
      · intro m hm hw
        obtain ⟨e, he, hek, hes, hst⟩ := hs.entered m hm hw
        exact ⟨e, mem_removeFirst he (by simpa using hst), hek, hes, hst⟩

/-- An entry that is CLEARED_UNACK from its raising takes a free place and no mark (R178). -/
theorem soundBut.addCleared {f : Faults} (h : f.soundBut) {e : FaultEntry} (hst : e.state = .clearedUnack)
    (hnew : ∀ d ∈ f.entries, ¬(d.kind = e.kind ∧ d.subject = e.subject)) (hinactive : f.active e.kind e.subject = false) :
    (f.addEntry e).sound where
  capacity := by have := h.capacity; simp [addEntry]; omega
  oneEntry := List.pairwise_append.2 ⟨h.oneEntry, List.pairwise_singleton _ _, fun a ha b hb => by
    rw [List.mem_singleton.1 hb]; exact hnew a ha⟩
  oneMark := h.oneMark
  waits m hm hw := by
    obtain ⟨hlen, hno⟩ := h.waits m hm hw
    refine ⟨by simp [addEntry, hlen], fun d hd => ?_⟩
    obtain hd | hd := List.mem_append.1 hd
    · exact hno d hd
    · rw [List.mem_singleton.1 hd]
      exact fun hkey => active_false_iff.1 hinactive m hm ⟨hkey.1.symm, hkey.2.symm⟩
  entered m hm hw := by
    obtain ⟨d, hd, hrest⟩ := h.entered m hm hw
    exact ⟨d, List.mem_append_left _ hd, hrest⟩
  marked d hd hne := by
    obtain hd | hd := List.mem_append.1 hd
    · exact h.marked d hd hne
    · rw [List.mem_singleton.1 hd] at hne
      exact absurd hst hne

/-- An entry that is ACTIVE takes a free place with its mark (R179). -/
theorem soundBut.addActive {f : Faults} (h : f.soundBut) {e : FaultEntry} (hst : e.state ≠ .clearedUnack)
    (hnew : ∀ d ∈ f.entries, ¬(d.kind = e.kind ∧ d.subject = e.subject)) (hinactive : f.active e.kind e.subject = false)
    (z : Stamp) : ((f.addEntry e).addMark e.kind e.subject z false).sound := by
  rw [addMark_of_inactive (f := f.addEntry e) hinactive]
  refine ⟨by have := h.capacity; simp [addEntry]; omega, ?_,
    pairwise_marks_append h.oneMark (active_false_iff.1 hinactive), ?_, ?_, ?_⟩
  · exact List.pairwise_append.2 ⟨h.oneEntry, List.pairwise_singleton _ _, fun a ha b hb => by
      rw [List.mem_singleton.1 hb]; exact hnew a ha⟩
  · intro m hm hw
    obtain hm | hm := List.mem_append.1 hm
    · obtain ⟨hlen, hno⟩ := h.waits m hm hw
      refine ⟨by simp [addEntry, hlen], fun d hd => ?_⟩
      obtain hd | hd := List.mem_append.1 hd
      · exact hno d hd
      · rw [List.mem_singleton.1 hd]
        exact fun hkey => active_false_iff.1 hinactive m hm ⟨hkey.1.symm, hkey.2.symm⟩
    · rw [List.mem_singleton.1 hm] at hw
      cases hw
  · intro m hm hw
    obtain hm | hm := List.mem_append.1 hm
    · obtain ⟨d, hd, hrest⟩ := h.entered m hm hw
      exact ⟨d, List.mem_append_left _ hd, hrest⟩
    · rw [List.mem_singleton.1 hm]
      exact ⟨e, List.mem_append_right _ (List.mem_singleton_self _), rfl, rfl, hst⟩
  · intro d hd hne
    obtain hd | hd := List.mem_append.1 hd
    · obtain ⟨m, hm, hrest⟩ := h.marked d hd hne
      exact ⟨m, List.mem_append_left _ hm, hrest⟩
    · rw [List.mem_singleton.1 hd]
      exact ⟨_, List.mem_append_right _ (List.mem_singleton_self _), rfl, rfl, rfl⟩

/-- A fault that finds the table full of ACTIVE entries leaves a mark that waits (R179). -/
theorem sound.addWaiting {f : Faults} (hs : f.sound) {k : FaultKind} {x : Nat} (hfull : f.entries.length = 32)
    (hentry : f.entry k x = none) (hinactive : f.active k x = false) (z : Stamp) : (f.addMark k x z true).sound := by
  rw [addMark_of_inactive hinactive]
  refine ⟨hs.capacity, hs.oneEntry, pairwise_marks_append hs.oneMark (active_false_iff.1 hinactive), ?_, ?_, ?_⟩
  · intro m hm hw
    obtain hm | hm := List.mem_append.1 hm
    · exact hs.waits m hm hw
    · rw [List.mem_singleton.1 hm]
      exact ⟨hfull, entry_none_iff.1 hentry⟩
  · intro m hm hw
    obtain hm | hm := List.mem_append.1 hm
    · exact hs.entered m hm hw
    · rw [List.mem_singleton.1 hm] at hw
      cases hw
  · intro e he hst
    obtain ⟨m, hm, hrest⟩ := hs.marked e he hst
    exact ⟨m, List.mem_append_left _ hm, hrest⟩

theorem length_of_makeRoom_none {f : Faults} (hs : f.sound) (h : f.makeRoom = none) : f.entries.length = 32 := by
  have hcap : f.entries.length ≤ 32 := hs.capacity
  unfold makeRoom at h
  split at h
  case isTrue => cases h
  case isFalse hroom =>
    simp only [faultCapacity] at hroom
    omega

/-! ### Raising, clearing, acknowledging -/

/-- A raising keeps the table sound (Table 10-4, R179). -/
theorem sound.raise {f g : Faults} (hs : f.sound) {k : FaultKind} {x n : Nat} {z : Stamp}
    (h : f.raise k x z = some (g, n)) : g.sound := by
  unfold Faults.raise at h
  dsimp only at h
  split at h
  case h_1 e he =>
    split at h
    case isFalse => cases h
    case isTrue hcleared =>
      cases h
      split
      case isTrue =>
        refine hs.mapEntry (fun _ => rfl) (fun _ => rfl) fun d hd hdk hds => ?_
        obtain ⟨hmem, hk, hx⟩ := mem_of_entry he
        rw [hs.entry_unique hd hmem (hdk.trans hk.symm) (hds.trans hx.symm)]
        exact iff_of_true rfl hcleared
      case isFalse => exact hs.raiseAgain he hcleared z
  case h_2 hentry =>
    split at h
    case isTrue => cases h
    case isFalse hmark =>
      have hinactive : f.active k x = false := by simpa [mark_isSome_iff] using hmark
      split at h
      case h_1 r hr =>
        cases h
        obtain ⟨hbut, hsub⟩ := hs.soundBut_makeRoom hr
        have hnew : ∀ d ∈ r.entries, ¬(d.kind = k ∧ d.subject = x) := fun d hd => entry_none_iff.1 hentry d (hsub.subset hd)
        have hinact : r.active k x = false := (active_of_marks_eq (marks_of_makeRoom hr) k x).trans hinactive
        split
        case isTrue => exact hbut.addCleared rfl hnew hinact
        case isFalse => exact hbut.addActive (by simp) hnew hinact z
      case h_2 hr =>
        cases h
        split
        case isTrue => exact hs
        case isFalse => exact hs.addWaiting (length_of_makeRoom_none hs hr) hentry hinactive z

/-- A clearing keeps the table sound (Table 10-4, R179). -/
theorem sound.clear {f g : Faults} (hs : f.sound) {k : FaultKind} {x n : Nat} (h : f.clear k x = some (g, n)) :
    g.sound := by
  unfold Faults.clear at h
  dsimp only at h
  split at h
  case h_1 e he =>
    split at h
    case h_1 => cases h; exact hs.clearEntry k x
    case h_2 => cases h; exact (hs.soundBut_remove he).fillPlace
    case h_3 => cases h
  case h_2 hentry =>
    split at h
    case isTrue => cases h; exact hs.removeMark hentry
    case isFalse => cases h

/-- An acknowledgement keeps the table sound (Table 10-4, R179). -/
theorem sound.acknowledge {f g : Faults} (hs : f.sound) {k : FaultKind} {x n : Nat}
    (h : f.acknowledge k x = some (g, n)) : g.sound := by
  unfold Faults.acknowledge at h
  split at h
  case h_2 => cases h
  case h_1 e he =>
    obtain ⟨hmem, hk, hx⟩ := mem_of_entry he
    split at h
    case h_1 hactive =>
      cases h
      refine hs.mapEntry (fun _ => rfl) (fun _ => rfl) fun d hd hdk hds => ?_
      rw [hs.entry_unique hd hmem (hdk.trans hk.symm) (hds.trans hx.symm), hactive]
      exact iff_of_false (by simp) (by simp)
    case h_2 => cases h
    case h_3 hcleared =>
      cases h
      have hinactive : f.active k x = false := by simpa [hk, hx] using hs.inactive_of_cleared hmem hcleared
      have := (hs.soundBut_remove he).fillPlace
      rwa [removeMark_of_inactive hinactive] at this

end Faults

end Sys2Proof.Machine
end

section
/-! PROOFS. What every operation of the part keeps (R110, R111, R144, R154, R171 to R173, R179, R184, R188): one
relation between two states, `State.keeps`, with a lemma for each operation of the model, from the queues up to the
management requests. Each lemma takes the relation up to the state before an operation and gives it up to the state
after, so that an operation that is a sequence of others is proved by the same sequence of lemmas. -/

namespace Sys2Proof.Machine

namespace State

/-- Each of the block invariants that holds of `s` holds of `t`. -/
structure keeps (s t : State) : Prop where
  mode : s.modeSound → t.modeSound
  alarm : s.alarmSound → t.alarmSound
  ports : s.out.sound → t.out.sound
  faults : s.faults.sound → t.faults.sound
  held : s.heldSound → t.heldSound
  reports : s.reportsSound → t.reportsSound
  canonical : s.canonical = true → t.canonical = true

theorem canonical_iff {s : State} : s.canonical = true ↔
    s.mgmt.ship.active.canonical = true ∧ s.mgmt.ship.staging.canonical = true ∧ s.mgmt.plan.active.canonical = true
      ∧ s.mgmt.plan.staging.canonical = true ∧ s.mgmt.store.bank.canonical = true
      ∧ (∀ j, s.mgmt.writing = some j → j.bank.canonical = true)
      ∧ ∀ n, s.engine.snapshot = some n → n.tables.canonical = true := by
  simp only [canonical, Bool.and_eq_true, Option.all_eq_true, and_assoc]

/-- The blocks that no block invariant speaks of. -/
abbrev freeBlocks : List Block := [.pending, .clock, .scrub, .tanks, .shore, .tracker, .pacing, .stations]

namespace keeps

theorem refl (s : State) : s.keeps s := ⟨id, id, id, id, id, id, id⟩

variable {s t u : State}

theorem trans (h : s.keeps t) (k : t.keeps u) : s.keeps u :=
  ⟨k.mode ∘ h.mode, k.alarm ∘ h.alarm, k.ports ∘ h.ports, k.faults ∘ h.faults, k.held ∘ h.held, k.reports ∘ h.reports,
    k.canonical ∘ h.canonical⟩

/-- A frame of free blocks. -/
theorem free (h : s.keeps t) {l : List Block} (k : t.onlyChanges l u) (hl : l.all (freeBlocks.contains ·) = true) :
    s.keeps u := by
  have hk := k.mono fun b hb => List.contains_iff_mem.mp (List.all_eq_true.mp hl b hb)
  refine h.trans ⟨fun hm => ?_, fun ha => ?_, fun ho => ?_, fun hf => ?_, fun hh => ?_, fun hr => ?_, fun hc => ?_⟩
  · unfold modeSound at hm ⊢
    rwa [hk.mode (by decide), hk.settle (by decide), hk.reload (by decide), hk.sessionOpen (by decide)]
  · unfold alarmSound at ha ⊢
    rwa [hk.latch (by decide), hk.faults (by decide)]
  · rwa [hk.out (by decide)]
  · rwa [hk.faults (by decide)]
  · unfold heldSound at hh ⊢
    rwa [hk.screen (by decide)]
  · unfold reportsSound at hr ⊢
    rwa [hk.reports (by decide)]
  · obtain ⟨hstore, -, hwriting, -⟩ : t.agree u .store := hk .store (by decide)
    rw [canonical_iff] at hc ⊢
    rwa [hk.shipGroup (by decide), hk.planGroup (by decide), hk.engine (by decide), hstore, hwriting]

/-! ### Loops and choices -/

theorem ite {p : Prop} [Decidable p] (h : s.keeps t) (k : s.keeps u) : s.keeps (if p then t else u) := by
  split <;> assumption

theorem foldl {α : Type} {f : State → α → State} {l : List α} (hf : ∀ u x, s.keeps u → s.keeps (f u x))
    (h : s.keeps t) : s.keeps (l.foldl f t) := by
  induction l generalizing t with
  | nil => exact h
  | cons x l ih => exact ih (hf t x h)

/-- A loop that carries a second result. -/
theorem foldl_fst {α β : Type} {f : State × β → α → State × β} {l : List α}
    (hf : ∀ a x, s.keeps a.1 → s.keeps (f a x).1) {a : State × β} (h : s.keeps a.1) : s.keeps (l.foldl f a).1 := by
  induction l generalizing a with
  | nil => exact h
  | cons x l ih => exact ih (hf a x h)

theorem forEach {f : Nat → State → State} {l : List Nat} (hf : ∀ i u, s.keeps u → s.keeps (f i u)) (h : s.keeps t) :
    s.keeps (forEach l f t) := h.foldl (fun u i => hf i u)

/-! ### One block replaced -/

theorem setOut (h : s.keeps t) {o : Out} (ho : t.out.sound → o.sound) : s.keeps { t with out := o } :=
  h.trans ⟨id, id, ho, id, id, id, id⟩

theorem setReports (h : s.keeps t) {r : Reports}
    (hr : t.reportsSound → ({ t with reports := r } : State).reportsSound) : s.keeps { t with reports := r } :=
  h.trans ⟨id, id, id, id, id, hr, id⟩

/-- The settings of the report store, without its records. -/
theorem setReports_eq (h : s.keeps t) {r : Reports} (hrec : r.records = t.reports.records)
    (hnext : r.next = t.reports.next) : s.keeps { t with reports := r } :=
  h.setReports fun hr => by unfold reportsSound at hr ⊢; rwa [hrec, hnext]

theorem setScreen (h : s.keeps t) {x : Screen} (hx : t.heldSound → ({ t with screen := x } : State).heldSound) :
    s.keeps { t with screen := x } := h.trans ⟨id, id, id, id, hx, id, id⟩

/-- The screen without its held-order list. -/
theorem setScreen_eq (h : s.keeps t) {x : Screen} (hx : x.held = t.screen.held) : s.keeps { t with screen := x } :=
  h.setScreen fun hh => by unfold heldSound at hh ⊢; rwa [hx]

/-- The table banks, the ship store, and the snapshot. -/
theorem setBanks (h : s.keeps t) {m : Mgmt} {e : Engine}
    (hc : t.canonical = true → ({ t with mgmt := m, engine := e } : State).canonical = true) :
    s.keeps { t with mgmt := m, engine := e } := h.trans ⟨id, id, id, id, id, id, hc⟩

/-- The engine without its snapshot. -/
theorem setEngine_eq (h : s.keeps t) {e : Engine} (he : e.snapshot = t.engine.snapshot) :
    s.keeps { t with engine := e } :=
  h.setBanks fun hc => by rw [canonical_iff] at hc ⊢; rwa [he]

/-- The mode and the session. -/
theorem setSys (h : s.keeps t) {x : Sys} (hx : t.modeSound → ({ t with sys := x } : State).modeSound)
    (hl : x.latch = true → t.sys.latch = true) : s.keeps { t with sys := x } :=
  h.trans ⟨hx, fun ha hp => ha (hp.imp_left hl), id, id, id, id, id⟩

/-! ### Queues, ALERTs and advisories -/

/-- A port with its queue and transmit side left alone. -/
theorem modPort (h : s.keeps t) {p : Port} {f : PortState → PortState} (hq : ∀ x, (f x).queue = x.queue)
    (hs : ∀ x, (f x).sending = x.sending) : s.keeps (t.modPort p f) := h.setOut fun ho => ho.setPort_eq (hq _) (hs _)

theorem offer (h : s.keeps t) {p : Port} {e : QEntry} : s.keeps (t.offer p e).1 :=
  h.setOut fun ho => (ho.offer p e).settleDrops (r := (_, _)) _ _

theorem send (h : s.keeps t) {p : Port} {x : Telegram} : s.keeps (t.send p x).1 := h.offer

theorem originate (h : s.keeps t) {p : Port} {k : Byte} {x : List Byte} : s.keeps (t.originate p k x) :=
  (h.setOut fun ho => ho.make _ p k x).send

theorem alert (h : s.keeps t) {a : Alert} : s.keeps (t.alert a) := h.setOut fun ho => (ho.alertOnce _ _ a).settleDrops _ _

theorem advise (h : s.keeps t) {k : Advisory} {x : Nat} : s.keeps (t.advise k x) := (h.setOut fun ho => ho.count k).alert

theorem syntheticAck (h : s.keeps t) {c q st : Byte} {o r : Nat} : s.keeps (t.syntheticAck c q st o r) := h.send

/-! ### Faults -/

end keeps

/-- A CRITICAL entry, a CRITICAL mark that waits and the latch make the line STEADY (R184). -/
theorem alarmSound_judgeAlarm (s : State) : s.judgeAlarm.alarmSound := by
  have hf : s.judgeAlarm.faults.entries = s.faults.entries ∧ s.judgeAlarm.faults.marks = s.faults.marks
      ∧ s.judgeAlarm.faults.alarm = alarmOf s.faults s.sys.latch s.bank.alarmDegraded := by
    unfold judgeAlarm Faults.judgeAlarm
    dsimp only
    split <;> exact ⟨rfl, rfl, rfl⟩
  obtain ⟨hentries, hmarks, halarm⟩ := hf
  intro hp
  rw [hentries, hmarks] at hp
  rw [halarm]
  refine if_pos ?_
  rw [Bool.or_eq_true, Bool.or_eq_true, List.any_eq_true, List.any_eq_true]
  obtain hlatch | ⟨e, he, hcritical⟩ | ⟨m, hm, hwaiting, hcritical⟩ := hp
  · exact .inl (.inl hlatch)
  · exact .inl (.inr ⟨e, he, decide_eq_true hcritical⟩)
  · exact .inr ⟨m, hm, (Bool.and_eq_true _ _).mpr ⟨hwaiting, decide_eq_true hcritical⟩⟩

theorem judgeAlarm_sound {s : State} (h : s.faults.sound) : s.judgeAlarm.faults.sound := by
  unfold judgeAlarm Faults.judgeAlarm
  dsimp only
  split <;> exact ⟨h.capacity, h.oneEntry, h.oneMark, h.waits, h.entered, h.marked⟩

namespace keeps

variable {s t u : State}

theorem judgeAlarm (h : s.keeps t) : s.keeps t.judgeAlarm :=
  h.trans ⟨id, fun _ => alarmSound_judgeAlarm t, id, judgeAlarm_sound, id, id, id⟩

/-- The ports and a fault table that is judged afresh. -/
theorem setFaults (h : s.keeps t) {o : Out} {f : Faults} (ho : t.out.sound → o.sound) (hf : t.faults.sound → f.sound) :
    s.keeps ({ t with out := o, faults := f } : State).judgeAlarm :=
  h.trans ⟨id, fun _ => alarmSound_judgeAlarm _, ho, fun hs => judgeAlarm_sound (hf hs), id, id, id⟩

theorem withFaults (h : s.keeps t) {f : Faults} {k : FaultKind} {x tr c : Nat} (hf : t.faults.sound → f.sound) :
    s.keeps (t.withFaults f k x tr c) :=
  h.setFaults (fun ho => (ho.alertOnce _ _ _).settleDrops _ _) hf

theorem setMode_safe (h : s.keeps t) (hm : t.sys.mode = .standby ∨ t.sys.mode = .loading) :
    s.keeps (t.setMode .safe) := by
  refine h.setSys (fun ⟨htimers, _, _⟩ => ⟨fun ht => ?_, fun _ => .inr rfl, nofun⟩) id
  obtain hm | hm := hm <;> exact absurd (hm.symm.trans (htimers ht)) nofun

theorem enterSafeOn (h : s.keeps t) {k : FaultKind} : s.keeps (t.enterSafeOn k) := by
  unfold State.enterSafeOn
  split
  case isTrue hm => exact h.setMode_safe hm.2
  case isFalse => exact h

theorem raiseFault (h : s.keeps t) {k : FaultKind} {x : Nat} : s.keeps (t.raiseFault k x) := by
  unfold State.raiseFault
  split
  case h_1 => exact h
  case h_2 hraise => exact (h.withFaults fun hs => hs.raise hraise).enterSafeOn

theorem clearFault (h : s.keeps t) {k : FaultKind} {x : Nat} : s.keeps (t.clearFault k x) := by
  unfold State.clearFault
  split
  case h_1 => exact h
  case h_2 hclear => exact h.withFaults fun hs => hs.clear hclear

theorem judgeFault (h : s.keeps t) {k : FaultKind} {x : Nat} {up down : Bool} : s.keeps (t.judgeFault k x up down) :=
  ite h.raiseFault (ite h.clearFault h)

theorem clearTableFaults (h : s.keeps t) : s.keeps t.clearTableFaults := h.foldl fun _ _ hu => hu.clearFault

/-! ### Reports -/

theorem emitTo (h : s.keeps t) {p : Port} {r : ReportRec} : s.keeps (t.emitTo p r) := h.forEach fun _ _ hu => hu.originate

theorem emit (h : s.keeps t) {r : ReportRec} : s.keeps (t.emit r) := ite h.emitTo.emitTo h.emitTo

theorem makeRecord (h : s.keeps t) {k : RecordKind} {p g : Bool} {b : List Int} : s.keeps (t.makeRecord k p g b) :=
  (h.setReports fun hr => Reports.add_sound hr rfl).emit

theorem makeCondition (h : s.keeps t) : s.keeps t.makeCondition.1 := by
  unfold State.makeCondition
  split
  · exact h.makeRecord
  · exact h

theorem latchReports (h : s.keeps t) : s.keeps t.latchReports := h.setReports_eq (by rfl) (by rfl)
theorem closeReports (h : s.keeps t) : s.keeps t.closeReports := h.setReports_eq (by rfl) (by rfl)
theorem relatchReports (h : s.keeps t) : s.keeps t.relatchReports := h.setReports_eq (by rfl) (by rfl)
theorem startConditionTimer (h : s.keeps t) : s.keeps t.startConditionTimer := h.setReports_eq (by rfl) (by rfl)
theorem makeSessionClose (h : s.keeps t) : s.keeps t.makeSessionClose := h.makeRecord
theorem makeSessionOpen (h : s.keeps t) {n : Nat} {c b : Int} : s.keeps (t.makeSessionOpen n c b) :=
  h.makeRecord.setReports_eq (by rfl) (by rfl)

/-! ### Pacing -/

theorem modStep (h : s.keeps t) {f : ActiveStep → ActiveStep} : s.keeps (t.modStep f) := h.free (modStep_only t f) rfl

theorem openEpisode (h : s.keeps t) {l : Nat} : s.keeps (t.openEpisode l) :=
  have hsent : s.keeps
      ((t.modPause l fun p => { p with state := .pauseSent (t.newEpisode l), timer := t.confirmDeadline }).sendPause l) :=
    (h.free (modPause_only t l _) rfl).originate
  ite hsent.modStep hsent

theorem closeEpisode (h : s.keeps t) {l : Nat} {e : Episode} : s.keeps (t.closeEpisode l e) :=
  ite (h.makeRecord.free (only_pacing _ _) rfl) h

theorem release (h : s.keeps t) {l : Nat} : s.keeps (t.release l) := by
  have hcleared : s.keeps
      ((((t.originate .shore kindResume (enc1 l)).modPause l fun p => { p with state := .free, timer := none }).clearFault
        .pauseUnconfirmed l).clearFault .overpour l) :=
    (h.originate.free (modPause_only _ l _) rfl).clearFault.clearFault
  unfold State.release
  dsimp only
  split
  · exact ite hcleared.closeEpisode.modStep hcleared.closeEpisode
  · exact ite hcleared.modStep hcleared

theorem actLoader (h : s.keeps t) {l : Nat} {b : ReasonSet} {f : Bool} : s.keeps (t.actLoader l b f) :=
  ite (ite h h.openEpisode) (ite h.release (ite h (h.free (modPause_only t l _) rfl).originate))

theorem actOn (h : s.keeps t) {b : Nat → ReasonSet} {f : Option Nat} : s.keeps (t.actOn b f) :=
  h.forEach fun _ _ hu => hu.actLoader

/-- The changes of an event to free blocks, with the actions on the reason sets that follow. -/
theorem pacingEvent (h : s.keeps t) {f : State → State} {l : List Block} (hf : t.onlyChanges l (f t))
    (hl : l.all (freeBlocks.contains ·) = true) : s.keeps (t.pacingEvent f) := (h.free hf hl).actOn

theorem judgeOverpour (h : s.keeps t) {l : Nat} : s.keeps (t.judgeOverpour l) := by
  unfold State.judgeOverpour
  split
  · exact h
  · split
    · exact h
    · have hmod := fun f => h.free (modPause_only t l f) rfl
      exact ite (ite (hmod _).raiseFault (hmod _)) h

theorem applyBelt (h : s.keeps t) {l : Nat} {b : Belt} : s.keeps (t.applyBelt l b) := by
  unfold State.applyBelt
  dsimp only
  split
  · exact (h.free (modPause_only t l _) rfl).clearFault
  · exact (h.free (modPause_only t l _) rfl).clearFault
  · exact h.free (modPause_only t l _) rfl
  · exact h

theorem pacePour (h : s.keeps t) {b : Nat → ReasonSet} {l : Nat} {z : Bool} {x : Belt} : s.keeps (t.pacePour b l z x) :=
  have hfill : s.keeps (if t.fillsGrace l z then t.fillGrace l else t) := ite (h.free (modPause_only t l _) rfl) h
  (hfill.judgeOverpour.free (followSafe_only _ _) rfl).actOn.applyBelt

theorem confirmExpired (h : s.keeps t) {l : Nat} : s.keeps (t.confirmExpired l) := (h.free (modPause_only t l _) rfl).raiseFault

/-! ### Plan tracker -/

theorem recordStep (h : s.keeps t) {a : ActiveStep} : s.keeps (t.recordStep a) := h.makeRecord.free (only_tracker _ _) rfl

theorem completePlan (h : s.keeps t) : s.keeps t.completePlan := h.free (completePlan_only t) rfl

theorem advanceFrom (h : s.keeps t) {n : Nat} : s.keeps (State.advanceFrom n t) := by
  induction n generalizing t with
  | zero => exact h
  | succ n ih =>
    unfold State.advanceFrom
    split
    · exact ite (ite h.recordStep.completePlan (ih (h.recordStep.free (setTracking_only _ _) rfl))) h
    · exact h

theorem offPlanTest (h : s.keeps t) {l : Nat} {sp : Option Nat} {b : Belt} : s.keeps (t.offPlanTest l sp b) :=
  have hset := fun v => h.free (setOffPlan_only t l v) rfl
  ite (ite h ((hset true).free (addReason_only _ _ _) rfl).raiseFault)
    (ite ((hset false).free (removeReason_only _ _ _) rfl).clearFault h)

theorem trackPour (h : s.keeps t) {l : Nat} {sp : Option Nat} {b : Belt} : s.keeps (t.trackPour l sp b) :=
  h.advanceFrom.offPlanTest

theorem openTracking (h : s.keeps t) : s.keeps t.openTracking :=
  (h.free (only_tracker t _) rfl).clearFault.clearFault.forEach fun _ _ hu => hu.clearFault

theorem rebase (h : s.keeps t) : s.keeps t.rebase := (h.pacingEvent (rebaseCursor_only t) rfl).modStep

theorem judgeLag (h : s.keeps t) {x : Int} : s.keeps (t.judgeLag x) := h.judgeFault.judgeFault

theorem closeTracking (h : s.keeps t) : s.keeps t.closeTracking := by
  refine (h.free (only_tracker t Tracker.reset) rfl).setBanks fun hc => ?_
  obtain ⟨hship, hstaging, -, -, hrest⟩ := canonical_iff.1 hc
  exact canonical_iff.2 ⟨hship, hstaging, PlanBank.canonical_empty, PlanBank.canonical_empty, hrest⟩

/-! ### Shore line unit -/

theorem clearSilent (h : s.keeps t) : s.keeps t.clearSilent := h.clearFault.pacingEvent (removeReasonAll_only _ _) rfl

theorem watchShore (h : s.keeps t) : s.keeps t.watchShore := h.free (watchShore_only t) rfl

theorem signOfLife (h : s.keeps t) : s.keeps t.signOfLife := by
  unfold State.signOfLife
  split
  · exact h.watchShore.clearSilent
  · exact h.watchShore
  · exact h.watchShore

theorem disarmSilence (h : s.keeps t) : s.keeps t.disarmSilence := by
  unfold State.disarmSilence
  split
  · exact (h.free (setSilence_only t _) rfl).clearSilent
  · exact h.free (setSilence_only t _) rfl
  · exact h

theorem silenceExpired (h : s.keeps t) : s.keeps t.silenceExpired :=
  (h.free (setSilence_only t _) rfl).raiseFault.pacingEvent (addReasonAll_only _ _) rfl

theorem sendBeacon (h : s.keeps t) : s.keeps t.sendBeacon := h.originate.free (only_shore _ _) rfl

theorem openAccount (h : s.keeps t) : s.keeps t.openAccount := h.free (openAccount_only t) rfl

theorem closeAccount (h : s.keeps t) : s.keeps t.closeAccount := (h.free (only_shore t _) rfl).disarmSilence

theorem charge (h : s.keeps t) {l c : Nat} : s.keeps (t.charge l c) := by
  unfold State.charge
  dsimp only
  split
  · exact (h.free (modHold_only t _ _) rfl).free (modLoader_only _ l _) rfl
  · split
    · exact h.free (modLoader_only t l _) rfl
    · exact (((h.free (modLoader_only t l _) rfl).free (only_shore _ _) rfl).raiseFault).free (modLoader_only _ l _) rfl

theorem accountPour (h : s.keeps t) {f : PourFields} : s.keeps (t.accountPour f) :=
  (ite h.charge (h.free (modLoader_only t _ _) rfl)).free (modLoader_only _ _ _) rfl

/-! ### Tank accounting -/

theorem ballastRecord (h : s.keeps t) {k : Nat} {f : Bool} {o : Operation} {e : MassAt} {p : Bool} :
    s.keeps (t.ballastRecord k f o e p) := ite h.makeRecord h

theorem closeOperation (h : s.keeps t) {k : Nat} {p : Bool} : s.keeps (t.closeOperation k p) := by
  unfold State.closeOperation
  split
  · exact h
  · exact h.ballastRecord
  · exact h.ballastRecord

theorem judgeMotion (h : s.keeps t) {k : Nat} : s.keeps (t.judgeMotion k) := by
  unfold State.judgeMotion
  dsimp only
  split
  · exact h.free (setMotion_only t k _) rfl
  · exact ite (h.free (setMotion_only t k _) rfl) (ite (h.free (startFilling_only t k _) rfl) h)
  · exact ite (h.free (setMotion_only t k _) rfl) (ite (h.closeOperation.free (startFilling_only _ k _) rfl) h)
  · exact ite (h.free (setMotion_only t k _) rfl) (ite (h.closeOperation.free (setMotion_only _ k _) rfl) h)

theorem acceptSample (h : s.keeps t) {k : Nat} {x : Int} : s.keeps (t.acceptSample k x) :=
  have hmass := ((h.free (sampleLevel_only t k x) rfl).judgeFault.free (sampleMass_only _ k) rfl).clearFault
  (ite hmass.clearFault hmass).judgeMotion

theorem rejectSample (h : s.keeps t) {k : Nat} : s.keeps (t.rejectSample k) :=
  ((h.free (countRejected_only t k) rfl).free (modTank_only _ k _) rfl).advise

theorem faultSample (h : s.keeps t) {k : Nat} : s.keeps (t.faultSample k) :=
  ((h.free (countRejected_only t k) rfl).free (modTank_only _ k _) rfl).raiseFault

theorem takeSounding (h : s.keeps t) {k l : Nat} {st n : Byte} : s.keeps (t.takeSounding k l st n) :=
  have hsample := h.free (modTank_only t k fun r => { r with lastSample := some n }) rfl
  ite (h.free (countRejected_only t k) rfl)
    (ite (ite hsample.acceptSample (ite hsample.rejectSample hsample.advise.acceptSample)) hsample.faultSample)

theorem gaugeTimedOut (h : s.keeps t) {k : Nat} : s.keeps (t.gaugeTimedOut k) := (h.free (modTank_only t k _) rfl).raiseFault

theorem stillExpired (h : s.keeps t) {k : Nat} : s.keeps (t.stillExpired k) := h.closeOperation.free (anchorNow_only _ k) rfl

theorem closeTank (h : s.keeps t) {k : Nat} : s.keeps (t.closeTank k) := by
  unfold State.closeTank
  split
  · exact h
  · exact h.closeOperation.free (anchorNow_only _ k) rfl

theorem closeTanks (h : s.keeps t) : s.keeps t.closeTanks := h.forEach fun _ _ hu => hu.closeTank

theorem switchTank (h : s.keeps t) {o : ShipBank} {k : Nat} : s.keeps (t.switchTank o k) := by
  unfold State.switchTank
  dsimp only
  split
  · exact h.free (modTank_only t k _) rfl
  · exact h.free (modTank_only t k _) rfl
  · exact (h.free (modTank_only t k _) rfl).clearFault.clearFault.clearFault
  · exact h.free (modTank_only t k _) rfl

theorem switchTanks (h : s.keeps t) {o : ShipBank} : s.keeps (t.switchTanks o) := h.forEach fun _ _ hu => hu.switchTank

/-! ### Order screen -/

theorem freeSlot (h : s.keeps t) : s.keeps t.freeSlot := h.setScreen_eq (by rfl)

theorem freeSlotOf (h : s.keeps t) {i : Nat} : s.keeps (t.freeSlotOf i) := ite h.freeSlot h

theorem closeOutstanding (h : s.keeps t) {i : Nat} {o : Outstanding} {c : Closing} : s.keeps (t.closeOutstanding i o c) :=
  have hmod := h.free (modStation_only t i _) rfl
  ite hmod.freeSlotOf hmod

theorem answerOutstanding (h : s.keeps t) {a : Byte} {o : Outstanding} {n : Nat} : s.keeps (t.answerOutstanding a o n) := by
  unfold State.answerOutstanding
  split
  · exact h.syntheticAck
  · exact h

theorem supersedeOutstanding (h : s.keeps t) {i : Nat} : s.keeps (t.supersedeOutstanding i) := by
  unfold State.supersedeOutstanding
  split
  · exact h.closeOutstanding.answerOutstanding
  · exact h

theorem takeSlot (h : s.keeps t) {i : Nat} {m : PumpMode} : s.keeps (t.takeSlot i m) := (h.setScreen_eq (by rfl)).clearFault

theorem orderOffered (h : s.keeps t) {i : Nat} {o : Order} {c : Option Byte} : s.keeps (t.orderOffered i o c) :=
  have hstop : s.keeps (if o.type = .pumpStop then (t.supersedeOutstanding i).freeSlotOf i else t) :=
    ite h.supersedeOutstanding.freeSlotOf h
  have hopen := hstop.free (openOutstanding_only _ i o.seq o.type o.mode o.speed c) rfl
  ite hopen.takeSlot hopen

theorem forwardOrder (h : s.keeps t) {i : Nat} {o : Order} : s.keeps (t.forwardOrder i o) :=
  ite h.send.orderOffered h.send.syntheticAck

theorem refuseOrder (h : s.keeps t) {i : Nat} {o : Order} {c : Nat} : s.keeps (t.refuseOrder i o c) :=
  (h.free (modStation_only t i _) rfl).syntheticAck

theorem adviseClamp (h : s.keeps t) {i : Nat} {o : Order} : s.keeps (t.adviseClamp i o) := ite h.advise h

theorem dropHeld (h : s.keeps t) {i : Nat} : s.keeps (t.dropHeld i) :=
  h.setScreen fun ⟨hlen, hone, hstop⟩ =>
    ⟨(List.length_filter_le _ _).trans hlen, hone.filter _, fun x hx => hstop x (List.mem_filter.1 hx).1⟩

theorem updateHeld (h : s.keeps t) {i : Nat} {r : HoldReason} : s.keeps (t.updateHeld i r) := by
  have hstation : ∀ x : Held, (if x.station = i then { x with reason := r } else x).station = x.station := by
    intro x; split <;> rfl
  have horder : ∀ x : Held, (if x.station = i then { x with reason := r } else x).order = x.order := by
    intro x; split <;> rfl
  refine h.setScreen fun ⟨hlen, hone, hstop⟩ => ⟨by simpa using hlen, ?_, fun x hx => ?_⟩
  · exact List.pairwise_map.2 (hone.imp fun hab => by rwa [hstation, hstation])
  · obtain ⟨y, hy, rfl⟩ := List.mem_map.1 hx
    rw [horder]
    exact hstop y hy

theorem scanEntry (h : s.keeps t) {x : Held} : s.keeps (t.scanEntry x).1 := by
  unfold State.scanEntry
  split
  · exact h.dropHeld.refuseOrder
  · exact h.updateHeld
  · exact h.adviseClamp.dropHeld.forwardOrder

theorem scan (h : s.keeps t) : s.keeps t.scan.1 := by
  refine foldl_fst (a := (t, false)) (fun a x hu => ?_) h
  exact hu.scanEntry

theorem reexamineFrom (h : s.keeps t) {n : Nat} : s.keeps (State.reexamineFrom n t) := by
  induction n generalizing t with
  | zero => exact h
  | succ n ih => exact ite (ih h.scan) h.scan

theorem reexamine (h : s.keeps t) : s.keeps t.reexamine := h.reexamineFrom

theorem supersedeHeld (h : s.keeps t) {i : Nat} : s.keeps (t.supersedeHeld i) := by
  unfold State.supersedeHeld
  split
  · exact h.dropHeld.syntheticAck
  · exact h

/-- A station without a held entry takes one, of an order that is no PUMP_STOP (R136, R144). -/
theorem holdOrder (h : s.keeps t) {i : Nat} {o : Order} {r : HoldReason} (hnone : t.heldOf i = none)
    (hstop : o.type ≠ .pumpStop) : s.keeps (t.holdOrder i o r) := by
  unfold State.holdOrder
  split
  case isTrue hroom =>
    refine syntheticAck (h.setScreen fun ⟨hlen, hone, hstops⟩ => ⟨by rw [List.length_append]; exact hroom, ?_, fun x hx => ?_⟩)
    · refine List.pairwise_append.2 ⟨hone, List.pairwise_singleton _ _, fun a ha b hb => ?_⟩
      rw [List.mem_singleton.1 hb]
      simpa using List.find?_eq_none.1 hnone a ha
    · obtain hx | hx := List.mem_append.1 hx
      · exact hstops x hx
      · rw [List.mem_singleton.1 hx]
        exact hstop
  case isFalse => exact h.refuseOrder

end keeps

/-- A PUMP_STOP is never held (R136). -/
theorem type_of_judge_keep {s : State} {i : Nat} {o : Order} {r : HoldReason} (h : s.judge i o = .keep r) :
    o.type ≠ .pumpStop := by
  intro hstop
  unfold judge at h
  split at h
  · cases h
  · split at h
    case h_1 hc => simp [holdCondition, hstop] at hc
    case h_2 => cases h

theorem clamped_type (s : State) (o : Order) : (s.clamped o).type = o.type := by
  unfold clamped
  split <;> rfl

theorem heldOf_of_screen {s t : State} (h : t.screen = s.screen) (i : Nat) : t.heldOf i = s.heldOf i := by
  unfold heldOf
  rw [h]

theorem heldOf_dropHeld (s : State) (i : Nat) : (s.dropHeld i).heldOf i = none := by
  simp [heldOf, dropHeld, List.find?_eq_none]

/-- The held entry of a station is gone once superseded (R135). -/
theorem heldOf_supersedeHeld (s : State) (i : Nat) : (s.supersedeHeld i).heldOf i = none := by
  unfold supersedeHeld
  split
  · rw [heldOf_of_screen ((syntheticAck_only _ _ _ _ _ _).screen (by decide)), heldOf_dropHeld]
  · assumption

namespace keeps

variable {s t u : State}

theorem screenOrder (h : s.keeps t) {i : Nat} {o : Order} (hnone : t.heldOf i = none) : s.keeps (t.screenOrder i o) := by
  unfold State.screenOrder
  split
  case h_1 => exact h.refuseOrder
  case h_2 hkeep =>
    refine h.adviseClamp.holdOrder ?_ ?_
    · rwa [heldOf_of_screen ((adviseClamp_only t i o).screen (by decide))]
    · rw [clamped_type]
      exact type_of_judge_keep hkeep
  case h_3 => exact h.adviseClamp.forwardOrder

theorem takeOrder (h : s.keeps t) {i : Nat} {x : Telegram} : s.keeps (t.takeOrder i x) := by
  unfold State.takeOrder
  split
  · exact h.advise
  · have hscreen := fun o => h.supersedeHeld.screenOrder (o := o) (heldOf_supersedeHeld t i)
    exact ite (hscreen _).reexamine (hscreen _)

theorem holdExpired (h : s.keeps t) {i : Nat} : s.keeps (t.holdExpired i) := by
  unfold State.holdExpired
  split
  · exact h.dropHeld.refuseOrder.reexamine
  · exact h

theorem startLimitExpired (h : s.keeps t) : s.keeps t.startLimitExpired := by
  unfold State.startLimitExpired
  split
  · exact h.freeSlot.raiseFault.reexamine
  · exact h

theorem setDry (h : s.keeps t) {l : Nat} {x : Option Nat} {b : Bool} : s.keeps (t.setDry l x b) := h.setScreen_eq (by rfl)

theorem judgeDryRuns (h : s.keeps t) : s.keeps t.judgeDryRuns :=
  h.forEach fun _ _ hu => ite (ite hu hu.setDry) hu.setDry

theorem dryTrip (h : s.keeps t) {l : Nat} : s.keeps (t.dryTrip l) :=
  have hstop := (h.modPort (p := .field) (f := fun p => { p with seq := p.seq + 1 }) (fun _ => rfl) fun _ => rfl).send
    (p := .field) (x := t.orderTelegram l t.bank.ownAddress t.partStop)
  have htrip := hstop.raiseFault (k := .dryRunTrip) (x := l)
  have hdone := (htrip.orderOffered (i := l) (o := t.partStop) (c := none)).supersedeHeld (i := l) |>.setDry (l := l)
  ite (ite hdone.reexamine hdone) htrip.setDry

theorem withdrawHeld (h : s.keeps t) {old : Nat → Option Byte} : s.keeps (t.withdrawHeld old) :=
  h.foldl fun _ _ hu => ite hu hu.dropHeld.syntheticAck

theorem restartDryRuns (h : s.keeps t) : s.keeps t.restartDryRuns := (h.setScreen_eq (by rfl)).judgeDryRuns

/-! ### Station table -/

theorem takeState (h : s.keeps t) {i : Nat} {p : List Byte} : s.keeps (t.takeState i p) := by
  have hpresence : ∀ {u : State}, s.keeps u → s.keeps (u.statePresence i) := by
    intro u hu
    have hp := hu.free (modStation_only u i fun r => { r with presence := .present, presenceAt := some u.presenceDeadline }) rfl
    unfold State.statePresence
    dsimp only
    split
    · exact hu
    · exact hp.clearFault
    · exact hp
    · exact hp
  have htripped : ∀ {u : State}, s.keeps u → s.keeps (u.judgeTripped i) := by
    intro u hu
    unfold State.judgeTripped
    split
    · exact hu.raiseFault
    · exact hu.clearFault
    · exact hu.clearFault
    · exact hu
  have hslot : ∀ {u : State}, s.keeps u → s.keeps (u.judgeSlot i) := by
    intro u hu
    unfold State.judgeSlot
    split
    · exact hu.freeSlotOf.clearFault
    · exact hu.freeSlotOf
    · exact hu
  unfold State.takeState
  split
  · exact (h.free (modStation_only t i _) rfl).advise
  · exact (hslot (htripped (hpresence (h.free (recordState_only t i _) rfl)))).judgeDryRuns.reexamine

theorem takeAck (h : s.keeps t) {i : Nat} {p : List Byte} : s.keeps (t.takeAck i p) := by
  unfold State.takeAck
  split
  · exact h.closeOutstanding.clearFault.reexamine
  · exact (h.free (modStation_only t i _) rfl).advise

theorem ackTimedOut (h : s.keeps t) {i : Nat} : s.keeps (t.ackTimedOut i) := by
  unfold State.ackTimedOut
  split
  · exact (h.closeOutstanding.free (modStation_only _ i _) rfl).raiseFault.answerOutstanding.reexamine
  · exact h

theorem presenceTimedOut (h : s.keeps t) {i : Nat} : s.keeps (t.presenceTimedOut i) :=
  (h.free (modStation_only t i _) rfl).raiseFault.judgeDryRuns.reexamine

theorem serviceOut (h : s.keeps t) {i : Nat} : s.keeps (t.serviceOut i) := by
  have hout := h.free (modStation_only t i fun r => { r with presence := .outOfService, presenceAt := none }) rfl
  unfold State.serviceOut
  dsimp only
  split
  · exact h
  · exact hout.clearFault.judgeDryRuns.reexamine
  · exact hout.judgeDryRuns.reexamine
  · exact hout.judgeDryRuns.reexamine

theorem serviceIn (h : s.keeps t) {i : Nat} : s.keeps (t.serviceIn i) :=
  ite (h.free (modStation_only t i _) rfl).judgeDryRuns.reexamine h

theorem withdrawOutstanding (h : s.keeps t) {i : Nat} : s.keeps (t.withdrawOutstanding i) := by
  unfold State.withdrawOutstanding
  split
  · exact h.closeOutstanding.answerOutstanding
  · exact h

theorem rebindStation (h : s.keeps t) {bs : List (Nat × Byte)} {i : Nat} : s.keeps (t.rebindStation bs i) :=
  ite h (ite (h.free (modStation_only t i _) rfl)
    (h.withdrawOutstanding.clearFault.clearFault.clearFault.free (modStation_only _ i _) rfl))

theorem rebindStations (h : s.keeps t) : s.keeps t.rebindStations := by
  unfold State.rebindStations
  extract_lets bs old
  exact (h.forEach fun _ _ hu => hu.rebindStation).withdrawHeld

/-! ### Condition engine -/

theorem tellMode (h : s.keeps t) : s.keeps t.tellMode := h.sendBeacon.reexamine

theorem tellModeIf (h : s.keeps t) {m : Mode} : s.keeps (t.tellModeIf m) := ite h h.tellMode

theorem afterRaising (h : s.keeps t) {m : Mode} : s.keeps (t.afterRaising m) :=
  (h.pacingEvent (followSafe_only t m) rfl).tellModeIf

theorem reactToShip (h : s.keeps t) {o : ShipBank} : s.keeps (t.reactToShip o) :=
  (h.switchTanks.free (switchHolds_only _) rfl).rebindStations.restartDryRuns.judgeAlarm

theorem switchedShip (h : s.keeps t) : s.keeps t.switchedShip := by
  refine h.setBanks fun hc => ?_
  obtain ⟨-, hstaging, hrest⟩ := canonical_iff.1 hc
  exact canonical_iff.2 ⟨hstaging, hstaging, hrest⟩

theorem switchShip (h : s.keeps t) : s.keeps t.switchShip := h.switchedShip.clearTableFaults.reactToShip

theorem switchedPlan (h : s.keeps t) : s.keeps t.switchedPlan := by
  refine h.setBanks fun hc => ?_
  obtain ⟨hship, hship', -, hstaging, hrest⟩ := canonical_iff.1 hc
  exact canonical_iff.2 ⟨hship, hship', hstaging, hstaging, hrest⟩

theorem switchPlan (h : s.keeps t) : s.keeps t.switchPlan := ite h.switchedPlan.relatchReports.rebase h.switchedPlan

/-- The snapshot holds the active ship bank (Table 3-2). -/
theorem engineSnapshots (h : s.keeps t) : s.keeps t.engineSnapshots := by
  refine h.setBanks fun hc => ?_
  obtain ⟨hship, hship', hplan, hplan', hstore, hwriting, -⟩ := canonical_iff.1 hc
  refine canonical_iff.2 ⟨hship, hship', hplan, hplan', hstore, hwriting, fun n hn => ?_⟩
  obtain rfl := Option.some.inj hn
  exact hship

theorem switchSealed (h : s.keeps t) : s.keeps t.switchSealed :=
  have hship : s.keeps (if t.mgmt.ship.isSealed then t.switchShip else t) := ite h.switchShip h
  ite hship.switchPlan hship

theorem beginEvaluation (h : s.keeps t) : s.keeps t.beginEvaluation :=
  have hbegun := ((h.setEngine_eq (by rfl)).switchSealed.free (growUncertainty_only _) rfl).engineSnapshots
  ite hbegun.reexamine hbegun

theorem requestEvaluation (h : s.keeps t) : s.keeps t.requestEvaluation := ite h (ite (h.setEngine_eq (by rfl)) h.beginEvaluation)

theorem deadbandTest (h : s.keeps t) {k : Option Nat} : s.keeps (t.deadbandTest k) := by
  unfold State.deadbandTest
  split
  · exact h
  · exact ite h.requestEvaluation h

theorem judgeWindow (h : s.keeps t) {n : Snapshot} {f : Figures} : s.keeps (t.judgeWindow n f) :=
  ite h.judgeFault.judgeFault h.clearFault.clearFault

theorem judgeDisagree (h : s.keeps t) {n : Snapshot} {f : Figures} : s.keeps (t.judgeDisagree n f) := ite h.judgeFault h

theorem publishValid (h : s.keeps t) {r : Header} {f : Figures} : s.keeps (t.publishValid r f) := h.setEngine_eq (by rfl)

theorem publishInvalid (h : s.keeps t) {r : Header} : s.keeps (t.publishInvalid r) := h.setEngine_eq (by rfl)

theorem followUp (h : s.keeps t) : s.keeps t.followUp := ite (h.setEngine_eq (by rfl)).beginEvaluation h

theorem beaconIf (h : s.keeps t) {m : Mode} : s.keeps (t.beaconIf m) := ite h h.sendBeacon

theorem judgeValid (h : s.keeps t) {n : Snapshot} {f : Figures} : s.keeps (t.judgeValid n f) := by
  have hinvalid : s.keeps (((((t.judgeFault .hydroOutOfTable TableCode.hydro.code f.hydro !f.hydro).judgeWindow n f).judgeDisagree
      n f).judgeStressLimit n f).clearFault .conditionInvalid subjectNone) :=
    h.judgeFault.judgeWindow.judgeDisagree.judgeFault.clearFault
  unfold State.judgeValid
  dsimp only
  split
  · exact hinvalid.judgeLag
  · exact hinvalid

theorem pacePublication_some (s : State) (m : Marks) (f : Figures) (current : Bool) (before : FollowedFaults)
    (mode : Mode) : s.pacePublication m (some f) current before mode
      = (s.pacingEvent fun s => (if current then s.paceCurrent m f else s).paceFaults before mode).judgeBallastDriven m f :=
  rfl

theorem pacePublication_none (s : State) (m : Marks) (current : Bool) (before : FollowedFaults) (mode : Mode) :
    s.pacePublication m none current before mode = s.pacingEvent fun s => s.paceFaults before mode := rfl

theorem completeValid (h : s.keeps t) {n : Snapshot} : s.keeps (t.completeValid n) := by
  unfold State.completeValid
  extract_lets f a b
  have hpublished : s.keeps a := h.judgeValid.publishValid
  have htracked : s.keeps b := ite (hpublished.free (trackPeak_only _ _) rfl) hpublished
  rw [pacePublication_some]
  exact (htracked.pacingEvent (paceReasons_only _ _ _ _ _ _) rfl).judgeFault

theorem paceFaults_only (s : State) (b : FollowedFaults) (m : Mode) : s.onlyChanges [.pacing] (s.paceFaults b m) :=
  (((followFault_only s _ _ _).trans (followFault_only _ _ _ _)).trans (followFault_only _ _ _ _)).trans
    (followSafe_only _ _)

theorem completeInvalid (h : s.keeps t) {n : Snapshot} : s.keeps (t.completeInvalid n) := by
  have hpublished : s.keeps ((t.raiseFault .conditionInvalid subjectNone).publishInvalid (t.headerOf n)) :=
    h.raiseFault.publishInvalid
  unfold State.completeInvalid
  rw [pacePublication_none]
  exact hpublished.pacingEvent (paceFaults_only _ _ _) rfl

theorem completeEvaluation (h : s.keeps t) : s.keeps t.completeEvaluation := by
  unfold State.completeEvaluation
  split
  · exact ite (h.setEngine_eq (by rfl)).beginEvaluation (ite h.completeValid h.completeInvalid).beaconIf.reexamine.followUp
  · exact h

theorem processPour (h : s.keeps t) {f : PourFields} : s.keeps (t.processPour f) :=
  (h.accountPour.deadbandTest.trackPour).pacePour.tellModeIf

theorem takePour (h : s.keeps t) {p : List Byte} : s.keeps (t.takePour p) := by
  unfold State.takePour
  split
  · exact h.advise
  · exact ite h.advise (ite h.processPour h.advise)

theorem takeShore (h : s.keeps t) {x : Telegram} : s.keeps (t.takeShore x) := ite h.signOfLife.takePour h.signOfLife

end keeps
end State

end Sys2Proof.Machine
end

section
/-! PROOFS. What resets, mode changes, the scrub, the management requests and the passage keep, up to one step; and the
invariants that every step keeps: canonical images, mode and alarm, output queues, fault table, held orders and reports
(O53 to O57). -/

namespace Sys2Proof.Machine

/-! ### The state after a reset (R168, R169) -/

namespace State

variable {c : ResetCause} {st : ShipStore} {q : List Instr}

theorem modeSound_afterReset : (afterReset c st q).modeSound := ⟨fun _ => rfl, nofun, nofun⟩

theorem alarmSound_afterReset : (afterReset c st q).alarmSound := by
  rintro (h | ⟨e, he, -⟩ | ⟨m, hm, -⟩)
  · cases h
  · cases he
  · cases hm

end State

theorem Faults.sound_reset : Faults.reset.sound :=
  ⟨Nat.zero_le _, List.Pairwise.nil, List.Pairwise.nil, nofun, nofun, nofun⟩

namespace State

variable {c : ResetCause} {st : ShipStore} {q : List Instr}

theorem heldSound_afterReset : (afterReset c st q).heldSound := ⟨Nat.zero_le _, List.Pairwise.nil, nofun⟩

theorem reportsSound_afterReset : (afterReset c st q).reportsSound :=
  ⟨Nat.zero_le _, trivial, le_refl 1, show (1 : Nat) ≤ 65535 by decide⟩

namespace keeps

variable {s t u : State}

theorem resetNow (h : s.keeps t) {c : ResetCause} : s.keeps (t.resetNow c) :=
  h.trans ⟨fun _ => modeSound_afterReset, fun _ => alarmSound_afterReset, fun _ => Out.sound_reset,
    fun _ => Faults.sound_reset, fun _ => heldSound_afterReset, fun _ => reportsSound_afterReset, fun hc => by
    obtain ⟨-, -, -, -, hstore, -⟩ := canonical_iff.1 hc
    exact canonical_afterReset hstore _ _⟩

theorem unpowered (h : s.keeps t) : s.keeps t.unpowered :=
  (h.resetNow (c := .powerOn)).setSys (fun _ => ⟨fun _ => rfl, nofun, nofun⟩) id

theorem tableFaultBypass (h : s.keeps t) : s.keeps t.tableFaultBypass :=
  (h.resetNow (c := .tableReload)).trans ⟨fun _ => ⟨fun _ => rfl, nofun, nofun⟩, fun _ _ => rfl, id,
    fun hf => ⟨hf.capacity, hf.oneEntry, hf.oneMark, hf.waits, hf.entered, hf.marked⟩, id, id, id⟩

theorem performDue (h : s.keeps t) : s.keeps t.performDue := ite h.resetNow h

theorem act (h : s.keeps t) {f : State → State} (hf : ∀ {u}, s.keeps u → s.keeps (f u)) : s.keeps (act f t) :=
  ite (hf h.performDue) h

theorem onDue (h : s.keeps t) {due : State → Bool} {f : State → State} (hf : due t = true → s.keeps (f t)) :
    s.keeps (onDue due f t) := by
  unfold Machine.onDue
  split
  case isTrue hdue => exact hf hdue
  case isFalse => exact h

/-! ### Entering circuit (R169, R170, R176, R195) -/

theorem loadStore (h : s.keeps t) : s.keeps t.loadStore := by
  refine h.setBanks fun hc => ?_
  obtain ⟨-, -, hplan, hplan', hstore, hrest⟩ := canonical_iff.1 hc
  have hb : (if t.storeValid then t.mgmt.store.bank else ShipBank.default).canonical = true := by
    split
    · exact hstore
    · exact ShipBank.canonical_default
  exact canonical_iff.2 ⟨hb, hb, hplan, hplan', hstore, hrest⟩

/-- Timers of the engine and of the responder, with the tables and the snapshot left alone. -/
theorem setTimers (h : s.keeps t) {e : Engine} {m : Mgmt} (he : e.snapshot = t.engine.snapshot)
    (hship : m.ship = t.mgmt.ship) (hplan : m.plan = t.mgmt.plan) (hstore : m.store = t.mgmt.store)
    (hwriting : m.writing = t.mgmt.writing) : s.keeps { t with engine := e, mgmt := m } :=
  h.setBanks fun hc => by
    rw [canonical_iff] at hc ⊢
    rwa [hship, hplan, hstore, hwriting, he]

theorem startTimers (h : s.keeps t) : s.keeps t.startTimers := by
  have ha : s.keeps t.startGaugeTimers.startPresenceTimers :=
    (h.free (startGaugeTimers_only t) rfl).free (startPresenceTimers_only _) rfl
  unfold State.startTimers
  generalize t.startGaugeTimers.startPresenceTimers = a at ha ⊢
  exact ha.setTimers rfl rfl rfl rfl rfl

theorem enterCircuit (h : s.keeps t) {m : Mode} (hclosed : t.modeSound → t.sys.sessionOpen = false)
    (hm : m ≠ .loading) : s.keeps (t.enterCircuit m) := by
  have hentered : s.keeps { t with sys := { t.sys with mode := m, settle := none, reload := none, latch := false } } := by
    refine h.setSys (fun ht => ⟨nofun, fun hopen => ?_, fun hl => absurd hl hm⟩) nofun
    exact absurd (hclosed ht) (by simpa using hopen)
  have hsent := ((hentered.free (resetTanks_only _) rfl).free (bindStations_only _) rfl).judgeAlarm.sendBeacon
  exact ite hsent.startTimers hsent

/-- No session is open in BYPASS. -/
theorem closed_of_timer (hm : t.modeSound) (ht : t.sys.settle.isSome ∨ t.sys.reload.isSome) :
    t.sys.sessionOpen = false := by
  obtain ⟨htimers, hopen, -⟩ := hm
  refine Bool.eq_false_iff.2 fun ho => ?_
  obtain hmode | hmode := hopen ho <;> exact absurd ((htimers ht).symm.trans hmode) nofun

theorem endSettle (h : s.keeps t) (hdue : t.settleDue = true) : s.keeps t.endSettle := by
  refine h.loadStore.enterCircuit (fun hm => closed_of_timer hm (.inl ?_)) (by split <;> exact nofun)
  simp only [settleDue, Bool.and_eq_true, beq_iff_eq] at hdue
  exact Option.isSome_of_mem hdue.2

theorem reloadAfterFault (h : s.keeps t) (hdue : t.reloadDue = true) : s.keeps t.reloadAfterFault := by
  have hreload : t.sys.reload.isSome := by
    simp only [reloadDue, Bool.and_eq_true, beq_iff_eq] at hdue
    exact Option.isSome_of_mem hdue.2
  refine ite (h.loadStore.enterCircuit (fun hm => closed_of_timer hm (.inr hreload)) nofun) (h.loadStore.setSys ?_ id)
  rintro ⟨htimers, hopen, hloading⟩
  exact ⟨fun ht => htimers (ht.imp_right nofun), hopen, hloading⟩

/-- A mode between circuit and session is entered where no timer of BYPASS runs and no session is open. -/
theorem setMode_standby (h : s.keeps t) (hm : t.sys.mode = .unconfigured) : s.keeps (t.setMode .standby) := by
  refine h.setSys (fun ⟨htimers, hopen, _⟩ => ⟨fun ht => ?_, fun ho => ?_, nofun⟩) id
  · exact absurd (hm.symm.trans (htimers ht)) nofun
  · obtain hmode | hmode := hopen ho <;> exact absurd (hm.symm.trans hmode) nofun

theorem leaveUnconfigured (h : s.keeps t) (hm : t.sys.mode = .unconfigured) : s.keeps t.leaveUnconfigured :=
  (h.setMode_standby hm).startTimers.tellMode

/-! ### Sessions (R171, R172, R174) -/

theorem markOpen (h : s.keeps t) (hm : t.sys.mode = .standby) {n : Nat} : s.keeps (t.markOpen n) :=
  h.setSys (fun ⟨htimers, _, _⟩ => ⟨fun ht => absurd (hm.symm.trans (htimers ht)) nofun, fun _ => .inl rfl,
    fun _ => rfl⟩) id

theorem openPacing (h : s.keeps t) : s.keeps t.openPacing := by
  unfold State.openPacing
  extract_lets p z
  have hz : s.keeps z := h.free (only_pacing t _) rfl
  clear_value z
  refine hz.pacingEvent (l := [.pacing]) ?_ rfl
  extract_lets a b
  have ha : z.onlyChanges [.pacing] a := addReasonAll_only z _
  have hb : z.onlyChanges [.pacing] b := onlyChanges_ite (ha.trans (addReasonAll_only a _)) ha
  exact onlyChanges_ite (hb.trans (addReasonAll_only b _)) hb

theorem openSession (h : s.keeps t) (hm : t.sys.mode = .standby) {n : Nat} : s.keeps (t.openSession n) :=
  (h.markOpen hm).openAccount.openTracking.latchReports.makeSessionOpen.startConditionTimer.openPacing.requestEvaluation.tellMode

theorem closeLoaderInSafe (h : s.keeps t) {l : Nat} : s.keeps (t.closeLoaderInSafe l) := by
  unfold State.closeLoaderInSafe
  extract_lets others now a b c
  have ha : s.keeps a := by
    dsimp only [a]
    split
    · exact h.closeEpisode
    · exact h
  have hc : s.keeps c := (ha.free (modPause_only _ l _) rfl).clearFault.clearFault
  exact ite hc.originate hc

theorem closePacing (h : s.keeps t) : s.keeps t.closePacing :=
  ite (h.forEach fun _ _ hu => hu.closeLoaderInSafe) (h.pacingEvent (clearReasons_only t) rfl)

/-- The session flag cleared; a snapshot keeps its tables. -/
theorem markClosed (h : s.keeps t) : s.keeps t.markClosed := by
  have hsys : s.keeps { t with sys := { t.sys with
      sessionOpen := false, mode := if t.sys.mode = .loading then .standby else t.sys.mode } } := by
    refine h.setSys (fun ⟨htimers, _, _⟩ => ⟨fun ht => ?_, nofun, fun hl => ?_⟩) id
    · dsimp only
      rw [if_neg (by rw [htimers ht]; exact nofun), htimers ht]
    · dsimp only at hl
      split at hl
      · cases hl
      · exact absurd hl ‹_›
  refine hsys.setBanks fun hc => ?_
  obtain ⟨hship, hship', hplan, hplan', hstore, hwriting, hsnap⟩ := canonical_iff.1 hc
  refine canonical_iff.2 ⟨hship, hship', hplan, hplan', hstore, hwriting, fun n hn => ?_⟩
  obtain ⟨m, hm, rfl⟩ := Option.map_eq_some_iff.1 hn
  exact hsnap m hm

theorem closeSession (h : s.keeps t) : s.keeps t.closeSession :=
  h.closeTanks.closePacing.makeSessionClose.closeAccount.closeTracking.closeReports.markClosed.tellModeIf

theorem clearSafe (h : s.keeps t) (hm : t.sys.mode = .safe) : s.keeps t.clearSafe := by
  have hset : s.keeps (t.setMode (if t.sys.sessionOpen then .loading else .standby)) := by
    refine h.setSys (fun ⟨htimers, _, _⟩ => ⟨fun ht => absurd (hm.symm.trans (htimers ht)) nofun, fun ho => .inl ?_,
      fun hl => ?_⟩) id
    · exact if_pos ho
    · dsimp only at hl ⊢
      by_contra hc
      rw [if_neg hc] at hl
      cases hl
  exact (hset.pacingEvent (removeReasonAll_only _ _) rfl).tellMode

/-! ### Scrub, timers, alarm phase (R175, R176, R184, R194) -/

theorem raiseTableFault (h : s.keeps t) {c : TableCode} : s.keeps (t.raiseTableFault c) :=
  ite h (h.raiseFault.setEngine_eq (by rfl)).afterRaising

theorem scrub (h : s.keeps t) : s.keeps t.scrub :=
  have hnext : s.keeps { t with mgmt := { t.mgmt with scrubPos := t.mgmt.scrubPos.next, scrubAt := some (t.now + 1) } } :=
    h.setBanks fun hc => canonical_iff.2 (canonical_iff.1 hc)
  ite hnext (ite hnext.raiseTableFault hnext.tableFaultBypass)

theorem toggleAlarm (h : s.keeps t) : s.keeps t.toggleAlarm :=
  h.trans ⟨id, id, id, fun hf => ⟨hf.capacity, hf.oneEntry, hf.oneMark, hf.waits, hf.entered, hf.marked⟩, id, id, id⟩

theorem intervalExpired (h : s.keeps t) : s.keeps t.intervalExpired := h.requestEvaluation.setEngine_eq (by rfl)

theorem conditionExpired (h : s.keeps t) : s.keeps t.conditionExpired := by
  unfold State.conditionExpired
  extract_lets r a
  have ha : s.keeps a := ite h.makeCondition h.advise
  exact ha.setReports_eq (by rfl) (by rfl)

theorem advanceSecond (h : s.keeps t) : s.keeps t.advanceSecond := by
  refine ite h (ite (h.setSys (fun ⟨htimers, hopen, hloading⟩ => ⟨fun ht => htimers ?_, hopen, hloading⟩) id)
    (h.free (only_clock t _) rfl))
  simpa using ht

/-! ### Management requests (chapter 11) -/

theorem sendReply (h : s.keeps t) {src seq code : Byte} {st re : Nat} {res : List Byte} :
    s.keeps (t.sendReply src seq code st re res) := h.foldl fun _ _ hu => hu.send

theorem sendResetReply (h : s.keeps t) {src seq code : Byte} : s.keeps (t.sendResetReply src seq code) := by
  unfold State.sendResetReply
  dsimp only
  split
  · exact (h.setOut fun ho p => by cases p; exacts [ho .console, ho .field, ho .shore]).offer
  · exact h.send

theorem answer {r : Served} (h : s.keeps r.1) {src seq code : Byte} : s.keeps (State.answer r src seq code) := by
  unfold State.answer
  split
  · exact h.sendReply
  · exact h.sendReply
  · exact h.sendResetReply
  · exact h

theorem endStore (h : s.keeps t) : s.keeps t.endStore := by
  unfold State.endStore
  split
  case h_1 => exact h
  case h_2 j hj =>
    have hwritten : ∀ {b : Bool} {x : StoreState} {y : Bool}, s.keeps { t with mgmt := { t.mgmt with
        store := { bank := j.bank, mark := b }, storeState := x, writing := none, unstored := y } } := by
      intro b x y
      refine h.setBanks fun hc => ?_
      obtain ⟨hship, hship', hplan, hplan', -, hwriting, hsnap⟩ := canonical_iff.1 hc
      exact canonical_iff.2 ⟨hship, hship', hplan, hplan', hwriting j hj, nofun, hsnap⟩
    split
    · exact hwritten.clearFault.sendReply
    · exact hwritten.raiseFault.sendReply

theorem setShipGroup (h : s.keeps t) {g : Group ShipBank}
    (ha : t.mgmt.ship.active.canonical = true → g.active.canonical = true)
    (hs : t.mgmt.ship.staging.canonical = true → g.staging.canonical = true) :
    s.keeps { t with mgmt := { t.mgmt with ship := g } } := by
  refine h.setBanks fun hc => ?_
  obtain ⟨hship, hship', hrest⟩ := canonical_iff.1 hc
  exact canonical_iff.2 ⟨ha hship, hs hship', hrest⟩

theorem setPlanGroup (h : s.keeps t) {g : Group PlanBank}
    (ha : t.mgmt.plan.active.canonical = true → g.active.canonical = true)
    (hs : t.mgmt.plan.staging.canonical = true → g.staging.canonical = true) :
    s.keeps { t with mgmt := { t.mgmt with plan := g } } := by
  refine h.setBanks fun hc => ?_
  obtain ⟨hship, hship', hplan, hplan', hrest⟩ := canonical_iff.1 hc
  exact canonical_iff.2 ⟨hship, hship', ha hplan, hs hplan', hrest⟩

theorem writeStaging (h : s.keeps t) {c : TableCode} {x : Nat} {bs : List Byte} : s.keeps (t.writeStaging c x bs) := by
  unfold State.writeStaging State.stagingTable
  split
  · exact h.setPlanGroup id fun hc => PlanBank.canonical_set hc (Memory.wf_writeBytes x bs (PlanBank.get_wf hc c)) c
  · exact h.setShipGroup id fun hc => ShipBank.canonical_set hc (Memory.wf_writeBytes x bs (ShipBank.get_wf hc c)) c

theorem sealShip (h : s.keeps t) : s.keeps t.sealShip := h.setShipGroup id ShipBank.canonical_withChecks

theorem sealPlan (h : s.keeps t) : s.keeps t.sealPlan := h.setPlanGroup id PlanBank.canonical_withChecks

theorem beginStore (h : s.keeps t) {src seq : Byte} : s.keeps (t.beginStore src seq) := by
  refine h.setBanks fun hc => ?_
  obtain ⟨hship, hship', hplan, hplan', hstore, -, hsnap⟩ := canonical_iff.1 hc
  refine canonical_iff.2 ⟨hship, hship', hplan, hplan', hstore, fun j hj => ?_, hsnap⟩
  obtain rfl := Option.some.inj hj
  exact hship

theorem replaceShip (h : s.keeps t) : s.keeps t.replaceShip := by
  refine h.setBanks fun hc => ?_
  obtain ⟨-, -, hplan, hplan', hstore, hrest⟩ := canonical_iff.1 hc
  exact canonical_iff.2 ⟨hstore, hstore, hplan, hplan', hstore, hrest⟩

end keeps

/-- The blocks' reactions to a ship bank leave the mode. -/
theorem switchShip_mode (s : State) : s.switchShip.sys.mode = s.sys.mode := (switchShip_only s).mode (by decide)

theorem unconfigured_iff {s : State} : s.unconfigured = true ↔ s.sys.mode = .unconfigured := by simp [unconfigured]

theorem replaceShip_only (s : State) : s.onlyChanges [.ship, .store, .engine] s.replaceShip := by
  intro b hb; cases b <;> simp_all [agree, replaceShip]

namespace keeps

variable {s t u : State}

theorem commitShip (h : s.keeps t) : s.keeps t.commitShip.1 := by
  unfold State.commitShip
  split
  · exact h
  split
  · exact h
  split
  · exact h
  split
  · exact h
  dsimp only
  split
  case isTrue hun =>
    have hmode : t.sealShip.sys.mode = t.sys.mode := rfl
    exact h.sealShip.switchShip.leaveUnconfigured ((switchShip_mode _).trans (hmode.trans (unconfigured_iff.1 hun)))
  case isFalse => exact h.sealShip.requestEvaluation

theorem commitPlan (h : s.keeps t) : s.keeps t.commitPlan.1 := by
  unfold State.commitPlan
  split
  · exact h
  split
  · exact h
  split
  · exact h
  · exact h.sealPlan.requestEvaluation

end keeps
end State
end Sys2Proof.Machine
end

section
/-! PROOFS. What the management requests, the passage of telegrams and every command keep; and the invariants of every
step that follow: canonical images, mode and alarm, output queues, fault table, held orders and reports (O53 to O57). -/

namespace Sys2Proof.Machine

namespace State

/-! ### The requests that read (R20, R130, R164, R183, R186, R190) -/

theorem doReadStatus_fst (s : State) (args : List Byte) : (s.doReadStatus args).1 = s := by
  unfold doReadStatus
  repeat' split
  all_goals rfl

theorem doReadTable_fst (s : State) (args : List Byte) : (s.doReadTable args).1 = s := by
  unfold doReadTable
  extract_lets
  repeat' split
  all_goals rfl

theorem doReadTank_fst (s : State) (args : List Byte) : (s.doReadTank args).1 = s := by
  unfold doReadTank
  repeat' split
  all_goals rfl

theorem doReadStation_fst (s : State) (args : List Byte) : (s.doReadStation args).1 = s := by
  unfold doReadStation
  repeat' split
  all_goals rfl

theorem doReadFaults_fst (s : State) (args : List Byte) : (s.doReadFaults args).1 = s := by
  unfold doReadFaults
  dsimp only
  repeat' split
  all_goals rfl

theorem doReadReport_fst (s : State) (args : List Byte) : (s.doReadReport args).1 = s := by
  unfold doReadReport
  dsimp only
  repeat' split
  all_goals rfl

theorem doReset_fst (s : State) (args : List Byte) : (s.doReset args).1 = s := by
  unfold doReset
  split <;> rfl

namespace keeps

variable {s t u : State}

/-! ### Requests that change something (chapter 11) -/

/-- A request that leaves the state to its answer. -/
theorem served_eq (h : s.keeps t) {r : Served} (hr : r.1 = t) : s.keeps r.1 := hr ▸ h

/-- The state of a refusal, or of what is done instead of it. -/
theorem ite_fst {p : Prop} [Decidable p] {a b : Served} (ha : s.keeps a.1) (hb : s.keeps b.1) :
    s.keeps (if p then a else b).1 := by
  split <;> assumption

theorem doSetTime (h : s.keeps t) {args : List Byte} : s.keeps (t.doSetTime args).1 :=
  ite_fst (h.free (only_clock t _) rfl) h

theorem doWriteTable (h : s.keeps t) {args : List Byte} : s.keeps (t.doWriteTable args).1 := by
  unfold State.doWriteTable
  dsimp only
  split
  · exact h
  split
  · exact h
  · exact ite_fst h (ite_fst h h.writeStaging)

theorem doCommit (h : s.keeps t) {args : List Byte} : s.keeps (t.doCommit args).1 := by
  unfold State.doCommit
  split
  · exact ite_fst h.commitShip (ite_fst h.commitPlan h)
  · exact h

theorem doStore (h : s.keeps t) {src seq : Byte} {args : List Byte} : s.keeps (t.doStore src seq args).1 := by
  refine ite_fst h (ite_fst h (ite_fst h (ite_fst h ?_)))
  split
  · exact h
  · exact h.beginStore

theorem reloadShip (h : s.keeps t) : s.keeps t.reloadShip := by
  unfold State.reloadShip
  extract_lets a b c
  have ha : s.keeps a := h.replaceShip.clearTableFaults.reactToShip
  have hc : s.keeps c := ha.reexamine
  split
  case isTrue hun =>
    have hmode : a.sys.mode = t.sys.mode :=
      (((replaceShip_only t).andThen (clearTableFaults_only _)).andThen (reactToShip_only _ _)).mode (by decide)
    exact (ha.leaveUnconfigured (hmode.trans (unconfigured_iff.1 hun))).requestEvaluation
  case isFalse => exact ite hc hc.requestEvaluation

theorem doReload (h : s.keeps t) {args : List Byte} : s.keeps (t.doReload args).1 := by
  refine ite_fst h (ite_fst h (ite_fst h (ite_fst h ?_)))
  split
  · exact h
  · exact h.reloadShip

theorem doRequestEvaluation (h : s.keeps t) {args : List Byte} : s.keeps (t.doRequestEvaluation args).1 :=
  ite_fst h (ite_fst h h.requestEvaluation)

theorem doSetStationService (h : s.keeps t) {args : List Byte} : s.keeps (t.doSetStationService args).1 := by
  unfold State.doSetStationService
  split
  · exact ite_fst h (ite_fst h (ite_fst (ite h.serviceOut h.serviceIn) h))
  · exact h

theorem readCondition (h : s.keeps t) {st : Option Nat} {r : Bool} : s.keeps (t.readCondition st r).1 := by
  refine ite_fst h (ite_fst ?_ h)
  split
  · exact h
  · exact ite_fst h.makeCondition h

theorem doReadCondition (h : s.keeps t) {args : List Byte} : s.keeps (t.doReadCondition args).1 := by
  unfold State.doReadCondition
  split
  · exact ite_fst h.readCondition h
  · exact ite_fst h.readCondition h
  · exact h

theorem doSetFixedWeight (h : s.keeps t) {args : List Byte} : s.keeps (t.doSetFixedWeight args).1 := by
  have hset : ∀ w m, s.keeps (t.setWeight w m) := fun w m => h.setEngine_eq (by rfl)
  exact ite_fst h (ite_fst h (ite_fst h (ite (hset _ _).advise (hset _ _))))

theorem doManual (h : s.keeps t) {args : List Byte} {f : Nat → State → State}
    (hf : ∀ l u, State.onlyChanges [.pacing] u (f l u)) : s.keeps (t.doManual args f).1 := by
  unfold State.doManual
  split
  · exact ite_fst h (ite_fst h (h.pacingEvent (hf _ t) rfl))
  · exact h

theorem doOpenSession (h : s.keeps t) {args : List Byte} : s.keeps (t.doOpenSession args).1 := by
  unfold State.doOpenSession
  dsimp only
  refine ite_fst h ?_
  split
  case isTrue => exact h
  case isFalse hm => exact ite_fst h (ite_fst h (ite_fst h (ite_fst h (h.openSession (not_not.1 hm)))))

theorem doCloseSession (h : s.keeps t) {args : List Byte} : s.keeps (t.doCloseSession args).1 :=
  ite_fst h (ite_fst h.closeSession h)

theorem doClearSafe (h : s.keeps t) {args : List Byte} : s.keeps (t.doClearSafe args).1 := by
  refine ite_fst h ?_
  split
  case isTrue => exact h
  case isFalse hm => exact h.clearSafe (not_not.1 fun hsafe => hm (.inl hsafe))

theorem acknowledge (h : s.keeps t) {k : FaultKind} {x : Nat} : s.keeps (t.acknowledge k x).1 := by
  unfold State.acknowledge
  split
  · exact h
  case h_2 f n hf => exact h.withFaults fun ht => ht.acknowledge hf

theorem acknowledgeAll (h : s.keeps t) {es : List FaultEntry} : s.keeps (t.acknowledgeAll es).1 :=
  foldl_fst (f := fun a (e : FaultEntry) => let r := a.1.acknowledge e.kind e.subject; (r.1, a.2 + r.2)) (fun _ _ ha => ha.acknowledge) h

theorem doAckFault (h : s.keeps t) {args : List Byte} : s.keeps (t.doAckFault args).1 := by
  unfold State.doAckFault
  split
  · exact ite_fst h.acknowledgeAll h
  · refine ite_fst h ?_
    split
    · exact h
    · exact ite_fst h.acknowledge h
  · exact h

theorem serve (h : s.keeps t) {src seq : Byte} {code : Nat} {args : List Byte} :
    s.keeps (t.serve src seq code args).1 :=
  ite_fst (h.served_eq (doReadStatus_fst t args)) <| ite_fst h.doSetTime <| ite_fst h.doWriteTable <|
  ite_fst (h.served_eq (doReadTable_fst t args)) <| ite_fst h.doCommit <| ite_fst h.doStore <| ite_fst h.doReload <|
  ite_fst (h.served_eq (doReset_fst t args)) <| ite_fst h.doRequestEvaluation <|
  ite_fst (h.served_eq (doReadTank_fst t args)) <| ite_fst (h.served_eq (doReadStation_fst t args)) <|
  ite_fst h.doSetStationService <| ite_fst h.doReadCondition <| ite_fst h.doSetFixedWeight <|
  ite_fst (h.doManual fun _ u => addReason_only u _ _) <| ite_fst (h.doManual fun _ u => removeReason_only u _ _) <|
  ite_fst h.doOpenSession <| ite_fst h.doCloseSession <| ite_fst h.doClearSafe <| ite_fst h.doAckFault <|
  ite_fst (h.served_eq (doReadFaults_fst t args)) <| ite_fst (h.served_eq (doReadReport_fst t args)) h

theorem takeRequest (h : s.keeps t) {src seq code : Byte} {args : List Byte} :
    s.keeps (t.takeRequest src seq code args) := answer h.serve

/-! ### Passage (chapter 6) -/

theorem applyAction (h : s.keeps t) {a : Action} {p q : Port} {x : Telegram} : s.keeps (t.applyAction a p q x) := by
  unfold State.applyAction
  split
  · exact h.send
  · exact h.modPort (fun _ => rfl) (fun _ => rfl)
  · exact h.modPort (fun _ => rfl) (fun _ => rfl)

theorem countMisdirected (h : s.keeps t) {p : Port} : s.keeps (t.countMisdirected p) :=
  h.modPort (fun _ => rfl) (fun _ => rfl)

theorem countAccepted (h : s.keeps t) {p : Port} : s.keeps (t.countAccepted p) :=
  h.modPort (fun _ => rfl) (fun _ => rfl)

theorem discardForeign (h : s.keeps t) {p : Port} : s.keeps (t.discardForeign p) := by
  unfold State.discardForeign
  refine advise (t := t.modPort p _) (h.modPort ?_ ?_) <;> exact fun _ => rfl

theorem discardBad (h : s.keeps t) {p : Port} : s.keeps (t.discardBad p) := by
  unfold State.discardBad
  refine advise (t := t.modPort p _) (h.modPort ?_ ?_) <;> exact fun _ => rfl

theorem takeDraft (h : s.keeps t) {p : List Byte} : s.keeps (t.takeDraft p) := h.setEngine_eq (by rfl)

theorem inspect (h : s.keeps t) {x : Telegram} : s.keeps (t.inspect x).1 := by
  unfold State.inspect
  split
  · split
    · dsimp only
      exact h.takeSounding.judgeDryRuns
    · exact h
  split
  · split
    · dsimp only
      exact h.takeDraft
    · exact h
  split
  · split
    · dsimp only
      exact h.takeState
    · exact h
  split
  · split
    · dsimp only
      exact h.takeAck
    · exact h
  · exact h

theorem onwardField (h : s.keeps t) {x : Telegram} {i : Inspected} : s.keeps (t.onwardField x i) :=
  ite h (ite (ite h.countMisdirected h) (ite h h.applyAction))

theorem dispatchField (h : s.keeps t) {x : Telegram} : s.keeps (t.dispatchField x) := h.inspect.onwardField

theorem unscreenedOrder (h : s.keeps t) {x : Telegram} : s.keeps (t.unscreenedOrder x) :=
  ite h.applyAction.syntheticAck h.applyAction

theorem dispatchOrder (h : s.keeps t) {x : Telegram} : s.keeps (t.dispatchOrder x) := by
  refine ite h.advise ?_
  split
  · exact h.takeOrder
  · exact ite h h.unscreenedOrder

theorem dispatchConsole (h : s.keeps t) {x : Telegram} : s.keeps (t.dispatchConsole x) :=
  ite (ite h.takeRequest h.countMisdirected) (ite h.dispatchOrder (ite h h.applyAction))

theorem dispatchShore (h : s.keeps t) {x : Telegram} : s.keeps (t.dispatchShore x) :=
  ite (ite h.takeShore h) h.countMisdirected

theorem dispatchDefault (h : s.keeps t) {p : Port} {x : Telegram} : s.keeps (t.dispatchDefault p x) := by
  cases p with
  | console => exact ite h.takeRequest h.send
  | field => exact ite h.countMisdirected h.send
  | shore => exact h.dispatchShore

theorem dispatch (h : s.keeps t) {p : Port} {x : Telegram} : s.keeps (t.dispatch p x) := by
  refine ite h.discardForeign (ite ?_ h.dispatchDefault)
  cases p with
  | console => exact h.dispatchConsole
  | field => exact h.dispatchField
  | shore => exact h.dispatchShore

theorem receive (h : s.keeps t) {p : Port} {x : Telegram} : s.keeps (t.receive p x) :=
  ite h (ite h.countAccepted.dispatch h.discardBad)

theorem receiveFrame (h : s.keeps t) {p : Port} {bs : List Byte} : s.keeps (t.receiveFrame p bs) := by
  unfold State.receiveFrame
  split
  · exact h.receive
  · exact ite h h.discardBad

theorem request (h : s.keeps t) {src seq code : Byte} {args : List Byte} : s.keeps (t.request src seq code args) :=
  h.receive

/-- The reset that waits for a reply is no part of the queues. -/
theorem endTransmission (h : s.keeps t) {p : Port} : s.keeps (t.endTransmission p) := by
  unfold State.endTransmission
  split
  · exact h
  · refine h.setOut fun ho q => ?_
    have hq := ho.setPort_start p q
    cases q <;> exact hq

end keeps

/-! ### Every command and every step -/

theorem exec_keeps (i : Instr) {s t : State} (h : exec i s = .next t) : s.keeps t := by
  have hs := keeps.refl s
  have receive : ∀ {p x}, s.keeps (act (State.receive · p x) s) := hs.act (·.receive)
  have request : ∀ {src seq code args}, s.keeps (act (State.request · src seq code args) s) := hs.act (·.request)
  have timer : ∀ {due : State → Bool} {f : State → State}, (∀ {u}, s.keeps u → s.keeps (f u)) →
      s.keeps (act (onDue due f) s) := fun hf => hs.act fun hu => hu.onDue fun _ => hf hu
  cases i <;> obtain rfl := Host.Outcome.next.inj h
  case powerOn => exact hs.resetNow
  case powerLoss => exact hs.unpowered
  case supplyDip => exact keeps.ite hs.resetNow hs
  case commandedReset => exact keeps.ite hs.performDue hs
  case settleEnd => exact hs.act fun hu => hu.onDue hu.endSettle
  case tableFaultReload => exact hs.act fun hu => hu.onDue hu.reloadAfterFault
  case frameReceive => exact hs.act (·.receiveFrame)
  case transmissionEnd => exact hs.act (·.endTransmission)
  case gaugeTimeout => exact timer fun hu => hu.gaugeTimedOut.judgeDryRuns
  case stillIntervalExpiry => exact timer (·.stillExpired)
  case shoreSilenceExpiry => exact timer (·.silenceExpired)
  case beaconTimerExpiry => exact timer (·.sendBeacon)
  case evaluationIntervalExpiry => exact timer (·.intervalExpired)
  case evaluationComplete => exact hs.act (·.completeEvaluation)
  case presenceTimeout => exact timer (·.presenceTimedOut)
  case ackTimeout => exact timer (·.ackTimedOut)
  case holdDeadline => exact timer (·.holdExpired)
  case startLimitDeadline => exact timer (·.startLimitExpired)
  case dryRunTrip => exact timer (·.dryTrip)
  case confirmTimerExpiry => exact timer (·.confirmExpired)
  case conditionTimerExpiry => exact timer (·.conditionExpired)
  case scrubCheck => exact timer (·.scrub)
  case alarmPulseToggle => exact timer (·.toggleAlarm)
  case storeWritingEnd => exact hs.act (·.endStore)
  case sounding | draft | state | ack | order | pour | shoreBeacon => exact receive
  all_goals exact request

theorem step_keeps {s t : State} (h : step s = .next t) : s.keeps t := by
  unfold step at h
  split at h
  case h_1 c rest _ =>
    have hqueue : s.keeps { s with pending := rest } := ⟨id, id, id, id, id, id, id⟩
    exact hqueue.trans (exec_keeps c h)
  case h_2 =>
    split at h
    · exact exec_keeps _ h
    · obtain rfl := Host.Outcome.next.inj h
      exact (keeps.refl s).advanceSecond

end State

/-- Settles O53: the canonical images are one of the invariants that every step keeps. -/
theorem everyStepKeepsImagesCanonical : Obligations.EveryStepKeepsImagesCanonical :=
  fun _ _ hs h => (State.step_keeps h).canonical hs

/-- Settles O54. -/
theorem everyStepKeepsModeAndAlarmSound : Obligations.EveryStepKeepsModeAndAlarmSound :=
  fun _ _ hs h => ⟨(State.step_keeps h).mode hs.1, (State.step_keeps h).alarm hs.2⟩

/-- Settles O55: the ports' invariant is the soundness of each port's queue. -/
theorem everyStepKeepsPortsSound : Obligations.EveryStepKeepsPortsSound :=
  fun _ _ hs h => Out.sound_iff.2 ((State.step_keeps h).ports (Out.sound_iff.1 hs))

/-- Settles O56. -/
theorem everyStepKeepsTheFaultTableSound : Obligations.EveryStepKeepsTheFaultTableSound :=
  fun _ _ hs h => (State.step_keeps h).faults hs

/-- Settles O57. -/
theorem everyStepKeepsHeldOrdersAndReportsSound : Obligations.EveryStepKeepsHeldOrdersAndReportsSound :=
  fun _ _ hs h => ⟨(State.step_keeps h).held hs.1, (State.step_keeps h).reports hs.2⟩

end Sys2Proof.Machine
end

section
/-! PROOFS. The pause records (chapter 5): the reason sets as sets, what each reason change does to every loader's
record, and what acting on the net changes of an event does (R76 to R78, R83, R84, R90). -/

namespace Sys2Proof.Machine

/-! ### Reason sets -/

namespace ReasonSet

theorem bit_injective {q r : Reason} (h : q.bit = r.bit) : q = r := by
  cases q <;> cases r <;> first | rfl | exact absurd h (by decide)

theorem has_single (r q : Reason) : ReasonSet.has r.single q = decide (q = r) := by
  cases r <;> cases q <;> rfl

theorem has_add (rs : ReasonSet) (r q : Reason) : (ReasonSet.add rs r).has q = (rs.has q || decide (q = r)) := by
  rw [← has_single]
  exact BitVec.getLsbD_or

theorem has_remove (rs : ReasonSet) (r q : Reason) : (ReasonSet.remove rs r).has q = (rs.has q && !decide (q = r)) := by
  have hbit : q.bit < 10 := by cases q <;> decide
  rw [← has_single]
  simp [ReasonSet.remove, ReasonSet.has, hbit]

theorem has_zero (q : Reason) : ReasonSet.has 0 q = false := BitVec.getLsbD_zero

/-- A set is the reasons it holds. -/
theorem ext_has {a b : ReasonSet} (h : ∀ r, a.has r = b.has r) : a = b := by
  refine BitVec.eq_of_getLsbD_eq fun i hi => ?_
  have hr : ∀ r : Reason, a.getLsbD r.bit = b.getLsbD r.bit := h
  interval_cases i
  exacts [hr .awaitingCondition, hr .stress, hr .ballastLag, hr .draft, hr .offPlan, hr .planComplete, hr .shoreSilent,
    hr .conditionInvalid, hr .safe, hr .manual]

theorem eq_zero_iff {a : ReasonSet} : a = 0 ↔ ∀ r, a.has r = false :=
  ⟨fun h r => h ▸ has_zero r, fun h => ext_has fun r => (h r).trans (has_zero r).symm⟩

/-- A set without SAFE is empty where it holds no other reason. -/
theorem remove_eq_zero_iff {a : ReasonSet} {q : Reason} : ReasonSet.remove a q = 0 ↔ ∀ r, a.has r = true → r = q := by
  rw [eq_zero_iff]
  refine forall_congr' fun r => ?_
  rw [has_remove]
  cases a.has r <;> simp

end ReasonSet

theorem mem_loaders {l : Nat} : l ∈ loaders ↔ l < 4 := List.mem_range

namespace State

/-- A loop over loaders that each change their own record. -/
theorem pause_forEach_loaders {f : Nat → State → State} {g : Nat → PauseRec → PauseRec} {I : State → Prop}
    (hI : ∀ i u, i < 4 → I u → I (f i u)) (hsame : ∀ i u, i < 4 → I u → (f i u).pause i = g i (u.pause i))
    (hother : ∀ i u j, j ≠ i → (f i u).pause j = u.pause j) {s : State} (hs : I s) {l : Nat} (hl : l < 4) :
    (forEach loaders f s).pause l = g l (s.pause l) := by
  have key : ∀ is : List Nat, is.Nodup → (∀ i ∈ is, i < 4) → ∀ u, I u →
      (forEach is f u).pause l = if l ∈ is then g l (u.pause l) else u.pause l := by
    intro is hd his
    unfold forEach
    induction is with
    | nil => exact fun _ _ => rfl
    | cons i is ih =>
      intro u hu
      obtain ⟨hi, hd⟩ := List.nodup_cons.1 hd
      obtain ⟨hi4, his⟩ := List.forall_mem_cons.1 his
      rw [List.foldl_cons, ih hd his (f i u) (hI i u hi4 hu)]
      by_cases hli : l = i
      · subst hli
        rw [if_neg hi, if_pos List.mem_cons_self, hsame l u hl hu]
      · rw [hother i u l hli]
        simp only [List.mem_cons, hli, false_or]
  rw [key loaders List.nodup_range (fun i hi => mem_loaders.1 hi) s hs, if_pos (mem_loaders.2 hl)]

/-! ### One reason of one loader (R77) -/

/-- Whether a reason can be added: the reasons other than SAFE only while a session is open. -/
abbrev admits (s : State) (r : Reason) : Prop := r = .safe ∨ s.sys.sessionOpen = true

theorem addReason_admitted {s : State} {r : Reason} (h : s.admits r) (l : Nat) :
    s.addReason l r = s.modPause l fun p => { p with reasons := p.reasons.add r } := if_pos h

theorem addReason_refused {s : State} {r : Reason} (h : ¬s.admits r) (l : Nat) : s.addReason l r = s := if_neg h

/-- A pause record with a reason added where it is admitted. -/
abbrev withReason (s : State) (r : Reason) (p : PauseRec) : PauseRec :=
  if s.admits r then { p with reasons := p.reasons.add r } else p

theorem pause_addReason {s : State} {l : Nat} (h : l < 4) (r : Reason) :
    (s.addReason l r).pause l = s.withReason r (s.pause l) := by
  by_cases ha : s.admits r
  · rw [addReason_admitted ha, pause_modPause _ _ _ h, withReason, if_pos ha]
  · rw [addReason_refused ha, withReason, if_neg ha]

theorem pause_addReason_other {s : State} {l m : Nat} (h : m ≠ l) (r : Reason) : (s.addReason l r).pause m = s.pause m := by
  unfold addReason
  split
  · exact pause_modPause_other s l m _ h
  · rfl

theorem pause_removeReason {s : State} {l : Nat} (h : l < 4) (r : Reason) :
    (s.removeReason l r).pause l = { s.pause l with reasons := (s.pause l).reasons.remove r } := pause_modPause _ _ _ h

theorem pause_removeReason_other {s : State} {l m : Nat} (h : m ≠ l) (r : Reason) :
    (s.removeReason l r).pause m = s.pause m := pause_modPause_other s l m _ h

/-! ### One reason of every loader -/

theorem pause_addReasonAll (s : State) (r : Reason) {l : Nat} (hl : l < 4) :
    (s.addReasonAll r).pause l = s.withReason r (s.pause l) := by
  refine pause_forEach_loaders (g := fun _ => s.withReason r) (I := fun u => u.sys.sessionOpen = s.sys.sessionOpen)
    (fun i u _ hu => ?_) (fun i u hi hu => ?_) (fun i u j hj => pause_addReason_other hj r) rfl hl
  · exact ((addReason_only u i r).sessionOpen (by decide)).trans hu
  · rw [pause_addReason hi r]
    unfold withReason admits
    rw [hu]

theorem pause_removeReasonAll (s : State) (r : Reason) {l : Nat} (hl : l < 4) :
    (s.removeReasonAll r).pause l = { s.pause l with reasons := (s.pause l).reasons.remove r } :=
  pause_forEach_loaders (g := fun _ p => { p with reasons := p.reasons.remove r }) (I := fun _ => True)
    (fun _ _ _ => id) (fun _ _ hi _ => pause_removeReason hi r) (fun _ _ _ hj => pause_removeReason_other hj r) trivial hl

theorem pause_clearReasons (s : State) {l : Nat} (hl : l < 4) : s.clearReasons.pause l = { s.pause l with reasons := 0 } :=
  pause_forEach_loaders (g := fun _ p => { p with reasons := 0 }) (I := fun _ => True)
    (fun _ _ _ => id) (fun _ _ hi _ => pause_modPause _ _ _ hi) (fun _ _ _ hj => pause_modPause_other _ _ _ _ hj) trivial hl

theorem has_withReason (s : State) (r q : Reason) (p : PauseRec) :
    (s.withReason r p).reasons.has q = (p.reasons.has q || decide (q = r ∧ s.admits r)) := by
  unfold withReason
  split
  case isTrue h => rw [ReasonSet.has_add]; simp only [h, and_true]
  case isFalse h => simp only [h, and_false, decide_false, Bool.or_false]

@[simp] theorem state_withReason (s : State) (r : Reason) (p : PauseRec) : (s.withReason r p).state = p.state := by
  unfold withReason
  split <;> rfl

/-! ### Acting on the net change of one loader (R78, R83, R84, R90) -/

theorem pause_makeRecord (s : State) (k : RecordKind) (p g : Bool) (b : List Int) (l : Nat) :
    (s.makeRecord k p g b).pause l = s.pause l := (makeRecord_only s k p g b).pause (by decide) l

theorem pause_closeEpisode (s : State) (l m : Nat) (e : Episode) : (s.closeEpisode l e).pause m = s.pause m := by
  unfold closeEpisode
  split
  · exact pause_makeRecord s _ _ _ _ m
  · rfl

/-- An episode that opens is PAUSE_SENT with its confirm timer. -/
theorem pause_openEpisode {s : State} {l : Nat} (h : l < 4) :
    (s.openEpisode l).pause l = { s.pause l with state := .pauseSent (s.newEpisode l), timer := s.confirmDeadline } := by
  unfold openEpisode
  extract_lets ep timer o
  have ho : o.pause l = { s.pause l with state := .pauseSent ep, timer := timer } :=
    ((sendPause_only _ l).pause (by decide) l).trans (pause_modPause s l _ h)
  split
  · exact ((modStep_only o _).pause (by decide) l).trans ho
  · exact ho

theorem pause_openEpisode_other {s : State} {l m : Nat} (h : m ≠ l) : (s.openEpisode l).pause m = s.pause m := by
  unfold openEpisode
  extract_lets ep timer o
  have ho : o.pause m = s.pause m := ((sendPause_only _ l).pause (by decide) m).trans (pause_modPause_other s l m _ h)
  split
  · exact ((modStep_only o _).pause (by decide) m).trans ho
  · exact ho

/-- A changed set that stays filled joins the episode's union. -/
theorem pause_repeatPause {s : State} {l : Nat} (h : l < 4) :
    (s.repeatPause l).pause l
      = (s.pause l).mapEpisode fun e => { e with union := e.union ||| (s.pause l).reasons } :=
  ((sendPause_only _ l).pause (by decide) l).trans (pause_modPause s l _ h)

theorem pause_repeatPause_other {s : State} {l m : Nat} (h : m ≠ l) : (s.repeatPause l).pause m = s.pause m :=
  ((sendPause_only _ l).pause (by decide) m).trans (pause_modPause_other s l m _ h)

/-- The record of a release up to the faults and the record of its episode. -/
theorem pause_release_eq (s : State) (l m : Nat) :
    (s.release l).pause m = (s.modPause l fun p => { p with state := .free, timer := none }).pause m := by
  unfold release
  extract_lets a b c d
  have hb : b.pause m = (s.modPause l fun p => { p with state := .free, timer := none }).pause m := rfl
  have hc : c.pause m = b.pause m :=
    ((clearFault_only b _ l).trans (clearFault_only _ _ l)).pause (by decide) m
  have hd : d.pause m = c.pause m := by
    dsimp only [d]
    split
    · exact pause_closeEpisode c l m _
    · rfl
  split
  · exact ((modStep_only d _).pause (by decide) m).trans (hd.trans (hc.trans hb))
  · exact hd.trans (hc.trans hb)

theorem pause_release {s : State} {l : Nat} (h : l < 4) :
    (s.release l).pause l = { s.pause l with state := .free, timer := none } :=
  (pause_release_eq s l l).trans (pause_modPause s l _ h)

theorem pause_release_other {s : State} {l m : Nat} (h : m ≠ l) : (s.release l).pause m = s.pause m :=
  (pause_release_eq s l m).trans (pause_modPause_other s l m _ h)

/-- A loader's record after the action on its net change (R78): an episode opens, the loader is released, the episode
takes the changed set, or nothing is done. -/
def actedPause (s : State) (l : Nat) (before : ReasonSet) (filled : Bool) (p : PauseRec) : PauseRec :=
  if before = 0 then
    if p.reasons = 0 then p else { p with state := .pauseSent (s.newEpisode l), timer := s.confirmDeadline }
  else if p.reasons = 0 then { p with state := .free, timer := none }
  else if before = p.reasons ∧ !filled then p
  else p.mapEpisode fun e => { e with union := e.union ||| p.reasons }

theorem pause_actLoader {s : State} {l : Nat} (h : l < 4) (b : ReasonSet) (f : Bool) :
    (s.actLoader l b f).pause l = s.actedPause l b f (s.pause l) := by
  unfold actLoader actedPause
  dsimp only
  split
  · split
    · rfl
    · exact pause_openEpisode h
  · split
    · exact pause_release h
    · split
      · rfl
      · exact pause_repeatPause h

theorem pause_actLoader_other {s : State} {l m : Nat} (h : m ≠ l) (b : ReasonSet) (f : Bool) :
    (s.actLoader l b f).pause m = s.pause m := by
  unfold actLoader
  dsimp only
  split
  · split
    · rfl
    · exact pause_openEpisode_other h
  · split
    · exact pause_release_other h
    · split
      · rfl
      · exact pause_repeatPause_other h

/-- What an episode that opens is made of: the loader's last cumulative, the plan's grace, the time, its reasons and
the confirm timeout. -/
theorem newEpisode_of_only {s t : State} {bs : List Block} (h : s.onlyChanges bs t) (hshore : .shore ∉ bs)
    (hplan : .plan ∉ bs) (hclock : .clock ∉ bs) {l : Nat} (hr : (t.pause l).reasons = (s.pause l).reasons) :
    t.newEpisode l = s.newEpisode l := by
  unfold newEpisode knownCumulative
  rw [h.loader hshore, h.activePlan hplan, h.now hclock, hr]

theorem confirmDeadline_of_only {s t : State} {bs : List Block} (h : s.onlyChanges bs t) (hsession : .session ∉ bs)
    (hship : .ship ∉ bs) (hclock : .clock ∉ bs) : t.confirmDeadline = s.confirmDeadline := by
  unfold confirmDeadline
  rw [h.sessionOpen hsession, h.now hclock, h.bank hship]

/-- Acting leaves the reason sets. -/
@[simp] theorem actedPause_reasons (s : State) (l : Nat) (b : ReasonSet) (f : Bool) (p : PauseRec) :
    (s.actedPause l b f p).reasons = p.reasons := by
  unfold actedPause
  repeat' split
  all_goals rfl

theorem reasons_actLoader {s : State} {l : Nat} (h : l < 4) (b : ReasonSet) (f : Bool) (m : Nat) :
    ((s.actLoader l b f).pause m).reasons = (s.pause m).reasons := by
  by_cases hm : m = l
  · rw [hm, pause_actLoader h, actedPause_reasons]
  · rw [pause_actLoader_other hm]

/-- Acting on an event does each loader's action on its own record (R78). -/
theorem pause_actOn (s : State) (b : Nat → ReasonSet) (f : Option Nat) {l : Nat} (hl : l < 4) :
    (s.actOn b f).pause l = s.actedPause l (b l) (f == some l) (s.pause l) := by
  refine pause_forEach_loaders (g := fun i p => s.actedPause i (b i) (f == some i) p)
    (I := fun u => s.onlyChanges pacingBlocks u ∧ ∀ m, (u.pause m).reasons = (s.pause m).reasons)
    (fun i u hi ⟨hu, hr⟩ => ⟨hu.trans (actLoader_only u i _ _), fun m => (reasons_actLoader hi _ _ m).trans (hr m)⟩)
    (fun i u hi ⟨hu, hr⟩ => ?_) (fun i u j hj => pause_actLoader_other hj _ _) ⟨onlyChanges_refl _ s, fun _ => rfl⟩ hl
  rw [pause_actLoader hi]
  unfold actedPause
  rw [newEpisode_of_only hu (by decide) (by decide) (by decide) (hr i),
    confirmDeadline_of_only hu (by decide) (by decide) (by decide)]

theorem mapEpisode_free (f : Episode → Episode) (x : PauseState) : x.mapEpisode f = .free ↔ x = .free := by
  cases x <;> simp [PauseState.mapEpisode]

/-- Acting leaves a loader FREE exactly with an empty set, where it was so before the event (R76). -/
theorem actedPause_free {s : State} {l : Nat} {b : ReasonSet} {f : Bool} {p : PauseRec} (h : p.state = .free ↔ b = 0) :
    (s.actedPause l b f p).state = .free ↔ p.reasons = 0 := by
  unfold actedPause
  split
  case isTrue hb =>
    split
    case isTrue hp => exact iff_of_true (h.2 hb) hp
    case isFalse hp => exact iff_of_false nofun hp
  case isFalse hb =>
    have hnot : p.state ≠ .free := fun hf => hb (h.1 hf)
    split
    case isTrue hp => exact iff_of_true rfl hp
    case isFalse hp =>
      split
      · exact iff_of_false hnot hp
      · exact iff_of_false (fun hf => hnot ((mapEpisode_free _ _).1 hf)) hp

theorem reasons_actOn (s : State) (b : Nat → ReasonSet) (f : Option Nat) {l : Nat} (hl : l < 4) :
    ((s.actOn b f).pause l).reasons = (s.pause l).reasons := by
  rw [pause_actOn s b f hl, actedPause_reasons]

theorem reasons_pacingEvent (s : State) (f : State → State) {l : Nat} (hl : l < 4) :
    ((s.pacingEvent f).pause l).reasons = ((f s).pause l).reasons := reasons_actOn _ _ _ hl

end State
end Sys2Proof.Machine
end

section
/-! PROOFS. The pause records of every step (O58): a loader is FREE exactly with an empty reason set, holds SAFE exactly
in SAFE, and holds nothing else outside a session (R76, R77, R94). An event moves reasons first, the mode may become SAFE,
and acting on the net changes brings every record back in step with its set. -/

namespace Sys2Proof.Machine

namespace State

/-- The blocks that the pause records' invariant does not speak of. -/
abbrev calmBlocks : List Block :=
  [.pending, .supply, .clock, .out, .faults, .ship, .plan, .store, .scrub, .tanks, .shore, .engine, .tracker, .stations,
    .screen, .reports]

/-! ### Reasons moved by an event, before they are acted on -/

/-- Between two states of one event the reason sets change in reasons other than SAFE, outside a session only by losing
some; no loader enters or leaves FREE, and the mode stays or becomes SAFE. -/
structure reasonsMove (s t : State) : Prop where
  mode : t.sys.mode = s.sys.mode ∨ t.sys.mode = .safe
  session : t.sys.sessionOpen = s.sys.sessionOpen
  free : ∀ l < 4, (t.pause l).state = .free ↔ (s.pause l).state = .free
  safe : ∀ l < 4, (t.pause l).reasons.has .safe = (s.pause l).reasons.has .safe
  closed : s.sys.sessionOpen = false → ∀ l < 4, ∀ r, (t.pause l).reasons.has r = true → (s.pause l).reasons.has r = true

namespace reasonsMove

theorem refl (s : State) : s.reasonsMove s := ⟨.inl rfl, rfl, fun _ _ => Iff.rfl, fun _ _ => rfl, fun _ _ _ _ => id⟩

variable {s t u : State}

theorem trans (h : s.reasonsMove t) (k : t.reasonsMove u) : s.reasonsMove u where
  mode := k.mode.elim (fun e => h.mode.imp e.trans e.trans) .inr
  session := k.session.trans h.session
  free l hl := (k.free l hl).trans (h.free l hl)
  safe l hl := (k.safe l hl).trans (h.safe l hl)
  closed hs l hl r hr := h.closed hs l hl r (k.closed (h.session.trans hs) l hl r hr)

theorem ite {p : Prop} [Decidable p] (h : s.reasonsMove t) (k : s.reasonsMove u) : s.reasonsMove (if p then t else u) := by
  split <;> assumption

/-- A step that touches no pause record and no session, and may only enter SAFE. -/
theorem frame (h : s.reasonsMove t) {l : List Block} (k : t.onlyChanges l u) (hpacing : l.contains .pacing = false)
    (hsession : l.contains .session = false) (hmode : u.sys.mode = t.sys.mode ∨ u.sys.mode = .safe) : s.reasonsMove u := by
  have hp : Block.pacing ∉ l := by simpa using hpacing
  have hs : Block.session ∉ l := by simpa using hsession
  refine h.trans ⟨hmode, k.sessionOpen hs, fun m _ => ?_, fun m _ => ?_, fun _ m _ r hr => ?_⟩
  · rw [k.pause hp]
  · rw [k.pause hp]
  · rwa [k.pause hp] at hr

/-- A frame of calm blocks. -/
theorem calm (h : s.reasonsMove t) {l : List Block} (k : t.onlyChanges l u) (hl : l.all (calmBlocks.contains ·) = true) :
    s.reasonsMove u := by
  have hk := k.mono fun b hb => List.contains_iff_mem.mp (List.all_eq_true.mp hl b hb)
  exact h.frame hk rfl rfl (.inl (hk.mode (by decide)))

theorem foldl_loaders {f : Nat → State → State} (hf : ∀ l u, s.reasonsMove u → s.reasonsMove (f l u))
    (h : s.reasonsMove t) {ls : List Nat} : s.reasonsMove (forEach ls f t) := by
  unfold forEach
  induction ls generalizing t with
  | nil => exact h
  | cons l ls ih => exact ih (hf l t h)

/-- A change of one loader's reasons that leaves SAFE, and outside a session adds none. -/
theorem modReasons (h : s.reasonsMove t) {l : Nat} {f : ReasonSet → ReasonSet}
    (hsafe : ∀ rs, (f rs).has .safe = ReasonSet.has rs .safe)
    (hclosed : t.sys.sessionOpen = false → ∀ rs r, (f rs).has r = true → ReasonSet.has rs r = true) :
    s.reasonsMove (t.modPause l fun p => { p with reasons := f p.reasons }) := by
  have same : ∀ m < 4, (t.modPause l fun p => { p with reasons := f p.reasons }).pause m
      = if m = l then { t.pause m with reasons := f (t.pause m).reasons } else t.pause m := by
    intro m hm
    split
    case isTrue e => subst e; exact pause_modPause t m _ hm
    case isFalse e => exact pause_modPause_other t l m _ e
  refine h.trans ⟨.inl rfl, rfl, fun m hm => ?_, fun m hm => ?_, fun hs m hm r hr => ?_⟩
  · rw [same m hm]; split <;> rfl
  · rw [same m hm]; split
    · exact hsafe _
    · rfl
  · rw [same m hm] at hr; split at hr
    · exact hclosed hs _ r hr
    · exact hr

theorem addReason (h : s.reasonsMove t) {l : Nat} {r : Reason} (hr : r ≠ .safe) : s.reasonsMove (t.addReason l r) := by
  unfold State.addReason
  split
  case isTrue hadm =>
    refine h.modReasons (f := fun rs => rs.add r) (fun rs => ?_) fun hc rs q hq => ?_
    · rw [ReasonSet.has_add]; simp [hr.symm]
    · rcases hadm with he | ho
      · exact absurd he hr
      · exact absurd (hc.symm.trans ho) nofun
  case isFalse => exact h

theorem removeReason (h : s.reasonsMove t) {l : Nat} {r : Reason} (hr : r ≠ .safe) :
    s.reasonsMove (t.removeReason l r) := by
  refine h.modReasons (f := fun rs => rs.remove r) (fun rs => ?_) fun _ rs q hq => ?_
  · rw [ReasonSet.has_remove]; simp [hr.symm]
  · rw [ReasonSet.has_remove, Bool.and_eq_true] at hq
    exact hq.1

theorem addReasonAll (h : s.reasonsMove t) {r : Reason} (hr : r ≠ .safe) : s.reasonsMove (t.addReasonAll r) :=
  h.foldl_loaders fun _ _ hu => hu.addReason hr

theorem removeReasonAll (h : s.reasonsMove t) {r : Reason} (hr : r ≠ .safe) : s.reasonsMove (t.removeReasonAll r) :=
  h.foldl_loaders fun _ _ hu => hu.removeReason hr

theorem followFault (h : s.reasonsMove t) {r : Reason} (hr : r ≠ .safe) {b a : Bool} :
    s.reasonsMove (t.followFault r b a) := ite (h.addReasonAll hr) (ite (h.removeReasonAll hr) h)

/-- An episode changed; it stays open. -/
theorem mapEpisode (h : s.reasonsMove t) {l : Nat} {f : Episode → Episode} :
    s.reasonsMove (t.modPause l fun p => p.mapEpisode f) := by
  have same : ∀ m < 4, ((t.modPause l fun p => p.mapEpisode f).pause m).reasons = (t.pause m).reasons
      ∧ (((t.modPause l fun p => p.mapEpisode f).pause m).state = .free ↔ (t.pause m).state = .free) := by
    intro m hm
    by_cases e : m = l
    · subst e
      rw [pause_modPause t m _ hm]
      exact ⟨rfl, mapEpisode_free f _⟩
    · rw [pause_modPause_other t l m _ e]
      exact ⟨rfl, Iff.rfl⟩
  refine h.trans ⟨.inl rfl, rfl, fun m hm => (same m hm).2, fun m hm => ?_, fun _ m hm r hr => ?_⟩
  · rw [(same m hm).1]
  · rwa [(same m hm).1] at hr

/-! ### Faults that may bring SAFE (R173) -/

theorem raiseFault (h : s.reasonsMove t) {k : FaultKind} {x : Nat} : s.reasonsMove (t.raiseFault k x) := by
  refine h.frame (raiseFault_only t k x) rfl rfl ?_
  unfold State.raiseFault State.enterSafeOn
  split
  · exact .inl rfl
  · split
    · exact .inr rfl
    · exact .inl rfl

theorem clearFault (h : s.reasonsMove t) {k : FaultKind} {x : Nat} : s.reasonsMove (t.clearFault k x) :=
  h.calm (clearFault_only t k x) rfl

theorem judgeFault (h : s.reasonsMove t) {k : FaultKind} {x : Nat} {up down : Bool} :
    s.reasonsMove (t.judgeFault k x up down) := ite h.raiseFault (ite h.clearFault h)

/-! ### The plan tracker's and the publication's reasons (R66, R69, R72, R73, R80, R82) -/

theorem completePlan (h : s.reasonsMove t) : s.reasonsMove t.completePlan :=
  (h.calm (setTracking_only t _) rfl).addReasonAll nofun

theorem recordStep (h : s.reasonsMove t) {a : ActiveStep} : s.reasonsMove (t.recordStep a) :=
  h.calm (recordStep_only t a) rfl

theorem advanceFrom (h : s.reasonsMove t) {n : Nat} : s.reasonsMove (State.advanceFrom n t) := by
  induction n generalizing t with
  | zero => exact h
  | succ n ih =>
    unfold State.advanceFrom
    split
    · exact ite (ite h.recordStep.completePlan (ih (h.recordStep.calm (nextStep_only _ _) rfl))) h
    · exact h

theorem offPlanTest (h : s.reasonsMove t) {l : Nat} {sp : Option Nat} {b : Belt} : s.reasonsMove (t.offPlanTest l sp b) :=
  have hset := fun v => h.calm (setOffPlan_only t l v) rfl
  ite (ite h ((hset true).addReason (r := .offPlan) nofun).raiseFault)
    (ite ((hset false).removeReason (r := .offPlan) nofun).clearFault h)

theorem trackPour (h : s.reasonsMove t) {l : Nat} {sp : Option Nat} {b : Belt} : s.reasonsMove (t.trackPour l sp b) :=
  h.advanceFrom.offPlanTest

theorem rebaseCursor (h : s.reasonsMove t) : s.reasonsMove t.rebaseCursor := by
  unfold State.rebaseCursor
  split
  · exact ite ((h.calm (setTracking_only t _) rfl).removeReasonAll nofun) (h.calm (setTracking_only t _) rfl)
  · exact ite h h.completePlan

theorem judgeStress (h : s.reasonsMove t) {m : Marks} {f : Figures} {l : Nat} : s.reasonsMove (t.judgeStress m f l) :=
  ite (h.addReason nofun) (ite (ite (h.removeReason nofun) h) (ite (h.addReason nofun) h))

theorem paceCurrent (h : s.reasonsMove t) {m : Marks} {f : Figures} : s.reasonsMove (t.paceCurrent m f) :=
  (h.removeReasonAll (r := .awaitingCondition) nofun).foldl_loaders fun _ _ hu => hu.judgeStress

theorem fillGrace (h : s.reasonsMove t) {l : Nat} : s.reasonsMove (t.fillGrace l) := h.mapEpisode

theorem judgeOverpour (h : s.reasonsMove t) {l : Nat} : s.reasonsMove (t.judgeOverpour l) := by
  unfold State.judgeOverpour
  split
  · exact h
  split
  · exact h
  · exact ite (ite h.mapEpisode.raiseFault h.mapEpisode) h

end reasonsMove

/-! ### Acting brings every record in step (R76, R78, R94) -/

namespace pausesSound

/-- A state whose FREE loaders are those whose sets were empty before an event is sound once the event is acted on. -/
theorem actOn {u : State} {b : Nat → ReasonSet} {f : Option Nat}
    (hfree : ∀ l < 4, (u.pause l).state = .free ↔ b l = 0)
    (hsafe : ∀ l < 4, (u.pause l).reasons.has .safe = true ↔ u.sys.mode = .safe)
    (hclosed : u.sys.sessionOpen = false → ∀ l < 4, (u.pause l).reasons.remove .safe = 0) : (u.actOn b f).pausesSound := by
  intro l hl
  rw [pause_actOn u b f hl, actedPause_reasons, (actOn_only u b f).mode (by decide), (actOn_only u b f).sessionOpen (by decide)]
  exact ⟨actedPause_free (hfree l hl), hsafe l hl, fun hc => hclosed hc l hl⟩

variable {s t u : State}

/-- An event of a sound part: reasons move, SAFE follows the mode, and the net changes are acted on. -/
theorem paced (hs : s.pausesSound) (h : s.reasonsMove u) {b : Nat → ReasonSet} {f : Option Nat}
    (hb : ∀ l < 4, b l = (s.pause l).reasons) : ((u.followSafe s.sys.mode).actOn b f).pausesSound := by
  have hfree : ∀ l < 4, (u.pause l).state = .free ↔ b l = 0 := fun l hl => by
    rw [hb l hl]; exact (h.free l hl).trans (hs l hl).1
  have hclosed : u.sys.sessionOpen = false → ∀ l < 4, (u.pause l).reasons.remove .safe = 0 := fun hc l hl => by
    have hc' := h.session.symm.trans hc
    have hnone := ReasonSet.remove_eq_zero_iff.1 ((hs l hl).2.2 hc')
    exact ReasonSet.remove_eq_zero_iff.2 fun r hr => hnone r (h.closed hc' l hl r hr)
  unfold followSafe
  split
  case isTrue hnew =>
    have hadd : ∀ l < 4, (u.addReasonAll .safe).pause l = { u.pause l with reasons := (u.pause l).reasons.add .safe } :=
      fun l hl => (pause_addReasonAll u .safe hl).trans (if_pos (.inl rfl))
    refine actOn (fun l hl => ?_) (fun l hl => ?_) fun hc l hl => ?_
    · rw [hadd l hl]; exact hfree l hl
    · rw [hadd l hl, (addReasonAll_only u .safe).mode (by decide), ReasonSet.has_add]
      simpa using hnew.1
    · rw [(addReasonAll_only u .safe).sessionOpen (by decide)] at hc
      have hnone := ReasonSet.remove_eq_zero_iff.1 (hclosed hc l hl)
      rw [hadd l hl]
      refine ReasonSet.remove_eq_zero_iff.2 fun r hr => ?_
      rw [ReasonSet.has_add, Bool.or_eq_true] at hr
      exact hr.elim (hnone r) of_decide_eq_true
  case isFalse hold =>
    refine actOn hfree (fun l hl => ?_) hclosed
    rw [h.safe l hl, (hs l hl).2.1]
    rcases h.mode with e | e
    · rw [e]
    · exact ⟨fun _ => e, fun _ => not_not.1 fun hne => hold ⟨e, hne⟩⟩

/-- Where the mode has not changed nothing follows it. -/
theorem followSafe_same (h : u.sys.mode = s.sys.mode) : u.followSafe s.sys.mode = u := by
  unfold followSafe
  exact if_neg fun ⟨hu, hs⟩ => hs (h ▸ hu)

/-- An event of reasons alone. -/
theorem pacingEvent (hs : s.pausesSound) {f : State → State} (h : s.reasonsMove (f s)) (hm : (f s).sys.mode = s.sys.mode) :
    (s.pacingEvent f).pausesSound := by
  have hp := hs.paced h (b := s.reasonSets) (f := none) fun _ _ => rfl
  rwa [followSafe_same hm] at hp

/-- A frame of calm blocks. -/
theorem calm (h : s.pausesSound) {l : List Block} (k : s.onlyChanges l t) (hl : l.all (calmBlocks.contains ·) = true) :
    t.pausesSound := by
  have hk := k.mono fun b hb => List.contains_iff_mem.mp (List.all_eq_true.mp hl b hb)
  intro m hm
  rw [hk.pause (by decide), hk.mode (by decide), hk.sessionOpen (by decide)]
  exact h m hm

theorem ite {p : Prop} [Decidable p] (h : s.pausesSound) (k : t.pausesSound) : (if p then s else t).pausesSound := by
  split <;> assumption

end pausesSound
end State
end Sys2Proof.Machine
end

section
/-! PROOFS. The frames of the management requests and of the passage of telegrams that earlier frames do not give. -/

namespace Sys2Proof.Machine

namespace State

/-! ### Requests (chapter 11) -/

/-- Either of two answers within a frame. -/
theorem only_ite_fst {s : State} {l : List Block} {p : Prop} [Decidable p] {a b : Served} (ha : s.onlyChanges l a.1)
    (hb : s.onlyChanges l b.1) : s.onlyChanges l (if p then a else b).1 := by
  split <;> assumption

theorem refuse_only (s : State) (l : List Block) (r : Reason4) : s.onlyChanges l (s.refuse r).1 := onlyChanges_refl l s

theorem doSetTime_only (s : State) (args : List Byte) : s.onlyChanges [.clock] (s.doSetTime args).1 :=
  only_ite_fst (only_clock s _) (refuse_only s _ _)

theorem writeStaging_only (s : State) (c : TableCode) (x : Nat) (bs : List Byte) :
    s.onlyChanges [.ship, .plan] (s.writeStaging c x bs) := by
  unfold writeStaging
  split
  · exact (only_plan s _).mono (by decide)
  · exact (only_ship s _).mono (by decide)

theorem doWriteTable_only (s : State) (args : List Byte) : s.onlyChanges [.ship, .plan] (s.doWriteTable args).1 := by
  unfold doWriteTable
  dsimp only
  split
  · exact refuse_only s _ _
  split
  · exact refuse_only s _ _
  · exact only_ite_fst (refuse_only s _ _) (only_ite_fst (refuse_only s _ _) (writeStaging_only s _ _ _))

theorem beginStore_only (s : State) (src seq : Byte) : s.onlyChanges [.store] (s.beginStore src seq) := by
  intro b hb; cases b <;> simp_all [agree, beginStore]

theorem doStore_only (s : State) (src seq : Byte) (args : List Byte) : s.onlyChanges [.store] (s.doStore src seq args).1 := by
  refine only_ite_fst (refuse_only s _ _) (only_ite_fst (refuse_only s _ _) (only_ite_fst (refuse_only s _ _)
    (only_ite_fst (refuse_only s _ _) ?_)))
  split
  · exact onlyChanges_refl _ s
  · exact beginStore_only s src seq

theorem endStore_only (s : State) : s.onlyChanges [.store, .faults, .out] s.endStore := by
  unfold endStore
  split
  · exact onlyChanges_refl _ s
  case h_2 j _ =>
    have hset : ∀ st x y, s.onlyChanges [.store] { s with mgmt := { s.mgmt with
        store := st, storeState := x, writing := none, unstored := y } } := by
      intro st x y b hb
      cases b <;> simp_all [agree]
    split
    · exact (((hset _ _ _).andThen (clearFault_only _ _ _)).andThen (sendReply_only _ _ _ _ _ _ _)).mono (by decide)
    · refine (((hset { bank := j.bank, mark := false } .invalid s.mgmt.unstored).andThen
        (raiseFault_keeps_mode _ (k := .storeFailed) _ fun _ => rfl)).andThen (sendReply_only _ _ _ _ _ _ _)).mono (by decide)

theorem doSetStationService_only (s : State) (args : List Byte) :
    s.onlyChanges screenBlocks (s.doSetStationService args).1 := by
  unfold doSetStationService
  split
  · exact only_ite_fst (refuse_only s _ _) (only_ite_fst (refuse_only s _ _)
      (only_ite_fst (onlyChanges_ite (serviceOut_only s _) (serviceIn_only s _)) (refuse_only s _ _)))
  · exact refuse_only s _ _

theorem readCondition_only (s : State) (st : Option Nat) (r : Bool) :
    s.onlyChanges [.out, .reports] (s.readCondition st r).1 := by
  refine only_ite_fst (refuse_only s _ _) (only_ite_fst ?_ (refuse_only s _ _))
  split
  · exact refuse_only s _ _
  · exact only_ite_fst (makeCondition_only s) (onlyChanges_refl _ s)

theorem doReadCondition_only (s : State) (args : List Byte) : s.onlyChanges [.out, .reports] (s.doReadCondition args).1 := by
  unfold doReadCondition
  split
  · exact only_ite_fst (readCondition_only s _ _) (refuse_only s _ _)
  · exact only_ite_fst (readCondition_only s _ _) (refuse_only s _ _)
  · exact refuse_only s _ _

theorem doSetFixedWeight_only (s : State) (args : List Byte) : s.onlyChanges [.engine, .out] (s.doSetFixedWeight args).1 := by
  have hset : ∀ w m, s.onlyChanges [.engine, .out] (s.setWeight w m) := fun w m => (setWeight_only s w m).mono (by decide)
  exact only_ite_fst (refuse_only s _ _) (only_ite_fst (refuse_only s _ _) (only_ite_fst (refuse_only s _ _)
    (onlyChanges_ite (((hset _ _).andThen (advise_only _ _ _)).mono (by decide)) (hset _ _))))

theorem acknowledgeAll_only (s : State) (es : List FaultEntry) : s.onlyChanges [.faults, .out] (s.acknowledgeAll es).1 := by
  have key : ∀ a : State × Nat, s.onlyChanges [.faults, .out] a.1 → s.onlyChanges [.faults, .out]
      (es.foldl (fun a e => let r := a.1.acknowledge e.kind e.subject; (r.1, a.2 + r.2)) a).1 := by
    induction es with
    | nil => exact fun _ ha => ha
    | cons e es ih => exact fun a ha => ih _ (ha.trans (acknowledge_only a.1 e.kind e.subject))
  exact key (s, 0) (onlyChanges_refl _ s)

theorem doAckFault_only (s : State) (args : List Byte) : s.onlyChanges [.faults, .out] (s.doAckFault args).1 := by
  unfold doAckFault
  split
  · exact only_ite_fst (acknowledgeAll_only s _) (refuse_only s _ _)
  · refine only_ite_fst (refuse_only s _ _) ?_
    split
    · exact refuse_only s _ _
    · exact only_ite_fst (acknowledge_only s _ _) (refuse_only s _ _)
  · exact refuse_only s _ _

theorem sealShip_only (s : State) : s.onlyChanges [.ship] s.sealShip := only_ship s _
theorem sealPlan_only (s : State) : s.onlyChanges [.plan] s.sealPlan := only_plan s _

/-- What is carried out leaves the answer to the output queue. -/
theorem fst_answer_only (r : Served) (src seq code : Byte) : r.1.onlyChanges [.out] (answer r src seq code) :=
  (answer_only r.1 r src seq code (onlyChanges_refl [] r.1)).mono (by decide)

/-! ### Mode entries (R169, R170, R176) -/

theorem loadStore_only (s : State) : s.onlyChanges [.ship, .store] s.loadStore := by
  intro b hb; cases b <;> simp_all [agree, loadStore]

theorem startTimers_only (s : State) : s.onlyChanges [.tanks, .stations, .engine, .scrub] s.startTimers := by
  have hset : ∀ a : State, a.onlyChanges [.engine, .scrub]
      { a with engine := { a.engine with intervalAt := some (a.now + a.bank.evaluationInterval) }
               mgmt := { a.mgmt with scrubAt := some (a.now + 1) } } := by
    intro a b hb
    cases b <;> simp_all [agree]
  exact (((startGaugeTimers_only s).andThen (startPresenceTimers_only _)).andThen (hset _)).mono (by decide)

/-- What the entry into circuit can change besides the mode and the supply state. -/
theorem enterCircuit_only (s : State) (m : Mode) :
    s.onlyChanges [.mode, .supply, .tanks, .stations, .faults, .out, .shore, .engine, .scrub] (s.enterCircuit m) := by
  unfold enterCircuit
  extract_lets x a b
  have ha : s.onlyChanges [.mode, .supply] a := by
    intro b hb
    cases b <;> simp_all [agree, a, x]
  have hb : s.onlyChanges [.mode, .supply, .tanks, .stations, .faults, .out, .shore] b :=
    ((((ha.andThen (resetTanks_only a)).andThen (bindStations_only _)).andThen (judgeAlarm_only _)).andThen
      (sendBeacon_only _)).mono (by decide)
  split
  · exact (hb.andThen (startTimers_only b)).mono (by decide)
  · exact hb.mono (by decide)

theorem leaveUnconfigured_only (s : State) :
    s.onlyChanges [.mode, .tanks, .stations, .engine, .scrub, .shore, .screen, .out, .faults] s.leaveUnconfigured :=
  (((setMode_only s _).andThen (startTimers_only _)).andThen (tellMode_only _)).mono (by decide)

@[simp] theorem enterCircuit_mode (s : State) (m : Mode) : (s.enterCircuit m).sys.mode = m := by
  unfold enterCircuit
  extract_lets x a b
  have hb : b.sys.mode = a.sys.mode :=
    ((((resetTanks_only a).andThen (bindStations_only _)).andThen (judgeAlarm_only _)).andThen
      (sendBeacon_only _)).mode (by decide)
  clear_value b
  split
  · exact ((startTimers_only b).mode (by decide)).trans hb
  · exact hb

@[simp] theorem leaveUnconfigured_mode (s : State) : s.leaveUnconfigured.sys.mode = .standby := by
  have hset : (s.setMode .standby).sys.mode = .standby := rfl
  unfold leaveUnconfigured
  generalize s.setMode .standby = a at hset ⊢
  exact (((startTimers_only a).andThen (tellMode_only _)).mode (by decide)).trans hset

/-! ### Passage (chapter 6) -/

/-- What the inspection of a telegram from the field port can change. -/
abbrev inspectBlocks : List Block := [.tanks, .faults, .out, .reports, .screen, .stations, .engine]

theorem inspect_only (s : State) (t : Telegram) : s.onlyChanges inspectBlocks (s.inspect t).1 := by
  unfold inspect
  split
  · split
    · dsimp only
      exact ((takeSounding_only s _ _ _ _).andThen (judgeDryRuns_only _)).mono (by decide)
    · exact onlyChanges_refl _ s
  split
  · split
    · dsimp only
      exact (takeDraft_only s _).mono (by decide)
    · exact onlyChanges_refl _ s
  split
  · split
    · dsimp only
      exact (takeState_only s _ _).mono (by decide)
    · exact onlyChanges_refl _ s
  split
  · split
    · dsimp only
      exact (takeAck_only s _ _).mono (by decide)
    · exact onlyChanges_refl _ s
  · exact onlyChanges_refl _ s

theorem dispatchField_only (s : State) (t : Telegram) : s.onlyChanges inspectBlocks (s.dispatchField t) :=
  ((inspect_only s t).andThen (onwardField_only _ _ _)).mono (by decide)

theorem unscreenedOrder_only (s : State) (t : Telegram) : s.onlyChanges [.out] (s.unscreenedOrder t) :=
  onlyChanges_ite ((applyAction_only s _ _ _ _).trans (syntheticAck_only _ _ _ _ _ _)) (applyAction_only s _ _ _ _)

theorem dispatchOrder_only (s : State) (t : Telegram) : s.onlyChanges screenBlocks (s.dispatchOrder t) := by
  refine onlyChanges_ite ((advise_only s _ _).mono (by decide)) ?_
  split
  · exact takeOrder_only s _ t
  · exact onlyChanges_ite (onlyChanges_refl _ s) ((unscreenedOrder_only s t).mono (by decide))

end State
end Sys2Proof.Machine
end

section
/-! PROOFS. The pause records through every operation of the part, and every step (O58). -/

namespace Sys2Proof.Machine

namespace State

/-! ### The faults of a publication (R50 to R54) -/

/-- What judging a fault can change. -/
abbrev judgeBlocks : List Block := [.faults, .out, .mode]

theorem judgeWindow_only (s : State) (n : Snapshot) (f : Figures) : s.onlyChanges judgeBlocks (s.judgeWindow n f) :=
  onlyChanges_ite ((judgeFault_only s _ _ _ _).trans (judgeFault_only _ _ _ _ _))
    (((clearFault_only s _ _).trans (clearFault_only _ _ _)).mono (by decide))

theorem judgeDisagree_only (s : State) (n : Snapshot) (f : Figures) : s.onlyChanges judgeBlocks (s.judgeDisagree n f) :=
  onlyChanges_ite (judgeFault_only s _ _ _ _) (onlyChanges_refl _ s)

theorem judgeStressLimit_only (s : State) (n : Snapshot) (f : Figures) :
    s.onlyChanges judgeBlocks (s.judgeStressLimit n f) := judgeFault_only s _ _ _ _

theorem judgeValid_only (s : State) (n : Snapshot) (f : Figures) : s.onlyChanges judgeBlocks (s.judgeValid n f) := by
  unfold judgeValid
  extract_lets a b c
  have hb : s.onlyChanges judgeBlocks b :=
    (((judgeFault_only s _ _ _ _).trans (judgeWindow_only a n f)).trans (judgeDisagree_only _ n f)).trans
      (judgeStressLimit_only _ n f)
  have hc : s.onlyChanges judgeBlocks c := hb.trans ((clearFault_only b _ _).mono (by decide))
  split
  · exact hc.trans ((judgeLag_only c _).mono (by decide))
  · exact hc

theorem publishValid_only (s : State) (h : Header) (f : Figures) : s.onlyChanges [.engine] (s.publishValid h f) :=
  only_engine s _

theorem publishInvalid_only (s : State) (h : Header) : s.onlyChanges [.engine] (s.publishInvalid h) := only_engine s _

namespace reasonsMove

variable {s t : State}

theorem judgeWindow (h : s.reasonsMove t) {n : Snapshot} {f : Figures} : s.reasonsMove (t.judgeWindow n f) :=
  ite h.judgeFault.judgeFault h.clearFault.clearFault

theorem judgeDisagree (h : s.reasonsMove t) {n : Snapshot} {f : Figures} : s.reasonsMove (t.judgeDisagree n f) :=
  ite h.judgeFault h

theorem judgeValid (h : s.reasonsMove t) {n : Snapshot} {f : Figures} : s.reasonsMove (t.judgeValid n f) := by
  unfold State.judgeValid
  extract_lets a b c
  have hc : s.reasonsMove c :=
    (judgeFault (judgeDisagree (judgeWindow (h.judgeFault : s.reasonsMove a)))).clearFault
  split
  · exact hc.judgeFault.judgeFault
  · exact hc

/-- The reasons that follow the faults, before SAFE follows the mode (R82). -/
theorem followFaults (h : s.reasonsMove t) {b a : FollowedFaults} :
    s.reasonsMove (((t.followFault .draft b.draft a.draft).followFault .ballastLag b.lag a.lag).followFault
      .conditionInvalid b.invalid a.invalid) := 
  ((h.followFault (r := .draft) nofun).followFault (r := .ballastLag) nofun).followFault (r := .conditionInvalid) nofun

end reasonsMove

namespace pausesSound

variable {s t : State}

/-! ### Events of one block -/

theorem clearSilent (h : s.pausesSound) : s.clearSilent.pausesSound :=
  have hc := h.calm (clearFault_only s _ _) rfl
  hc.pacingEvent ((reasonsMove.refl _).removeReasonAll nofun) ((removeReasonAll_only _ _).mode (by decide))

theorem signOfLife (h : s.pausesSound) : s.signOfLife.pausesSound := by
  have hw := h.calm (watchShore_only s) rfl
  unfold State.signOfLife
  split
  · exact hw.clearSilent
  · exact hw
  · exact hw

theorem disarmSilence (h : s.pausesSound) : s.disarmSilence.pausesSound := by
  have hd := h.calm (setSilence_only s .disarmed) rfl
  unfold State.disarmSilence
  split
  · exact hd.clearSilent
  · exact hd
  · exact h

theorem silenceExpired (h : s.pausesSound) : s.silenceExpired.pausesSound :=
  have hr := (h.calm (setSilence_only s .silent) rfl).calm
    (raiseFault_keeps_mode _ (k := .shoreSilent) (portCode .shore) fun _ => rfl) rfl
  hr.pacingEvent ((reasonsMove.refl _).addReasonAll nofun) ((addReasonAll_only _ _).mode (by decide))

theorem rebase (h : s.pausesSound) : s.rebase.pausesSound :=
  (h.pacingEvent (f := State.rebaseCursor) (reasonsMove.refl s).rebaseCursor ((rebaseCursor_only s).mode (by decide))).calm
    (modStep_only _ _) rfl

/-- A change of one loader's record that keeps its reasons and does not enter or leave FREE. -/
theorem modPause (h : s.pausesSound) {l : Nat} {f : PauseRec → PauseRec} (hl : l < 4)
    (hf : ((f (s.pause l)).state = .free ↔ (s.pause l).state = .free) ∧ (f (s.pause l)).reasons = (s.pause l).reasons) :
    (s.modPause l f).pausesSound := by
  intro m hm
  by_cases e : m = l
  · subst e
    rw [pause_modPause s m f hm, hf.1, hf.2]
    exact h m hm
  · rw [pause_modPause_other s l m f e]
    exact h m hm

theorem confirmExpired (h : s.pausesSound) {l : Nat} : (s.confirmExpired l).pausesSound := by
  have hraise := fun u : State => raiseFault_keeps_mode u (k := .pauseUnconfirmed) l fun _ => rfl
  by_cases hl : l < 4
  · exact (h.modPause hl ⟨Iff.rfl, rfl⟩).calm (hraise _) rfl
  · have hsame : (s.modPause l fun p => { p with timer := none }) = s := by
      unfold State.modPause
      rw [upd_out_of_range _ _ _ hl]
    unfold State.confirmExpired
    rw [hsame]
    exact h.calm (hraise s) rfl

/-! ### Evaluations (R36 to R40, R82, R193) -/

theorem switchPlan (h : s.pausesSound) : s.switchPlan.pausesSound :=
  have hs := h.calm (switchedPlan_only s) rfl
  ite (hs.calm (relatchReports_only _) rfl).rebase hs

theorem switchSealed (h : s.pausesSound) : s.switchSealed.pausesSound := by
  have ha := ite (p := s.mgmt.ship.isSealed = true) (h.calm (switchShip_only s) rfl) h
  exact ite ha.switchPlan ha

theorem beginEvaluation (h : s.pausesSound) : s.beginEvaluation.pausesSound := by
  have hstarted : s.engineStarts.pausesSound := h.calm (only_engine s _) rfl
  have hbegun := ((hstarted.switchSealed.calm (growUncertainty_only _) rfl).calm (only_engine _ _) rfl :
    s.engineStarts.switchSealed.growUncertainty.engineSnapshots.pausesSound)
  exact ite (hbegun.calm (reexamine_only _) rfl) hbegun

theorem requestEvaluation (h : s.pausesSound) : s.requestEvaluation.pausesSound :=
  ite h (ite (h.calm (only_engine s _) rfl) h.beginEvaluation)

theorem intervalExpired (h : s.pausesSound) : s.intervalExpired.pausesSound :=
  h.requestEvaluation.calm (only_engine _ _) rfl

theorem deadbandTest (h : s.pausesSound) {k : Option Nat} : (s.deadbandTest k).pausesSound := by
  unfold State.deadbandTest
  split
  · exact h
  · exact ite h.requestEvaluation h

theorem tellModeIf (h : s.pausesSound) {m : Mode} : (s.tellModeIf m).pausesSound := h.calm (tellModeIf_only s m) rfl

theorem completeValid (h : s.pausesSound) {n : Snapshot} : (s.completeValid n).pausesSound := by
  unfold State.completeValid
  extract_lets f a b
  have ha : s.reasonsMove a := (reasonsMove.refl s).judgeValid.calm (publishValid_only _ _ _) rfl
  have hb : s.reasonsMove b := reasonsMove.ite (ha.calm (trackPeak_only _ _) rfl) ha
  have hpause : s.onlyChanges [.faults, .out, .mode, .engine, .tracker] b :=
    onlyChanges_ite ((((judgeValid_only s n f).andThen (publishValid_only _ _ _)).andThen (trackPeak_only _ _)).mono
      (by decide)) (((judgeValid_only s n f).andThen (publishValid_only _ _ _)).mono (by decide))
  rw [keeps.pacePublication_some]
  refine calm ?_ (judgeFault_keeps_mode _ (k := .stressBallastDriven) _ _ _ fun _ => rfl) rfl
  refine h.paced (reasonsMove.followFaults (reasonsMove.ite hb.paceCurrent hb)) fun l _ => ?_
  exact congrArg PauseRec.reasons (hpause.pause (by decide) l)

theorem completeInvalid (h : s.pausesSound) {n : Snapshot} : (s.completeInvalid n).pausesSound := by
  unfold State.completeInvalid
  have ha : s.reasonsMove ((s.raiseFault .conditionInvalid subjectNone).publishInvalid (s.headerOf n)) :=
    (reasonsMove.refl s).raiseFault.calm (publishInvalid_only _ _) rfl
  have hpause := (raiseFault_only s .conditionInvalid subjectNone).andThen (publishInvalid_only _ (s.headerOf n))
  rw [keeps.pacePublication_none]
  exact h.paced ha.followFaults fun l _ => congrArg PauseRec.reasons (hpause.pause (by decide) l)

theorem completeEvaluation (h : s.pausesSound) : s.completeEvaluation.pausesSound := by
  have hbegin : ∀ u : State, u.pausesSound →
      ({ u with engine := { u.engine with pending := false } } : State).beginEvaluation.pausesSound :=
    fun u hu => beginEvaluation (hu.calm (only_engine u _) rfl)
  unfold State.completeEvaluation
  split
  case h_1 n _ _ =>
    have hpub : (if s.validNow then s.completeValid n else s.completeInvalid n).pausesSound :=
      ite h.completeValid h.completeInvalid
    have hseen := (hpub.calm (beaconIf_only _ s.sys.mode) rfl).calm (reexamine_only _) rfl
    exact ite (hbegin s h) (ite (hbegin _ hseen) hseen)
  case h_2 => exact h

/-! ### A POUR (R23 to R28, R85 to R89) -/

/-- PAUSE_SENT and PAUSED change places. -/
theorem applyBelt (h : s.pausesSound) {l : Nat} {b : Belt} (hl : l < 4) : (s.applyBelt l b).pausesSound := by
  unfold State.applyBelt
  extract_lets now timer
  split
  case h_1 hstate => exact (h.modPause hl ⟨by simp [hstate], rfl⟩).calm (clearFault_only _ _ _) rfl
  case h_2 hstate => exact (h.modPause hl ⟨by simp [hstate], rfl⟩).calm (clearFault_only _ _ _) rfl
  case h_3 hstate => exact h.modPause hl ⟨by simp [hstate], rfl⟩
  case h_4 => exact h

/-- The mode that a POUR may have changed is the one before its overpour test. -/
theorem pacePour (h : s.pausesSound) {t : State} (ht : s.reasonsMove t) (hm : t.sys.mode = s.sys.mode) {l : Nat} (hl : l < 4)
    {z : Bool} {x : Belt} : (t.pacePour s.reasonSets l z x).pausesSound := by
  unfold State.pacePour
  extract_lets fills a c
  have ha : s.reasonsMove a := reasonsMove.ite ht.fillGrace ht
  refine applyBelt ?_ hl
  dsimp only [c]
  rw [hm]
  exact h.paced ha.judgeOverpour fun _ _ => rfl

theorem processPour (h : s.pausesSound) {f : PourFields} (hl : f.loader < 4) : (s.processPour f).pausesSound := by
  unfold State.processPour
  extract_lets a b
  have ha : a.pausesSound := (h.calm (accountPour_only s f) rfl).deadbandTest
  exact (ha.pacePour (reasonsMove.refl a).trackPour ((trackPour_only a _ _ _).mode (by decide)) hl).tellModeIf


end pausesSound
end State
end Sys2Proof.Machine
end

section
/-! PROOFS. The pause records through mode changes, sessions, requests and commands, up to every step: O58. -/

namespace Sys2Proof.Machine

/-- A POUR that is read names one of the four loaders (R23). -/
theorem readPour_loader {p : List Byte} {f : PourFields} (h : readPour p = some f) : f.loader < 4 := by
  unfold readPour at h
  dsimp only at h
  split at h
  · cases h
  · split at h
    case isTrue hr => exact Option.some.inj h ▸ hr.1
    case isFalse => cases h

theorem ReasonSet.zero_remove (q : Reason) : ReasonSet.remove 0 q = 0 := BitVec.zero_and

theorem ReasonSet.single_remove (q : Reason) : ReasonSet.remove q.single q = 0 := by cases q <;> rfl

theorem ReasonSet.single_ne_zero (q : Reason) : q.single ≠ 0 := by cases q <;> decide

namespace State

/-! ### Pause records at CLOSE_SESSION (R93) -/

/-- In SAFE a loader's episode closes and one for SAFE alone opens. -/
theorem pause_closeLoaderInSafe_eq (s : State) (l m : Nat) :
    (s.closeLoaderInSafe l).pause m = (s.modPause l fun p =>
      { p with reasons := Reason.safe.single, state := p.state.mapEpisode fun _ => safeEpisode s.now, timer := none }).pause
        m := by
  unfold closeLoaderInSafe
  extract_lets others now a b c
  have ha : ∀ i, a.pause i = s.pause i := by
    intro i
    dsimp only [a]
    split
    · exact pause_closeEpisode s l i _
    · rfl
  have hb : b.pause m = (s.modPause l fun p =>
      { p with reasons := Reason.safe.single, state := p.state.mapEpisode fun _ => safeEpisode s.now, timer := none }).pause
        m := by
    dsimp only [b]
    by_cases hm : m = l
    · subst hm
      by_cases h4 : m < 4
      · rw [pause_modPause a m _ h4, pause_modPause s m _ h4, ha]
      · unfold State.modPause
        rw [upd_out_of_range _ _ _ h4, upd_out_of_range _ _ _ h4]
        exact ha m
    · rw [pause_modPause_other a l m _ hm, pause_modPause_other s l m _ hm, ha]
  have hc : c.pause m = b.pause m := ((clearFault_only b _ l).trans (clearFault_only _ _ l)).pause (by decide) m
  split
  · exact ((sendPause_only c l).pause (by decide) m).trans (hc.trans hb)
  · exact hc.trans hb

theorem closeLoaderInSafe_only (s : State) (l : Nat) :
    s.onlyChanges [.out, .reports, .pacing, .faults] (s.closeLoaderInSafe l) := by
  unfold closeLoaderInSafe
  extract_lets others now a b c
  have ha : s.onlyChanges [.out, .reports, .pacing] a := by
    dsimp only [a]
    split
    · exact closeEpisode_only s l _
    · exact onlyChanges_refl _ s
  have hc : s.onlyChanges [.out, .reports, .pacing, .faults] c :=
    (((ha.andThen (modPause_only a l _)).andThen (clearFault_only b _ l)).andThen (clearFault_only _ _ l)).mono (by decide)
  exact onlyChanges_ite ((hc.andThen (sendPause_only c l)).mono (by decide)) hc

/-- What the pacing block at CLOSE_SESSION leaves of a loader's record. -/
theorem pause_closePacing_safe {s : State} (hmode : s.sys.mode = .safe) {l : Nat} (hl : l < 4) :
    s.closePacing.pause l = { s.pause l with
      reasons := Reason.safe.single, state := (s.pause l).state.mapEpisode fun _ => safeEpisode s.now, timer := none } := by
  unfold closePacing
  rw [if_pos hmode]
  refine pause_forEach_loaders (f := fun l s => s.closeLoaderInSafe l) (I := fun u => u.now = s.now)
    (g := fun _ p =>
      { p with reasons := Reason.safe.single, state := p.state.mapEpisode fun _ => safeEpisode s.now, timer := none })
    (fun i u _ hu => ((closeLoaderInSafe_only u i).now (by decide)).trans hu) (fun i u hi hu => ?_)
    (fun i u j hj => ?_) rfl hl
  · rw [pause_closeLoaderInSafe_eq, pause_modPause u i _ hi, hu]
  · rw [pause_closeLoaderInSafe_eq, pause_modPause_other u i j _ hj]

theorem reasons_closePacing {s : State} (hmode : s.sys.mode ≠ .safe) {l : Nat} (hl : l < 4) :
    (s.closePacing.pause l).reasons = 0 := by
  unfold closePacing
  rw [if_neg hmode, reasons_pacingEvent s _ hl, pause_clearReasons s hl]

theorem closePacing_only (s : State) : s.onlyChanges [.out, .reports, .pacing, .faults, .tracker] s.closePacing :=
  onlyChanges_ite
    ((onlyChanges_forEach _ _ (fun l u => closeLoaderInSafe_only u l) s).mono (by decide))
    ((pacingEvent_only s _ (clearReasons_only s)).mono (by decide))

/-- No loader holds a reason other than SAFE. -/
def onlySafe (s : State) : Prop := ∀ l < 4, (s.pause l).reasons.remove .safe = 0

theorem onlySafe_closePacing (s : State) : s.closePacing.onlySafe := by
  intro l hl
  by_cases hmode : s.sys.mode = .safe
  · rw [pause_closePacing_safe hmode hl]
    exact ReasonSet.single_remove .safe
  · rw [reasons_closePacing hmode hl]
    exact ReasonSet.zero_remove .safe

theorem onlySafe.of_only {s t : State} (h : s.onlySafe) {bs : List Block} (k : s.onlyChanges bs t)
    (hb : Block.pacing ∉ bs) : t.onlySafe := fun l hl => by
  rw [k.pause hb]
  exact h l hl

/-- Reasons that leave bring no other. -/
theorem onlySafe.clearSilent {s : State} (h : s.onlySafe) : s.clearSilent.onlySafe := by
  intro l hl
  unfold State.clearSilent
  rw [reasons_pacingEvent _ _ hl, pause_removeReasonAll _ _ hl, (clearFault_only s _ _).pause (by decide)]
  have hnone := ReasonSet.remove_eq_zero_iff.1 (h l hl)
  refine ReasonSet.remove_eq_zero_iff.2 fun r hr => hnone r ?_
  rw [ReasonSet.has_remove, Bool.and_eq_true] at hr
  exact hr.1

theorem onlySafe.disarmSilence {s : State} (h : s.onlySafe) : s.disarmSilence.onlySafe := by
  have hd : (s.setSilence .disarmed).onlySafe := h.of_only (setSilence_only s _) (by decide)
  unfold State.disarmSilence
  split
  · exact hd.clearSilent
  · exact hd
  · exact h

/-- The session flag cleared changes the mode, the session and the snapshot's mark. -/
theorem markClosed_only (s : State) : s.onlyChanges [.mode, .session, .engine] s.markClosed := by
  intro b hb; cases b <;> simp_all [agree, markClosed]

theorem markOpen_only (s : State) (n : Nat) : s.onlyChanges [.mode, .session] (s.markOpen n) := by
  intro b hb; cases b <;> simp_all [agree, markOpen]

namespace pausesSound

variable {s t : State}

theorem takePour (h : s.pausesSound) {p : List Byte} : (s.takePour p).pausesSound := by
  have hadvise := fun k x => h.calm (advise_only s k x) rfl
  unfold State.takePour
  split
  case h_1 => exact hadvise _ _
  case h_2 f hf => exact ite (hadvise _ _) (ite (h.processPour (readPour_loader hf)) (hadvise _ _))

theorem takeShore (h : s.pausesSound) {x : Telegram} : (s.takeShore x).pausesSound :=
  ite h.signOfLife.takePour h.signOfLife

/-! ### Mode changes outside SAFE (R169, R170, R176) -/

theorem remode (h : s.pausesSound) {bs : List Block} (k : s.onlyChanges bs t) (hpacing : Block.pacing ∉ bs)
    (hsession : Block.session ∉ bs) (hs : s.sys.mode ≠ .safe) (ht : t.sys.mode ≠ .safe) : t.pausesSound := by
  intro l hl
  obtain ⟨hfree, hsafe, hclosed⟩ := h l hl
  rw [k.pause hpacing, k.sessionOpen hsession]
  exact ⟨hfree, hsafe.trans (iff_of_false hs ht), hclosed⟩

theorem enterCircuit (h : s.pausesSound) (hs : s.sys.mode ≠ .safe) {m : Mode} (hm : m ≠ .safe) :
    (s.enterCircuit m).pausesSound :=
  h.remode (enterCircuit_only s m) (by decide) (by decide) hs (by rwa [enterCircuit_mode])

theorem endSettle (h : s.pausesSound) (hs : s.sys.mode ≠ .safe) : s.endSettle.pausesSound :=
  (h.calm (loadStore_only s) rfl).enterCircuit (by rwa [(loadStore_only s).mode (by decide)]) (by split <;> nofun)

theorem reloadAfterFault (h : s.pausesSound) (hs : s.sys.mode ≠ .safe) : s.reloadAfterFault.pausesSound := by
  have hloaded := h.calm (loadStore_only s) rfl
  exact ite (hloaded.enterCircuit (by rwa [(loadStore_only s).mode (by decide)]) nofun) hloaded

theorem leaveUnconfigured (h : s.pausesSound) (hs : s.sys.mode ≠ .safe) : s.leaveUnconfigured.pausesSound :=
  h.remode (leaveUnconfigured_only s) (by decide) (by decide) hs (by rw [leaveUnconfigured_mode]; nofun)

/-! ### Sessions (R92, R93, R171, R172, R174) -/

theorem markOpen (h : s.pausesSound) (hm : s.sys.mode = .standby) {n : Nat} : (s.markOpen n).pausesSound := fun l hl =>
  ⟨(h l hl).1, (h l hl).2.1.trans (iff_of_false (by rw [hm]; nofun) nofun), nofun⟩

theorem openPacing (h : s.pausesSound) : s.openPacing.pausesSound := by
  unfold State.openPacing
  extract_lets p z
  have hz : z.pausesSound := h
  clear_value z
  have hmove : ∀ u : State, z.reasonsMove u → ∀ r, r ≠ .safe → z.reasonsMove (u.addReasonAll r) :=
    fun u hu r hr => hu.addReasonAll hr
  refine hz.pacingEvent ?_ ?_
  · extract_lets a b
    have ha : z.reasonsMove a := hmove z (.refl z) _ nofun
    have hb : z.reasonsMove b := .ite (hmove a ha _ nofun) ha
    exact .ite (hmove b hb _ nofun) hb
  · extract_lets a b
    have ha : z.onlyChanges [.pacing] a := addReasonAll_only z _
    have hb : z.onlyChanges [.pacing] b := onlyChanges_ite (ha.trans (addReasonAll_only a _)) ha
    exact (onlyChanges_ite (hb.trans (addReasonAll_only b _)) hb).mode (by decide)

theorem openSession (h : s.pausesSound) (hm : s.sys.mode = .standby) {n : Nat} : (s.openSession n).pausesSound := by
  unfold State.openSession
  extract_lets a b
  have ha : a.pausesSound :=
    (((h.markOpen hm).calm (openAccount_only _) rfl).calm (openTracking_only _) rfl).calm (latchReports_only _) rfl
  have hb : b.pausesSound := (ha.calm (makeSessionOpen_only _ _ _ _) rfl).calm (startConditionTimer_only _) rfl
  exact hb.openPacing.requestEvaluation.calm (tellMode_only _) rfl

/-- In SAFE every loader is paused for SAFE alone, else every loader is released. -/
theorem closePacing (h : s.pausesSound) : s.closePacing.pausesSound := by
  by_cases hmode : s.sys.mode = .safe
  · intro l hl
    have hfree : (s.pause l).state ≠ .free := fun hf => by
      have hzero := (h l hl).1.1 hf
      have hsafe := (h l hl).2.1.2 hmode
      rw [hzero, ReasonSet.has_zero] at hsafe
      cases hsafe
    rw [(closePacing_only s).mode (by decide), pause_closePacing_safe hmode hl]
    exact ⟨iff_of_false (fun hf => hfree ((mapEpisode_free _ _).1 hf)) (ReasonSet.single_ne_zero .safe),
      iff_of_true ((ReasonSet.has_single .safe .safe).trans rfl) hmode, fun _ => ReasonSet.single_remove .safe⟩
  · unfold State.closePacing
    rw [if_neg hmode]
    have hcleared := fun l hl => pause_clearReasons s (l := l) hl
    refine actOn (fun l hl => ?_) (fun l hl => ?_) fun _ l hl => ?_
    · rw [hcleared l hl]; exact (h l hl).1
    · rw [hcleared l hl, (clearReasons_only s).mode (by decide)]
      exact iff_of_false (Bool.eq_false_iff.1 (ReasonSet.has_zero .safe)) hmode
    · rw [hcleared l hl]
      exact ReasonSet.zero_remove .safe

/-- With nothing but SAFE held, the session can close. -/
theorem markClosed (h : s.pausesSound) (honly : s.onlySafe) : s.markClosed.pausesSound := by
  intro l hl
  obtain ⟨hfree, hsafe, -⟩ := h l hl
  refine ⟨hfree, hsafe.trans ?_, fun _ => honly l hl⟩
  show s.sys.mode = .safe ↔ (if s.sys.mode = .loading then Mode.standby else s.sys.mode) = .safe
  split
  case isTrue hm => rw [hm]; exact iff_of_false nofun nofun
  case isFalse => exact Iff.rfl

theorem closeSession (h : s.pausesSound) : s.closeSession.pausesSound := by
  have hpaced := (h.calm (closeTanks_only s) rfl).closePacing.calm (makeSessionClose_only _) rfl
  have honly := (onlySafe_closePacing s.closeTanks).of_only (makeSessionClose_only _) (by decide)
  unfold State.closeSession
  generalize s.closeTanks.closePacing.makeSessionClose = a at hpaced honly ⊢
  have haccount : a.closeAccount.pausesSound := (hpaced.calm (only_shore a _) rfl).disarmSilence
  have honly' : a.closeAccount.onlySafe := (honly.of_only (only_shore a _) (by decide)).disarmSilence
  have hreports := (haccount.calm (closeTracking_only _) rfl).calm (closeReports_only _) rfl
  exact (hreports.markClosed ((honly'.of_only (closeTracking_only _) (by decide)).of_only (closeReports_only _)
    (by decide))).tellModeIf

/-- SAFE left: the reason leaves every loader. -/
theorem clearSafe (h : s.pausesSound) : s.clearSafe.pausesSound := by
  unfold State.clearSafe
  have hmode : ∀ m : Mode, m ≠ .safe → ((s.setMode m).pacingEvent fun s => s.removeReasonAll .safe).pausesSound := by
    intro m hm
    have hremoved := fun l hl => pause_removeReasonAll (s.setMode m) .safe (l := l) hl
    refine actOn (fun l hl => ?_) (fun l hl => ?_) fun hc l hl => ?_
    · rw [hremoved l hl]; exact (h l hl).1
    · rw [hremoved l hl, ReasonSet.has_remove, (removeReasonAll_only _ _).mode (by decide)]
      exact iff_of_false (by simp) hm
    · rw [(removeReasonAll_only _ _).sessionOpen (by decide)] at hc
      rw [hremoved l hl]
      have hz : (((s.setMode m).pause l).reasons).remove .safe = 0 := (h l hl).2.2 hc
      rw [hz]
      exact ReasonSet.zero_remove .safe
  exact (hmode _ (by split <;> nofun)).calm (tellMode_only _) rfl

/-! ### The scrub (R175, R176) -/

/-- A state whose loaders are all reset, outside SAFE. -/
theorem of_reset (hp : t.pacing = Pacing.reset) (hm : t.sys.mode ≠ .safe) : t.pausesSound := by
  intro l hl
  have hl' : t.pause l = PauseRec.reset := by
    unfold State.pause
    rw [hp]
    simp [nth, Pacing.reset]
  rw [hl']
  exact ⟨iff_of_true rfl rfl, iff_of_false (by decide) hm, fun _ => rfl⟩

theorem afterRaising (h : s.pausesSound) {a : State} (ha : s.reasonsMove a) (hp : ∀ l, a.pause l = s.pause l) :
    (a.afterRaising s.sys.mode).pausesSound :=
  (h.paced ha (b := a.reasonSets) (f := none) fun l _ => congrArg PauseRec.reasons (hp l)).tellModeIf

theorem raiseTableFault (h : s.pausesSound) {c : TableCode} : (s.raiseTableFault c).pausesSound := by
  refine ite h (h.afterRaising ((reasonsMove.refl s).raiseFault.calm (only_engine _ _) rfl) fun l => ?_)
  exact ((raiseFault_only s .tableFault c.code).andThen (only_engine _ _)).pause (by decide) l

theorem scrub (h : s.pausesSound) : s.scrub.pausesSound :=
  have hnext : ({ s with mgmt := { s.mgmt with scrubPos := s.mgmt.scrubPos.next, scrubAt := some (s.now + 1) } } :
      State).pausesSound := h
  ite hnext (ite hnext.raiseTableFault (of_reset rfl nofun))

/-! ### Requests (chapter 11) -/

theorem ite_fst {p : Prop} [Decidable p] {a b : Served} (ha : a.1.pausesSound) (hb : b.1.pausesSound) :
    (if p then a else b).1.pausesSound := by
  split <;> assumption

theorem commitShip (h : s.pausesSound) : s.commitShip.1.pausesSound := by
  have hsealed := h.calm (sealShip_only s) rfl
  unfold State.commitShip
  refine ite_fst h (ite_fst h (ite_fst h ?_))
  split
  · exact h
  dsimp only
  split
  case isTrue hun =>
    refine (hsealed.calm (switchShip_only _) rfl).leaveUnconfigured ?_
    rw [switchShip_mode, (sealShip_only s).mode (by decide), unconfigured_iff.1 hun]
    nofun
  case isFalse => exact hsealed.requestEvaluation

theorem commitPlan (h : s.pausesSound) : s.commitPlan.1.pausesSound := by
  unfold State.commitPlan
  refine ite_fst h (ite_fst h ?_)
  split
  · exact h
  · exact (h.calm (sealPlan_only s) rfl).requestEvaluation

theorem doCommit (h : s.pausesSound) {args : List Byte} : (s.doCommit args).1.pausesSound := by
  unfold State.doCommit
  split
  · exact ite_fst h.commitShip (ite_fst h.commitPlan h)
  · exact h

theorem reloadShip (h : s.pausesSound) : s.reloadShip.pausesSound := by
  unfold State.reloadShip
  extract_lets a b c
  have hframe : s.onlyChanges ([.ship, .store, .engine] ++ [.faults, .out] ++ reactBlocks) a :=
    ((replaceShip_only s).andThen (clearTableFaults_only _)).andThen (reactToShip_only _ _)
  have ha : a.pausesSound := h.calm hframe rfl
  have hc : c.pausesSound := ha.calm (reexamine_only _) rfl
  split
  case isTrue hun =>
    refine (ha.leaveUnconfigured ?_).requestEvaluation
    rw [hframe.mode (by decide), unconfigured_iff.1 hun]
    nofun
  case isFalse => exact ite hc hc.requestEvaluation

theorem doReload (h : s.pausesSound) {args : List Byte} : (s.doReload args).1.pausesSound := by
  refine ite_fst h (ite_fst h (ite_fst h (ite_fst h ?_)))
  split
  · exact h
  · exact h.reloadShip

theorem doManual (h : s.pausesSound) {args : List Byte} {f : Nat → State → State}
    (hf : ∀ l, s.reasonsMove (f l s)) (hm : ∀ l, (f l s).sys.mode = s.sys.mode) : (s.doManual args f).1.pausesSound := by
  unfold State.doManual
  split
  · exact ite_fst h (ite_fst h (h.pacingEvent (hf _) (hm _)))
  · exact h

theorem doOpenSession (h : s.pausesSound) {args : List Byte} : (s.doOpenSession args).1.pausesSound := by
  unfold State.doOpenSession
  dsimp only
  refine ite_fst h ?_
  split
  case isTrue => exact h
  case isFalse hm => exact ite_fst h (ite_fst h (ite_fst h (ite_fst h (h.openSession (not_not.1 hm)))))

theorem serve (h : s.pausesSound) {src seq : Byte} {code : Nat} {args : List Byte} :
    (s.serve src seq code args).1.pausesSound := by
  have same : ∀ {r : Served}, r.1 = s → r.1.pausesSound := fun hr => hr ▸ h
  exact ite_fst (same (doReadStatus_fst s args)) <| ite_fst (h.calm (doSetTime_only s args) rfl) <|
    ite_fst (h.calm (doWriteTable_only s args) rfl) <| ite_fst (same (doReadTable_fst s args)) <| ite_fst h.doCommit <|
    ite_fst (h.calm (doStore_only s src seq args) rfl) <| ite_fst h.doReload <| ite_fst (same (doReset_fst s args)) <|
    ite_fst (ite_fst h (ite_fst h h.requestEvaluation)) <| ite_fst (same (doReadTank_fst s args)) <|
    ite_fst (same (doReadStation_fst s args)) <| ite_fst (h.calm (doSetStationService_only s args) rfl) <|
    ite_fst (h.calm (doReadCondition_only s args) rfl) <| ite_fst (h.calm (doSetFixedWeight_only s args) rfl) <|
    ite_fst (h.doManual (fun _ => (reasonsMove.refl s).addReason nofun) fun _ => (addReason_only s _ _).mode (by decide)) <|
    ite_fst (h.doManual (fun _ => (reasonsMove.refl s).removeReason nofun) fun _ =>
      (removeReason_only s _ _).mode (by decide)) <|
    ite_fst h.doOpenSession <| ite_fst (ite_fst h (ite_fst h.closeSession h)) <| ite_fst (ite_fst h (ite_fst h h.clearSafe)) <|
    ite_fst (h.calm (doAckFault_only s args) rfl) <| ite_fst (same (doReadFaults_fst s args)) <|
    ite_fst (same (doReadReport_fst s args)) h

theorem takeRequest (h : s.pausesSound) {src seq code : Byte} {args : List Byte} :
    (s.takeRequest src seq code args).pausesSound := (h.serve (args := args)).calm (fst_answer_only _ src seq code) rfl

/-! ### Passage (chapter 6) -/

theorem dispatchConsole (h : s.pausesSound) {x : Telegram} : (s.dispatchConsole x).pausesSound :=
  ite (ite h.takeRequest (h.calm (countMisdirected_only s _) rfl))
    (ite (h.calm (dispatchOrder_only s x) rfl) (ite h (h.calm (applyAction_only s _ _ _ _) rfl)))

theorem dispatchShore (h : s.pausesSound) {x : Telegram} : (s.dispatchShore x).pausesSound :=
  ite (ite h.takeShore h) (h.calm (countMisdirected_only s _) rfl)

theorem dispatchDefault (h : s.pausesSound) {p : Port} {x : Telegram} : (s.dispatchDefault p x).pausesSound := by
  cases p with
  | console => exact ite h.takeRequest (h.calm (send_only s _ _) rfl)
  | field => exact ite (h.calm (countMisdirected_only s _) rfl) (h.calm (send_only s _ _) rfl)
  | shore => exact h.dispatchShore

theorem dispatch (h : s.pausesSound) {p : Port} {x : Telegram} : (s.dispatch p x).pausesSound := by
  refine ite (h.calm (discardForeign_only s p) rfl) (ite ?_ h.dispatchDefault)
  cases p with
  | console => exact h.dispatchConsole
  | field => exact h.calm (dispatchField_only s x) rfl
  | shore => exact h.dispatchShore

theorem receive (h : s.pausesSound) {p : Port} {x : Telegram} : (s.receive p x).pausesSound :=
  ite h (ite (h.calm (countAccepted_only s p) rfl).dispatch (h.calm (discardBad_only s p) rfl))

theorem receiveFrame (h : s.pausesSound) {p : Port} {bs : List Byte} : (s.receiveFrame p bs).pausesSound := by
  unfold State.receiveFrame
  split
  · exact h.receive
  · exact ite h (h.calm (discardBad_only s p) rfl)

/-! ### Commands -/

theorem resetNow (c : ResetCause) (s : State) : (s.resetNow c).pausesSound := of_reset rfl nofun

theorem performDue (h : s.pausesSound) : s.performDue.pausesSound := ite (resetNow _ s) h

/-- A command's effect on a sound part that has performed a reset that was due. -/
theorem act (hm : s.modeSound) (h : s.pausesSound) {f : State → State}
    (hf : ∀ u : State, u.modeSound → u.pausesSound → (f u).pausesSound) : (act f s).pausesSound :=
  ite (hf _ ((keeps.refl s).performDue.mode hm) h.performDue) h

theorem onDue (h : s.pausesSound) {due : State → Bool} {f : State → State} (hf : due s = true → (f s).pausesSound) :
    (onDue due f s).pausesSound := by
  unfold Machine.onDue
  split
  case isTrue hdue => exact hf hdue
  case isFalse => exact h

theorem exec {i : Instr} (hm : s.modeSound) (h : s.pausesSound) (he : exec i s = .next t) : t.pausesSound := by
  have receive : ∀ {p x}, (Machine.act (State.receive · p x) s).pausesSound := h.act hm fun _ _ hu => hu.receive
  have request : ∀ {src seq code args}, (Machine.act (State.request · src seq code args) s).pausesSound :=
    h.act hm fun _ _ hu => hu.receive
  have timer : ∀ {due : State → Bool} {f : State → State}, (∀ u : State, u.pausesSound → (f u).pausesSound) →
      (Machine.act (Machine.onDue due f) s).pausesSound := fun hf => h.act hm fun u _ hu => hu.onDue fun _ => hf u hu
  cases i <;> obtain rfl := Host.Outcome.next.inj he
  case powerOn => exact resetNow _ s
  case powerLoss => exact of_reset rfl nofun
  case supplyDip => exact ite (resetNow _ s) h
  case commandedReset => exact ite h.performDue h
  case settleEnd =>
    refine h.act hm fun u hum hu => hu.onDue fun hdue => hu.endSettle ?_
    simp only [settleDue, Bool.and_eq_true, beq_iff_eq] at hdue
    rw [hum.1 (.inl (Option.isSome_of_mem hdue.2))]
    nofun
  case tableFaultReload =>
    refine h.act hm fun u hum hu => hu.onDue fun hdue => hu.reloadAfterFault ?_
    simp only [reloadDue, Bool.and_eq_true, beq_iff_eq] at hdue
    rw [hum.1 (.inr (Option.isSome_of_mem hdue.2))]
    nofun
  case frameReceive => exact h.act hm fun _ _ hu => hu.receiveFrame
  case transmissionEnd => exact h.act hm fun u _ hu => hu.calm (endTransmission_only u _) rfl
  case gaugeTimeout => exact timer fun u hu => (hu.calm (gaugeTimedOut_only u _) rfl).calm (judgeDryRuns_only _) rfl
  case stillIntervalExpiry => exact timer fun u hu => hu.calm (stillExpired_only u _) rfl
  case shoreSilenceExpiry => exact timer fun _ hu => hu.silenceExpired
  case beaconTimerExpiry => exact timer fun u hu => hu.calm (sendBeacon_only u) rfl
  case evaluationIntervalExpiry => exact timer fun _ hu => hu.intervalExpired
  case evaluationComplete => exact h.act hm fun _ _ hu => hu.completeEvaluation
  case presenceTimeout => exact timer fun u hu => hu.calm (presenceTimedOut_only u _) rfl
  case ackTimeout => exact timer fun u hu => hu.calm (ackTimedOut_only u _) rfl
  case holdDeadline => exact timer fun u hu => hu.calm (holdExpired_only u _) rfl
  case startLimitDeadline => exact timer fun u hu => hu.calm (startLimitExpired_only u) rfl
  case dryRunTrip => exact timer fun u hu => hu.calm (dryTrip_only u _) rfl
  case confirmTimerExpiry => exact timer fun _ hu => hu.confirmExpired
  case conditionTimerExpiry => exact timer fun u hu => hu.calm (conditionExpired_only u) rfl
  case scrubCheck => exact timer fun _ hu => hu.scrub
  case alarmPulseToggle => exact timer fun u hu => hu.calm (toggleAlarm_only u) rfl
  case storeWritingEnd => exact h.act hm fun u _ hu => hu.calm (endStore_only u) rfl
  case sounding | draft | state | ack | order | pour | shoreBeacon => exact receive
  all_goals exact request

/-- A second that passes touches the clock and the timers of BYPASS. -/
theorem advanceSecond (h : s.pausesSound) : s.advanceSecond.pausesSound := ite h (ite h h)

theorem step (hm : s.modeSound) (h : s.pausesSound) (he : step s = .next t) : t.pausesSound := by
  unfold Machine.step at he
  split at he
  case h_1 c rest _ =>
    have hqueue : ({ s with pending := rest } : State).pausesSound := h
    exact hqueue.exec (s := { s with pending := rest }) hm he
  case h_2 =>
    split at he
    · exact h.exec hm he
    · obtain rfl := Host.Outcome.next.inj he
      exact h.advanceSecond

end pausesSound
end State

/-- Settles O58. -/
theorem everyStepKeepsPausesSound : Obligations.EveryStepKeepsPausesSound :=
  fun _ _ ⟨hmode, hpauses⟩ h => ⟨(State.step_keeps h).mode hmode, hpauses.step hmode h⟩

end Sys2Proof.Machine
end

section
/-! PROOFS. The pour account (chapter 2): what a POUR does to the loader and hold records, and the conservation of
tonnage by every step (R21, R24 to R27, R29 to R31; O59). -/

namespace Sys2Proof.Machine

/-- A sum over a range after one term has changed. -/
theorem sum_range_changed {n l : Nat} {g g' : Nat → Int} (hl : l < n) (h : ∀ m < n, m ≠ l → g' m = g m) :
    ((List.range n).map g').sum = ((List.range n).map g).sum + (g' l - g l) := by
  induction n with
  | zero => exact absurd hl (Nat.not_lt_zero l)
  | succ n ih =>
    simp only [List.range_succ, List.map_append, List.map_cons, List.map_nil, List.sum_append, List.sum_singleton]
    by_cases hn : l = n
    · subst hn
      have hsame : (List.range l).map g' = (List.range l).map g :=
        List.map_congr_left fun m hm => h m (by have := List.mem_range.1 hm; omega) (by have := List.mem_range.1 hm; omega)
      rw [hsame]
      omega
    · rw [ih (by omega) fun m hm => h m (by omega), h n (by omega) (Ne.symm hn)]
      omega

namespace State

/-! ### One POUR (R24 to R27) -/

/-- The tonnage that a POUR of a loader at a cumulative leaves without a hold (R26). -/
def loose (s : State) (l c : Nat) : Int :=
  if (s.loader l).spout = none then ((c - (s.loader l).lastCum : Nat) : Int) else 0

/-- The tonnage that a POUR of a loader at a cumulative brings a hold (R25). -/
def brought (s : State) (l c k : Nat) : Int :=
  if (s.loader l).spout = some k then ((c - (s.loader l).lastCum : Nat) : Int) else 0

theorem shore_chargeNone (s : State) (l d : Nat) : (s.chargeNone l d).shore =
    { s.shore with
      loaders := upd s.shore.loaders l fun r => { r with unattributed := r.unattributed + d }
      unattributed := s.shore.unattributed + d } :=
  (raiseFault_only _ _ _).shore (by decide)

theorem charge_some {s : State} {l c h : Nat} (hs : (s.loader l).spout = some h) :
    s.charge l c = (s.chargeHold h (c - (s.loader l).lastCum)).setCumulative l c := by
  unfold charge
  rw [hs]

theorem charge_none {s : State} {l c : Nat} (hs : (s.loader l).spout = none) :
    s.charge l c = (if c - (s.loader l).lastCum = 0 then s else s.chargeNone l (c - (s.loader l).lastCum)).setCumulative l c := by
  unfold charge
  rw [hs]

theorem spout_cases (s : State) (l : Nat) : (s.loader l).spout = none ∨ ∃ h, (s.loader l).spout = some h :=
  Option.eq_none_or_eq_some _

theorem loose_none {s : State} {l : Nat} (hs : (s.loader l).spout = none) (c : Nat) :
    s.loose l c = ((c - (s.loader l).lastCum : Nat) : Int) := if_pos hs

theorem loose_some {s : State} {l h : Nat} (hs : (s.loader l).spout = some h) (c : Nat) : s.loose l c = 0 :=
  if_neg (by rw [hs]; nofun)

theorem brought_none {s : State} {l : Nat} (hs : (s.loader l).spout = none) (c k : Nat) : s.brought l c k = 0 :=
  if_neg (by rw [hs]; nofun)

theorem brought_same {s : State} {l h : Nat} (hs : (s.loader l).spout = some h) (c : Nat) :
    s.brought l c h = ((c - (s.loader l).lastCum : Nat) : Int) := if_pos hs

theorem brought_other {s : State} {l h k : Nat} (hs : (s.loader l).spout = some h) (hk : k ≠ h) (c : Nat) :
    s.brought l c k = 0 := if_neg (by rw [hs]; exact fun e => hk (Option.some.inj e).symm)

/-- The charged loader's record. -/
theorem loader_charge {s : State} {l : Nat} (hl : l < 4) (c : Nat) : (s.charge l c).loader l =
    { s.loader l with
      lastCum := c, sessionTonnage := (c : Int) - ((s.loader l).baseline : Int)
      unattributed := (s.loader l).unattributed + s.loose l c } := by
  obtain hs | ⟨h, hs⟩ := s.spout_cases l
  · rw [charge_none hs, loose_none hs]
    refine (loader_modLoader _ _ _ hl).trans ?_
    split
    case isTrue hd => rw [hd, Nat.cast_zero, add_zero]
    case isFalse =>
      have hrec : (s.chargeNone l (c - (s.loader l).lastCum)).loader l
          = { s.loader l with unattributed := (s.loader l).unattributed + (c - (s.loader l).lastCum : Nat) } := by
        unfold loader
        rw [shore_chargeNone]
        exact nth_upd_same _ _ _ _ hl
      rw [hrec]
  · rw [charge_some hs, loose_some hs, add_zero]
    exact loader_modLoader _ _ _ hl

theorem loader_charge_other {s : State} {l m : Nat} (hm : m ≠ l) (c : Nat) : (s.charge l c).loader m = s.loader m := by
  obtain hs | ⟨h, hs⟩ := s.spout_cases l
  · rw [charge_none hs]
    refine (loader_modLoader_other _ _ _ _ hm).trans ?_
    split
    · rfl
    · unfold loader
      rw [shore_chargeNone]
      exact nth_upd_other _ _ _ _ _ hm
  · rw [charge_some hs]
    exact loader_modLoader_other _ _ _ _ hm

/-- The hold records after a charge: the delta is in the hold that was the loader's spout. -/
theorem hold_charge (s : State) (l c : Nat) {k : Nat} (hk : k < 10) : (s.charge l c).hold k =
    { s.hold k with
      attributed := (s.hold k).attributed + s.brought l c k, mass := (s.hold k).mass + s.brought l c k } := by
  obtain hs | ⟨h, hs⟩ := s.spout_cases l
  · rw [charge_none hs, brought_none hs, add_zero, add_zero]
    split
    · rfl
    · show ((s.chargeNone l _).setCumulative l c).hold k = s.hold k
      unfold hold setCumulative
      rw [modLoader_shore, shore_chargeNone]
  · rw [charge_some hs]
    by_cases hkh : k = h
    · subst hkh
      rw [brought_same hs]
      exact hold_modHold s k _ hk
    · rw [brought_other hs hkh, add_zero, add_zero]
      exact hold_modHold_other s h k _ hkh

theorem unattributed_charge (s : State) (l c : Nat) :
    (s.charge l c).shore.unattributed = s.shore.unattributed + s.loose l c := by
  obtain hs | ⟨h, hs⟩ := s.spout_cases l
  · rw [charge_none hs, loose_none hs]
    split
    case isTrue hd =>
      rw [hd, Nat.cast_zero, add_zero]
      rfl
    case isFalse =>
      unfold setCumulative
      rw [modLoader_shore, shore_chargeNone]
  · rw [charge_some hs, loose_some hs, add_zero]
    rfl

/-- Neither the silence supervision nor the beacon timer. -/
theorem silence_charge (s : State) (l c : Nat) :
    (s.charge l c).shore.silence = s.shore.silence ∧ (s.charge l c).shore.beaconAt = s.shore.beaconAt := by
  obtain hs | ⟨h, hs⟩ := s.spout_cases l
  · rw [charge_none hs]
    split
    · exact ⟨rfl, rfl⟩
    · unfold setCumulative
      rw [modLoader_shore, shore_chargeNone]
      exact ⟨rfl, rfl⟩
  · rw [charge_some hs]
    exact ⟨rfl, rfl⟩

namespace tonnageSound

variable {s t : State}

/-! ### What keeps the account -/

/-- The account left alone, where the session stays and no ship group is sealed. -/
theorem same (h : s.tonnageSound) (hloaders : t.shore.loaders = s.shore.loaders) (hholds : t.shore.holds = s.shore.holds)
    (hun : t.shore.unattributed = s.shore.unattributed) (hsession : t.sys.sessionOpen = s.sys.sessionOpen)
    (hsealed : s.sys.sessionOpen = true → t.mgmt.ship.isSealed = s.mgmt.ship.isSealed) : t.tonnageSound := by
  have hl : ∀ i, t.loader i = s.loader i := fun i => by unfold loader; rw [hloaders]
  have hh : ∀ i, t.hold i = s.hold i := fun i => by unfold hold; rw [hholds]
  refine ⟨fun i hi => ?_, fun i hi k hk => ?_, fun i hi => ?_, fun i hi hb => ?_, fun ho => ?_, fun ho => ?_, fun ho => ?_⟩
  · rw [hh]; exact h.balanced i hi
  · rw [hl] at hk; exact h.spout i hi k hk
  · rw [hl]; exact h.tonnage i hi
  · rw [hl] at hb ⊢; exact h.fresh i hi hb
  · rw [hsession] at ho
    rw [hsealed ho]; exact h.unsealed ho
  · rw [hsession] at ho
    simp only [sumLoaders, hl, hh, hun]
    exact h.conserved ho
  · rw [hsession] at ho
    simp only [sumLoaders, hl, hun]
    exact h.unattributed ho

/-- The blocks that the account's invariant does not speak of. -/
abbrev offBlocks : List Block :=
  [.pending, .mode, .supply, .clock, .out, .faults, .plan, .store, .scrub, .tanks, .engine, .tracker, .pacing, .stations,
    .screen, .reports]

/-- A frame of blocks off the account. -/
theorem off (h : s.tonnageSound) {l : List Block} (k : s.onlyChanges l t) (hl : l.all (offBlocks.contains ·) = true) :
    t.tonnageSound := by
  have hk := k.mono fun b hb => List.contains_iff_mem.mp (List.all_eq_true.mp hl b hb)
  have hshore := hk.shore (by decide)
  exact h.same (by rw [hshore]) (by rw [hshore]) (by rw [hshore]) (hk.sessionOpen (by decide)) fun _ => by
    rw [hk.shipGroup (by decide)]

theorem ite {p : Prop} [Decidable p] (h : s.tonnageSound) (k : t.tonnageSound) : (if p then s else t).tonnageSound := by
  split <;> assumption

/-- Outside a session only the records themselves are bound. -/
theorem closed (h : s.tonnageSound) (hloaders : t.shore.loaders = s.shore.loaders)
    (hholds : ∀ k < 10, (t.hold k).balanced = true) (hclosed : t.sys.sessionOpen = false) : t.tonnageSound := by
  have hl : ∀ i, t.loader i = s.loader i := fun i => by unfold loader; rw [hloaders]
  have habsurd : t.sys.sessionOpen ≠ true := by rw [hclosed]; nofun
  refine ⟨hholds, fun i hi k hk => ?_, fun i hi => ?_, fun i hi hb => ?_, fun ho => absurd ho habsurd,
    fun ho => absurd ho habsurd, fun ho => absurd ho habsurd⟩
  · rw [hl] at hk; exact h.spout i hi k hk
  · rw [hl]; exact h.tonnage i hi
  · rw [hl] at hb ⊢; exact h.fresh i hi hb

/-! ### A POUR -/

/-- One loader's record and the session unattributed figure changed together, the holds by what the loader brought. -/
theorem moved (h : s.tonnageSound) {l : Nat} (hl : l < 4) (hother : ∀ m, m ≠ l → t.loader m = s.loader m)
    (hbalanced : ∀ k < 10, (t.hold k).balanced = true) (hspout : ∀ k, (t.loader l).spout = some k → k < 10)
    (htonnage : (t.loader l).sessionTonnage = ((t.loader l).lastCum : Int) - ((t.loader l).baseline : Int))
    (hfresh : (t.loader l).baselineSeen = false → (t.loader l).lastCum = 0 ∧ (t.loader l).baseline = 0)
    (hsession : t.sys.sessionOpen = s.sys.sessionOpen) (hsealed : t.mgmt.ship.isSealed = s.mgmt.ship.isSealed)
    (hconserved : ((List.range 10).map fun k => (t.hold k).attributed).sum + t.shore.unattributed
      = ((List.range 10).map fun k => (s.hold k).attributed).sum + s.shore.unattributed
        + ((t.loader l).sessionTonnage - (s.loader l).sessionTonnage))
    (hun : t.shore.unattributed = s.shore.unattributed + ((t.loader l).unattributed - (s.loader l).unattributed)) :
    t.tonnageSound := by
  have each : ∀ {P : LoaderRec → Prop}, (∀ i < 4, P (s.loader i)) → P (t.loader l) → ∀ i < 4, P (t.loader i) := by
    intro P hs ht i hi
    by_cases e : i = l
    · exact e ▸ ht
    · rw [hother i e]; exact hs i hi
  have hsum : ∀ f : LoaderRec → Int, t.sumLoaders f = s.sumLoaders f + (f (t.loader l) - f (s.loader l)) := fun f =>
    sum_range_changed (g := fun i => f (s.loader i)) (g' := fun i => f (t.loader i)) hl fun m _ hm => by rw [hother m hm]
  refine ⟨hbalanced, each (P := fun r => ∀ k, r.spout = some k → k < 10) h.spout hspout,
    each (P := fun r => r.sessionTonnage = (r.lastCum : Int) - (r.baseline : Int)) h.tonnage htonnage,
    each (P := fun r => r.baselineSeen = false → r.lastCum = 0 ∧ r.baseline = 0) h.fresh hfresh, fun ho => ?_, fun ho => ?_,
    fun ho => ?_⟩
  · rw [hsealed]; exact h.unsealed (hsession ▸ ho)
  · rw [hconserved, h.conserved (hsession ▸ ho), hsum]
  · rw [hun, h.unattributed (hsession ▸ ho), hsum]

theorem balanced_iff {r : HoldRec} : r.balanced = true ↔ r.mass = r.opening + r.attributed := beq_iff_eq

theorem charge (h : s.tonnageSound) {l c : Nat} (hl : l < 4) (hc : (s.loader l).lastCum ≤ c)
    (hseen : (s.loader l).baselineSeen = true) : (s.charge l c).tonnageSound := by
  have hrec := loader_charge (s := s) hl c
  have hframe := charge_only s l c
  have hatt : ∀ k < 10, ((s.charge l c).hold k).attributed = (s.hold k).attributed + s.brought l c k := fun k hk => by
    rw [hold_charge s l c hk]
  have hsum : ((List.range 10).map fun k => ((s.charge l c).hold k).attributed).sum + s.loose l c
      = ((List.range 10).map fun k => (s.hold k).attributed).sum + ((c : Int) - ((s.loader l).lastCum : Int)) := by
    obtain hs | ⟨h0, hs⟩ := s.spout_cases l
    · have hsame : ((List.range 10).map fun k => ((s.charge l c).hold k).attributed)
          = (List.range 10).map fun k => (s.hold k).attributed :=
        List.map_congr_left fun k hk => by rw [hatt k (List.mem_range.1 hk), brought_none hs, add_zero]
      rw [hsame, loose_none hs]
      omega
    · have hh0 := h.spout l hl h0 hs
      rw [sum_range_changed (g := fun k => (s.hold k).attributed) hh0 fun m hm hne => ?_, hatt h0 hh0, loose_some hs,
        brought_same hs]
      · omega
      · rw [hatt m hm, brought_other hs hne, add_zero]
  refine h.moved hl (fun m hm => loader_charge_other hm c) (fun k hk => ?_) (fun k hk => ?_) (by rw [hrec])
    (fun hf => ?_) (hframe.sessionOpen (by decide)) (by rw [hframe.shipGroup (by decide)]) ?_ ?_
  · rw [hold_charge s l c hk, balanced_iff]
    have hb := balanced_iff.1 (h.balanced k hk)
    dsimp only
    omega
  · rw [hrec] at hk; exact h.spout l hl k hk
  · rw [hrec] at hf
    exact absurd (hseen.symm.trans hf) nofun
  · rw [unattributed_charge, hrec, h.tonnage l hl]
    dsimp only
    omega
  · rw [unattributed_charge, hrec]
    dsimp only
    omega

/-- A first POUR sets both figures of the loader to the same cumulative. -/
theorem setBaseline (h : s.tonnageSound) {l c : Nat} (hl : l < 4) (hseen : (s.loader l).baselineSeen = false) :
    (s.setBaseline l c).tonnageSound := by
  have hrec : (s.setBaseline l c).loader l
      = { s.loader l with baseline := c, lastCum := c, sessionTonnage := 0, baselineSeen := true } :=
    loader_modLoader s l _ hl
  have hzero : (s.loader l).sessionTonnage = 0 := by
    rw [h.tonnage l hl, (h.fresh l hl hseen).1, (h.fresh l hl hseen).2, sub_self]
  refine h.moved hl (fun m hm => loader_modLoader_other s l m _ hm) h.balanced (fun k hk => ?_) ?_ (fun hf => ?_) rfl rfl ?_ ?_
  · rw [hrec] at hk; exact h.spout l hl k hk
  · rw [hrec]; exact (sub_self _).symm
  · rw [hrec] at hf; cases hf
  · rw [hrec, hzero]
    exact (add_zero _).symm
  · rw [hrec]
    show s.shore.unattributed = s.shore.unattributed + ((s.loader l).unattributed - (s.loader l).unattributed)
    omega

theorem recordPour (h : s.tonnageSound) {f : PourFields} (hl : f.loader < 4) (hspout : ∀ k, f.spout = some k → k < 10) :
    (s.recordPour f).tonnageSound := by
  have hrec : (s.recordPour f).loader f.loader
      = { s.loader f.loader with spout := f.spout, belt := f.belt, lastPour := some s.now } := loader_modLoader s _ _ hl
  refine h.moved hl (fun m hm => loader_modLoader_other s _ m _ hm) h.balanced (fun k hk => ?_) ?_ (fun hf => ?_) rfl rfl ?_ ?_
  · rw [hrec] at hk; exact hspout k hk
  · rw [hrec]; exact h.tonnage _ hl
  · rw [hrec] at hf ⊢; exact h.fresh _ hl hf
  · rw [hrec]
    show ((List.range 10).map fun k => (s.hold k).attributed).sum + s.shore.unattributed = _
    dsimp only
    omega
  · rw [hrec]
    show s.shore.unattributed = s.shore.unattributed + ((s.loader f.loader).unattributed - (s.loader f.loader).unattributed)
    omega

theorem accountPour (h : s.tonnageSound) {f : PourFields} (hl : f.loader < 4) (hspout : ∀ k, f.spout = some k → k < 10)
    (hc : (s.loader f.loader).baselineSeen = true → (s.loader f.loader).lastCum ≤ f.cumulative) :
    (s.accountPour f).tonnageSound := by
  unfold State.accountPour
  split
  case isTrue hseen => exact (h.charge hl (hc hseen) hseen).recordPour hl hspout
  case isFalse hseen => exact (h.setBaseline hl (Bool.eq_false_iff.2 hseen)).recordPour hl hspout

end tonnageSound
end State
end Sys2Proof.Machine
end

section
/-! PROOFS. The pour account through every operation of the part, and every step: O59. -/

namespace Sys2Proof.Machine

namespace State

/-! ### Loops over records -/

/-- A loop over the indices of an array of records, each turn of which changes its own record. -/
theorem record_forEach {α : Type} (get : State → Nat → α) {n : Nat} {f : Nat → State → State} {g : Nat → α → α}
    {I : State → Prop} (hI : ∀ i u, i < n → I u → I (f i u)) (hsame : ∀ i u, i < n → I u → get (f i u) i = g i (get u i))
    (hother : ∀ i u j, I u → j ≠ i → get (f i u) j = get u j) {s : State} (hs : I s) {l : Nat} (hl : l < n) :
    get (forEach (List.range n) f s) l = g l (get s l) := by
  have key : ∀ is : List Nat, is.Nodup → (∀ i ∈ is, i < n) → ∀ u, I u →
      get (forEach is f u) l = if l ∈ is then g l (get u l) else get u l := by
    intro is hd his
    unfold forEach
    induction is with
    | nil => exact fun _ _ => rfl
    | cons i is ih =>
      intro u hu
      obtain ⟨hi, hd⟩ := List.nodup_cons.1 hd
      obtain ⟨hin, his⟩ := List.forall_mem_cons.1 his
      rw [List.foldl_cons, ih hd his (f i u) (hI i u hin hu)]
      by_cases hli : l = i
      · subst hli
        rw [if_neg hi, if_pos List.mem_cons_self, hsame l u hl hu]
      · rw [hother i u l hu hli]
        simp only [List.mem_cons, hli, false_or]
  rw [key _ List.nodup_range (fun i hi => List.mem_range.1 hi) s hs, if_pos (List.mem_range.2 hl)]

/-- What every turn of a loop keeps. -/
theorem forEach_keeps {I : State → Prop} {f : Nat → State → State} (h : ∀ i u, I u → I (f i u)) {is : List Nat} {s : State}
    (hs : I s) : I (forEach is f s) := by
  unfold forEach
  induction is generalizing s with
  | nil => exact hs
  | cons i is ih => exact ih (h i s hs)

/-! ### The hold records at OPEN_SESSION and at a switch (R29, R31) -/

theorem hold_switchHolds (s : State) {k : Nat} (hk : k < 10) :
    s.switchHolds.hold k = if s.bank.holdFitted k then s.hold k else HoldRec.reset := by
  refine record_forEach hold (g := fun i r => if s.bank.holdFitted i then r else HoldRec.reset)
    (I := fun u => u.bank = s.bank) (fun i u _ hu => ?_) (fun i u hi hu => ?_) (fun i u j _ hj => ?_) rfl hk
  · split
    · exact hu
    · exact hu
  · rw [hu]
    split
    · rfl
    · exact hold_modHold u i _ hi
  · split
    · rfl
    · exact hold_modHold_other u i j _ hj

/-- A switch changes the hold records of the shore unit alone. -/
theorem shore_switchHolds (s : State) : s.switchHolds.shore = { s.shore with holds := s.switchHolds.shore.holds } := by
  unfold switchHolds
  refine forEach_keeps (I := fun u => u.shore = { s.shore with holds := u.shore.holds }) (s := s)
    (f := fun h s => if s.bank.holdFitted h then s else s.modHold h fun _ => HoldRec.reset) (fun i u hu => ?_) rfl
  dsimp only
  split
  · exact hu
  · rw [modHold_shore, hu]

/-- The hold records as OPEN_SESSION sets them. -/
def openedHold (s : State) (k : Nat) : HoldRec :=
  { opening := if s.bank.holdFitted k then s.plan.initialCargo k else 0, attributed := 0
    mass := if s.bank.holdFitted k then s.plan.initialCargo k else 0 }

/-- One hold record set at OPEN_SESSION. -/
def openHold (k : Nat) (s : State) : State := s.modHold k fun _ => s.openedHold k

/-- The account with its loader records and its unattributed figure at their reset values. -/
def freshAccount (s : State) : State :=
  { s with shore := { s.shore with loaders := Vector.replicate 4 LoaderRec.reset, unattributed := 0 } }

/-- The account opened, but for the silence supervision that it arms. -/
def openedAccount (s : State) : State := forEach holdIndices openHold s.freshAccount

theorem openAccount_eq (s : State) : s.openAccount = s.openedAccount.armSilence := rfl

theorem openedAccount_only (s : State) : s.onlyChanges [.shore] s.openedAccount :=
  (only_shore s _).trans (onlyChanges_forEach _ _ (fun _ u => modHold_only u _ _) _)

theorem hold_openedAccount (s : State) {k : Nat} (hk : k < 10) : s.openedAccount.hold k = s.openedHold k := by
  refine record_forEach hold (f := openHold) (g := fun i _ => s.openedHold i)
    (I := fun u => u.bank = s.bank ∧ u.plan = s.plan) (fun i u _ hu => hu) (fun i u hi hu => ?_)
    (fun i u j _ hj => hold_modHold_other u i j _ hj) (s := s.freshAccount) ⟨rfl, rfl⟩ hk
  rw [openHold, hold_modHold u i _ hi, openedHold, openedHold, hu.1, hu.2]

theorem shore_openedAccount (s : State) :
    s.openedAccount.shore = { s.freshAccount.shore with holds := s.openedAccount.shore.holds } := by
  refine forEach_keeps (I := fun u => u.shore = { s.freshAccount.shore with holds := u.shore.holds }) (f := openHold)
    (is := holdIndices) (s := s.freshAccount) (fun i u hu => ?_) rfl
  rw [openHold, modHold_shore, hu]

theorem armSilence_account (s : State) : s.armSilence.shore.loaders = s.shore.loaders
    ∧ s.armSilence.shore.holds = s.shore.holds ∧ s.armSilence.shore.unattributed = s.shore.unattributed := by
  unfold armSilence
  split <;> exact ⟨rfl, rfl, rfl⟩

theorem signOfLife_shore (s : State) :
    s.signOfLife.shore = { s.shore with silence := .watching (s.now + s.bank.silenceTimeout) } := by
  have hclear : s.watchShore.clearSilent.shore = s.watchShore.shore :=
    ((clearFault_only s.watchShore _ _).andThen (pacingEvent_only _ _ (removeReasonAll_only _ _))).shore (by decide)
  unfold signOfLife
  split
  · exact hclear
  · rfl
  · rfl

theorem clearSilent_off (s : State) : s.onlyChanges ([.faults, .out] ++ ([.pacing] ++ pacingBlocks)) s.clearSilent :=
  (clearFault_only s _ _).andThen (pacingEvent_only _ _ (removeReasonAll_only _ _))

theorem disarmSilence_shore (s : State) : s.disarmSilence.shore = { s.shore with silence := .disarmed } := by
  unfold disarmSilence
  split
  case h_1 => exact (clearSilent_off _).shore (by decide)
  case h_2 => rfl
  case h_3 hs => rw [← hs]

theorem silenceExpired_shore (s : State) : s.silenceExpired.shore = { s.shore with silence := .silent } :=
  ((raiseFault_only _ _ _).andThen (pacingEvent_only _ _ (addReasonAll_only _ _))).shore (by decide)

namespace tonnageSound

variable {s t : State}

/-! ### Silence, beacons, mode changes told (R32, R33) -/

/-- A frame with the shore unit in it, where the shore unit keeps its account. -/
theorem kept (h : s.tonnageSound) {l : List Block} (k : s.onlyChanges l t) (hl : l.all ((.shore :: offBlocks).contains ·) = true)
    {x : Shore} (hx : t.shore = x) (hloaders : x.loaders = s.shore.loaders) (hholds : x.holds = s.shore.holds)
    (hun : x.unattributed = s.shore.unattributed) : t.tonnageSound := by
  have hk := k.mono fun b hb => List.contains_iff_mem.mp (List.all_eq_true.mp hl b hb)
  subst hx
  exact h.same hloaders hholds hun (hk.sessionOpen (by decide)) fun _ => by rw [hk.shipGroup (by decide)]

theorem sendBeacon (h : s.tonnageSound) : s.sendBeacon.tonnageSound := h.kept (sendBeacon_only s) rfl rfl rfl rfl rfl

theorem tellMode (h : s.tonnageSound) : s.tellMode.tonnageSound := h.sendBeacon.off (reexamine_only _) rfl

theorem tellModeIf (h : s.tonnageSound) {m : Mode} : (s.tellModeIf m).tonnageSound := ite h h.tellMode

theorem signOfLife (h : s.tonnageSound) : s.signOfLife.tonnageSound :=
  h.kept (signOfLife_only s) rfl (signOfLife_shore s) rfl rfl rfl

theorem disarmSilence (h : s.tonnageSound) : s.disarmSilence.tonnageSound :=
  h.kept (disarmSilence_only s) rfl (disarmSilence_shore s) rfl rfl rfl

theorem silenceExpired (h : s.tonnageSound) : s.silenceExpired.tonnageSound :=
  h.kept (silenceExpired_only s) rfl (silenceExpired_shore s) rfl rfl rfl

theorem armSilence (h : s.tonnageSound) : s.armSilence.tonnageSound :=
  h.kept (armSilence_only s) rfl rfl (armSilence_account s).1 (armSilence_account s).2.1 (armSilence_account s).2.2

theorem afterRaising (h : s.tonnageSound) {m : Mode} : (s.afterRaising m).tonnageSound :=
  tellModeIf (h.off (pacingEvent_only s _ (followSafe_only s m)) rfl)

/-! ### The switch of the ship group (R31, R193) -/

/-- Outside a session a switch leaves every hold balanced. -/
theorem switchHolds (h : s.tonnageSound) (hclosed : s.sys.sessionOpen = false) : s.switchHolds.tonnageSound := by
  refine h.closed (by rw [shore_switchHolds]) (fun k hk => ?_) (((switchHolds_only s).sessionOpen (by decide)).trans hclosed)
  rw [hold_switchHolds s hk]
  split
  · exact h.balanced k hk
  · rfl

theorem reactToShip (h : s.tonnageSound) (hclosed : s.sys.sessionOpen = false) {o : ShipBank} :
    (s.reactToShip o).tonnageSound := by
  have hk := switchTanks_only s o
  have hswitched := (h.off hk rfl).switchHolds ((hk.sessionOpen (by decide)).trans hclosed)
  exact ((hswitched.off (rebindStations_only _) rfl).off (restartDryRuns_only _) rfl).off (judgeAlarm_only _) rfl

/-- A change of the ship group outside a session. -/
theorem shipChanged (h : s.tonnageSound) (hclosed : s.sys.sessionOpen = false) {l : List Block} (k : s.onlyChanges l t)
    (hl : l.all ((.ship :: offBlocks).contains ·) = true) : t.tonnageSound := by
  have hk := k.mono fun b hb => List.contains_iff_mem.mp (List.all_eq_true.mp hl b hb)
  have hshore := hk.shore (by decide)
  exact h.same (by rw [hshore]) (by rw [hshore]) (by rw [hshore]) (hk.sessionOpen (by decide)) fun ho =>
    absurd (hclosed.symm.trans ho) nofun

theorem switchShip (h : s.tonnageSound) (hclosed : s.sys.sessionOpen = false) : s.switchShip.tonnageSound := by
  have hk := (switchedShip_only s).andThen (clearTableFaults_only _)
  exact (h.shipChanged hclosed hk rfl).reactToShip ((hk.sessionOpen (by decide)).trans hclosed)

/-! ### Evaluations (R36 to R40) -/

theorem switchPlan (h : s.tonnageSound) : s.switchPlan.tonnageSound := h.off (switchPlan_only s) rfl

/-- A sealed ship group means that no session is open. -/
theorem switchSealed (h : s.tonnageSound) : s.switchSealed.tonnageSound := by
  unfold State.switchSealed
  extract_lets a
  have ha : a.tonnageSound := by
    dsimp only [a]
    split
    case isTrue hsealed =>
      refine h.switchShip (Bool.eq_false_iff.2 fun ho => ?_)
      rw [h.unsealed ho] at hsealed
      cases hsealed
    case isFalse => exact h
  exact ite ha.switchPlan ha

theorem beginEvaluation (h : s.tonnageSound) : s.beginEvaluation.tonnageSound := by
  have hstarted : s.engineStarts.tonnageSound := h.off (only_engine s _) rfl
  have hbegun := ((hstarted.switchSealed.off (growUncertainty_only _) rfl).off (only_engine _ _) rfl :
    s.engineStarts.switchSealed.growUncertainty.engineSnapshots.tonnageSound)
  exact ite (hbegun.off (reexamine_only _) rfl) hbegun

theorem requestEvaluation (h : s.tonnageSound) : s.requestEvaluation.tonnageSound :=
  ite h (ite (h.off (only_engine s _) rfl) h.beginEvaluation)

theorem intervalExpired (h : s.tonnageSound) : s.intervalExpired.tonnageSound :=
  h.requestEvaluation.off (only_engine _ _) rfl

theorem deadbandTest (h : s.tonnageSound) {k : Option Nat} : (s.deadbandTest k).tonnageSound := by
  unfold State.deadbandTest
  split
  · exact h
  · exact ite h.requestEvaluation h

end tonnageSound

/-- What a VALID publication can change. -/
theorem completeValid_only (s : State) (n : Snapshot) :
    s.onlyChanges ([.mode, .engine] ++ pacingBlocks) (s.completeValid n) := by
  unfold completeValid
  extract_lets f a b
  have ha := (judgeValid_only s n f).andThen (publishValid_only (s.judgeValid n f) (s.headerOf n) f)
  have hb : s.onlyChanges ([.mode, .engine] ++ pacingBlocks) b :=
    onlyChanges_ite ((ha.andThen (trackPeak_only a _)).mono (by decide)) (ha.mono (by decide))
  exact (hb.andThen (pacePublication_only b _ _ _ _ _)).mono (by decide)

/-- What an INVALID publication can change. -/
theorem completeInvalid_only (s : State) (n : Snapshot) :
    s.onlyChanges ([.mode, .engine] ++ pacingBlocks) (s.completeInvalid n) := by
  unfold completeInvalid
  rw [keeps.pacePublication_none]
  exact (((raiseFault_only s _ _).andThen (publishInvalid_only _ _)).andThen
    (pacingEvent_only _ _ (keeps.paceFaults_only _ _ _))).mono (by decide)

/-- What a POUR at the pacing block can change. -/
theorem pacePour_only (s : State) (b : Nat → ReasonSet) (l : Nat) (z : Bool) (x : Belt) :
    s.onlyChanges (.mode :: pacingBlocks) (s.pacePour b l z x) := by
  have hfill : s.onlyChanges [.pacing] (if s.fillsGrace l z then s.fillGrace l else s) :=
    onlyChanges_ite (modPause_only s l _) (onlyChanges_refl _ s)
  have hover : ∀ u : State, u.onlyChanges [.pacing, .faults, .out, .mode] (u.judgeOverpour l) := by
    intro u
    unfold judgeOverpour
    split
    · exact onlyChanges_refl _ u
    split
    · exact onlyChanges_refl _ u
    · exact onlyChanges_ite (onlyChanges_ite ((modPause_only u l _).andThen (raiseFault_only _ _ _))
        ((modPause_only u l _).mono (by decide))) (onlyChanges_refl _ u)
  have hbelt : ∀ u : State, u.onlyChanges [.pacing, .faults, .out] (u.applyBelt l x) := by
    intro u
    unfold applyBelt
    extract_lets now timer
    split
    · exact (modPause_only u l _).andThen (clearFault_only _ _ _)
    · exact (modPause_only u l _).andThen (clearFault_only _ _ _)
    · exact (modPause_only u l _).mono (by decide)
    · exact onlyChanges_refl _ u
  unfold pacePour
  extract_lets fills a c
  exact ((((hfill.andThen (hover a)).andThen (followSafe_only _ _)).andThen (actOn_only c _ _)).andThen (hbelt _)).mono
    (by decide)

namespace tonnageSound

variable {s t : State}

theorem completeEvaluation (h : s.tonnageSound) : s.completeEvaluation.tonnageSound := by
  have hbegin : ∀ u : State, u.tonnageSound →
      ({ u with engine := { u.engine with pending := false } } : State).beginEvaluation.tonnageSound :=
    fun u hu => beginEvaluation (hu.off (only_engine u _) rfl)
  unfold State.completeEvaluation
  split
  case h_1 n _ _ =>
    have hpub : (if s.validNow then s.completeValid n else s.completeInvalid n).tonnageSound :=
      ite (h.off (completeValid_only s n) rfl) (h.off (completeInvalid_only s n) rfl)
    have hbeacon : ((if s.validNow then s.completeValid n else s.completeInvalid n).beaconIf s.sys.mode).tonnageSound :=
      ite hpub hpub.sendBeacon
    have hseen := hbeacon.off (reexamine_only _) rfl
    exact ite (hbegin s h) (ite (hbegin _ hseen) hseen)
  case h_2 => exact h

/-! ### A POUR (R22 to R27) -/

theorem processPour (h : s.tonnageSound) {f : PourFields} (hl : f.loader < 4) (hspout : ∀ k, f.spout = some k → k < 10)
    (hc : (s.loader f.loader).baselineSeen = true → (s.loader f.loader).lastCum ≤ f.cumulative) :
    (s.processPour f).tonnageSound :=
  tellModeIf (((h.accountPour hl hspout hc).deadbandTest.off (trackPour_only _ _ _ _) rfl).off (pacePour_only _ _ _ _ _) rfl)

end tonnageSound
end State

/-- A POUR that is read names a hold of the part, or none (R23). -/
theorem readPour_spout {p : List Byte} {f : PourFields} (h : readPour p = some f) : ∀ k, f.spout = some k → k < 10 := by
  unfold readPour at h
  dsimp only at h
  split at h
  · cases h
  · split at h
    · obtain rfl := Option.some.inj h
      intro k hk
      dsimp only at hk
      split at hk
      case isTrue hlt => exact Option.some.inj hk ▸ hlt
      case isFalse => cases hk
    · cases h

namespace State
namespace tonnageSound

variable {s t : State}

theorem takePour (h : s.tonnageSound) {p : List Byte} : (s.takePour p).tonnageSound := by
  have hadvise := fun k x => h.off (advise_only s k x) rfl
  unfold State.takePour
  split
  case h_1 => exact hadvise _ _
  case h_2 f hf =>
    dsimp only
    split
    case isTrue => exact hadvise _ _
    case isFalse hreg =>
      refine ite (h.processPour (readPour_loader hf) (readPour_spout hf) fun hseen => ?_) (hadvise _ _)
      exact Nat.le_of_not_lt fun hlt => hreg ⟨hseen, hlt⟩

theorem takeShore (h : s.tonnageSound) {x : Telegram} : (s.takeShore x).tonnageSound :=
  ite h.signOfLife.takePour h.signOfLife

/-! ### Sessions (R29, R30, R171, R172) -/

/-- A session opens over a fresh account, with no ship group sealed. -/
theorem openAccount (hsealed : s.mgmt.ship.isSealed = false) : s.openAccount.tonnageSound := by
  rw [openAccount_eq]
  refine armSilence ?_
  have hframe := openedAccount_only s
  have hholds := fun k hk => hold_openedAccount s (k := k) hk
  have hshore := shore_openedAccount s
  generalize s.openedAccount = u at hframe hholds hshore ⊢
  have hloader : ∀ l < 4, u.loader l = LoaderRec.reset := fun l hl => by
    unfold loader
    rw [hshore]
    simp [nth, freshAccount]
  have hsum : ∀ f : LoaderRec → Int, f LoaderRec.reset = 0 → u.sumLoaders f = 0 := fun f hf => by
    have hzero : (List.range 4).map (fun l => f (u.loader l)) = (List.range 4).map fun _ => 0 :=
      List.map_congr_left fun l hl => by rw [hloader l (List.mem_range.1 hl), hf]
    rw [sumLoaders, hzero]
    rfl
  have hatt : (List.range 10).map (fun k => (u.hold k).attributed) = (List.range 10).map fun _ => 0 :=
    List.map_congr_left fun k hk => by rw [hholds k (List.mem_range.1 hk)]; rfl
  refine ⟨fun k hk => ?_, fun l hl k hk => ?_, fun l hl => ?_, fun l hl _ => ?_, fun _ => ?_, fun _ => ?_, fun _ => ?_⟩
  · rw [hholds k hk, balanced_iff]
    exact (add_zero _).symm
  · rw [hloader l hl] at hk; cases hk
  · rw [hloader l hl]; rfl
  · rw [hloader l hl]; exact ⟨rfl, rfl⟩
  · rw [hframe.shipGroup (by decide)]; exact hsealed
  · rw [hatt, hsum _ rfl, hshore]; rfl
  · rw [hsum _ rfl, hshore]; rfl

theorem openSession (hsealed : s.mgmt.ship.isSealed = false) {n : Nat} : (s.openSession n).tonnageSound := by
  unfold State.openSession
  extract_lets a b
  have ha : a.tonnageSound := by
    have hopen : (s.markOpen n).openAccount.tonnageSound := openAccount hsealed
    exact (hopen.off (openTracking_only _) rfl).off (latchReports_only _) rfl
  have hb : b.tonnageSound := (ha.off (makeSessionOpen_only _ _ _ _) rfl).off (startConditionTimer_only _) rfl
  have hpaced : b.openPacing.tonnageSound := by
    unfold State.openPacing
    extract_lets p z
    have hz : z.tonnageSound := hb.off (only_pacing b _) rfl
    clear_value z
    refine hz.off (pacingEvent_only z _ (l := [.pacing]) ?_) rfl
    extract_lets c d
    have hc : z.onlyChanges [.pacing] c := addReasonAll_only z _
    have hd : z.onlyChanges [.pacing] d := onlyChanges_ite (hc.trans (addReasonAll_only c _)) hc
    exact onlyChanges_ite (hd.trans (addReasonAll_only d _)) hd
  exact hpaced.requestEvaluation.tellMode

/-- Once the session is closed only fresh loader records and balanced holds remain. -/
theorem closeSession (h : s.tonnageSound) : s.closeSession.tonnageSound := by
  have hpaced := (h.off (closeTanks_only s) rfl).off (closePacing_only _) rfl
  have hrecord := hpaced.off (makeSessionClose_only _) rfl
  unfold State.closeSession
  generalize s.closeTanks.closePacing.makeSessionClose = a at hrecord ⊢
  refine tellModeIf ?_
  have hshore : a.closeAccount.closeTracking.closeReports.markClosed.shore = { a.shore with
      loaders := Vector.replicate 4 LoaderRec.reset, unattributed := 0, silence := .disarmed } :=
    ((((closeTracking_only a.closeAccount).andThen (closeReports_only _)).andThen (markClosed_only _)).shore (by decide)).trans
      (disarmSilence_shore _)
  generalize hm : a.closeAccount.closeTracking.closeReports.markClosed = c at hshore ⊢
  have hclosed : c.sys.sessionOpen ≠ true := by rw [← hm]; nofun
  have hloader : ∀ l < 4, c.loader l = LoaderRec.reset := fun l hl => by
    unfold loader
    rw [hshore]
    simp [nth]
  refine ⟨fun k hk => ?_, fun l hl k hk => ?_, fun l hl => ?_, fun l hl _ => ?_, fun ho => absurd ho hclosed,
    fun ho => absurd ho hclosed, fun ho => absurd ho hclosed⟩
  · have hhold : c.hold k = a.hold k := by unfold hold; rw [hshore]
    rw [hhold]
    exact hrecord.balanced k hk
  · rw [hloader l hl] at hk; cases hk
  · rw [hloader l hl]; rfl
  · rw [hloader l hl]; exact ⟨rfl, rfl⟩

end tonnageSound
end State
end Sys2Proof.Machine
end

section
/-! PROOFS. The pour account through mode changes, requests and commands, up to every step: O59. -/

namespace Sys2Proof.Machine

namespace State

/-- Outside the modes of a session no session is open. -/
theorem closed_of_not_sessionMode {s : State} (hm : s.modeSound) (h : s.sessionMode ≠ true) : s.sys.sessionOpen = false := by
  refine Bool.eq_false_iff.2 fun ho => h ?_
  unfold sessionMode
  rcases hm.2.1 ho with e | e <;> simp [e, ho]

theorem writeStaging_isSealed (s : State) (c : TableCode) (x : Nat) (bs : List Byte) :
    (s.writeStaging c x bs).mgmt.ship.isSealed = s.mgmt.ship.isSealed := by
  unfold writeStaging
  split <;> rfl

theorem doWriteTable_isSealed (s : State) (args : List Byte) :
    (s.doWriteTable args).1.mgmt.ship.isSealed = s.mgmt.ship.isSealed := by
  unfold doWriteTable
  dsimp only
  split
  · rfl
  split
  · rfl
  split
  · rfl
  split
  · rfl
  · exact writeStaging_isSealed s _ _ _

namespace tonnageSound

variable {s t : State}

/-! ### Mode entries and resets (R169, R170, R176) -/

/-- The ship group's banks replaced, its seal left. -/
theorem banks (h : s.tonnageSound) {l : List Block} (k : s.onlyChanges l t)
    (hl : l.all ((.ship :: offBlocks).contains ·) = true) (hsealed : t.mgmt.ship.isSealed = s.mgmt.ship.isSealed) :
    t.tonnageSound := by
  have hk := k.mono fun b hb => List.contains_iff_mem.mp (List.all_eq_true.mp hl b hb)
  have hshore := hk.shore (by decide)
  exact h.same (by rw [hshore]) (by rw [hshore]) (by rw [hshore]) (hk.sessionOpen (by decide)) fun _ => hsealed

theorem loadStore (h : s.tonnageSound) : s.loadStore.tonnageSound := h.banks (loadStore_only s) rfl rfl

theorem enterCircuit (h : s.tonnageSound) {m : Mode} : (s.enterCircuit m).tonnageSound := by
  unfold State.enterCircuit
  extract_lets x a b
  have ha : a.tonnageSound := h.same rfl rfl rfl rfl fun _ => rfl
  have hb : b.tonnageSound :=
    sendBeacon (((ha.off (resetTanks_only a) rfl).off (bindStations_only _) rfl).off (judgeAlarm_only _) rfl)
  exact ite (hb.off (startTimers_only b) rfl) hb

theorem leaveUnconfigured (h : s.tonnageSound) : s.leaveUnconfigured.tonnageSound :=
  tellMode ((h.off (setMode_only s _) rfl).off (startTimers_only _) rfl)

/-- A state whose shore unit is reset, with no session. -/
theorem of_reset (hshore : t.shore = Shore.reset) (hclosed : t.sys.sessionOpen = false) : t.tonnageSound := by
  have hloader : ∀ l < 4, t.loader l = LoaderRec.reset := fun l hl => by
    unfold loader
    rw [hshore]
    simp [nth, Shore.reset]
  have hhold : ∀ k < 10, t.hold k = HoldRec.reset := fun k hk => by
    unfold hold
    rw [hshore]
    simp [nth, Shore.reset]
  have habsurd : t.sys.sessionOpen ≠ true := by rw [hclosed]; nofun
  refine ⟨fun k hk => ?_, fun l hl k hk => ?_, fun l hl => ?_, fun l hl _ => ?_, fun ho => absurd ho habsurd,
    fun ho => absurd ho habsurd, fun ho => absurd ho habsurd⟩
  · rw [hhold k hk]; rfl
  · rw [hloader l hl] at hk; cases hk
  · rw [hloader l hl]; rfl
  · rw [hloader l hl]; exact ⟨rfl, rfl⟩

theorem resetNow (c : ResetCause) (s : State) : (s.resetNow c).tonnageSound := of_reset rfl rfl

theorem raiseTableFault (h : s.tonnageSound) {c : TableCode} : (s.raiseTableFault c).tonnageSound :=
  ite h (afterRaising ((h.off (raiseFault_only s _ _) rfl).off (only_engine _ _) rfl))

theorem scrub (h : s.tonnageSound) : s.scrub.tonnageSound :=
  have hnext : ({ s with mgmt := { s.mgmt with scrubPos := s.mgmt.scrubPos.next, scrubAt := some (s.now + 1) } } :
      State).tonnageSound := h.same rfl rfl rfl rfl fun _ => rfl
  ite hnext (ite hnext.raiseTableFault (of_reset rfl rfl))

/-! ### Requests (chapter 11) -/

theorem ite_fst {p : Prop} [Decidable p] {a b : Served} (ha : a.1.tonnageSound) (hb : b.1.tonnageSound) :
    (if p then a else b).1.tonnageSound := by
  split <;> assumption

theorem commitShip (hm : s.modeSound) (h : s.tonnageSound) : s.commitShip.1.tonnageSound := by
  unfold State.commitShip
  split
  case isTrue => exact h
  case isFalse hmode =>
    have hclosed := closed_of_not_sessionMode hm hmode
    have hsealed : s.sealShip.tonnageSound := h.shipChanged hclosed (sealShip_only s) rfl
    refine ite_fst h (ite_fst h ?_)
    split
    · exact h
    · exact ite (leaveUnconfigured (hsealed.switchShip hclosed)) hsealed.requestEvaluation

theorem commitPlan (h : s.tonnageSound) : s.commitPlan.1.tonnageSound := by
  unfold State.commitPlan
  refine ite_fst h (ite_fst h ?_)
  split
  · exact h
  · exact (h.off (sealPlan_only s) rfl).requestEvaluation

theorem doCommit (hm : s.modeSound) (h : s.tonnageSound) {args : List Byte} : (s.doCommit args).1.tonnageSound := by
  unfold State.doCommit
  split
  · exact ite_fst (h.commitShip hm) (ite_fst h.commitPlan h)
  · exact h

theorem reloadShip (h : s.tonnageSound) (hclosed : s.sys.sessionOpen = false) : s.reloadShip.tonnageSound := by
  unfold State.reloadShip
  extract_lets a b c
  have hk := (replaceShip_only s).andThen (clearTableFaults_only _)
  have ha : a.tonnageSound := (h.shipChanged hclosed hk rfl).reactToShip ((hk.sessionOpen (by decide)).trans hclosed)
  have hc : c.tonnageSound := ha.off (reexamine_only _) rfl
  exact ite ha.leaveUnconfigured.requestEvaluation (ite hc hc.requestEvaluation)

theorem doReload (hm : s.modeSound) (h : s.tonnageSound) {args : List Byte} : (s.doReload args).1.tonnageSound := by
  refine ite_fst h ?_
  split
  case isTrue => exact h
  case isFalse hmode =>
    refine ite_fst h (ite_fst h ?_)
    split
    · exact h
    · exact h.reloadShip (closed_of_not_sessionMode hm hmode)

theorem doManual (h : s.tonnageSound) {args : List Byte} {f : Nat → State → State}
    (hf : ∀ l, s.onlyChanges [.pacing] (f l s)) : (s.doManual args f).1.tonnageSound := by
  unfold State.doManual
  split
  · exact ite_fst h (ite_fst h (h.off (pacingEvent_only s _ (hf _)) rfl))
  · exact h

theorem doOpenSession (h : s.tonnageSound) {args : List Byte} : (s.doOpenSession args).1.tonnageSound := by
  unfold State.doOpenSession
  dsimp only
  refine ite_fst h (ite_fst h (ite_fst h (ite_fst h (ite_fst h ?_))))
  split
  case isTrue => exact h
  case isFalse hsealed => exact openSession (Bool.eq_false_iff.2 hsealed)

theorem clearSafe (h : s.tonnageSound) : s.clearSafe.tonnageSound :=
  tellMode ((h.off (setMode_only s _) rfl).off (pacingEvent_only _ _ (removeReasonAll_only _ _)) rfl)

theorem serve (hm : s.modeSound) (h : s.tonnageSound) {src seq : Byte} {code : Nat} {args : List Byte} :
    (s.serve src seq code args).1.tonnageSound := by
  have same : ∀ {r : Served}, r.1 = s → r.1.tonnageSound := fun hr => hr ▸ h
  exact ite_fst (same (doReadStatus_fst s args)) <| ite_fst (h.off (doSetTime_only s args) rfl) <|
    ite_fst (h.banks (doWriteTable_only s args) rfl (doWriteTable_isSealed s args)) <|
    ite_fst (same (doReadTable_fst s args)) <| ite_fst (h.doCommit hm) <|
    ite_fst (h.off (doStore_only s src seq args) rfl) <| ite_fst (h.doReload hm) <| ite_fst (same (doReset_fst s args)) <|
    ite_fst (ite_fst h (ite_fst h h.requestEvaluation)) <| ite_fst (same (doReadTank_fst s args)) <|
    ite_fst (same (doReadStation_fst s args)) <| ite_fst (h.off (doSetStationService_only s args) rfl) <|
    ite_fst (h.off (doReadCondition_only s args) rfl) <| ite_fst (h.off (doSetFixedWeight_only s args) rfl) <|
    ite_fst (h.doManual fun _ => addReason_only s _ _) <| ite_fst (h.doManual fun _ => removeReason_only s _ _) <|
    ite_fst h.doOpenSession <| ite_fst (ite_fst h (ite_fst h.closeSession h)) <| ite_fst (ite_fst h (ite_fst h h.clearSafe)) <|
    ite_fst (h.off (doAckFault_only s args) rfl) <| ite_fst (same (doReadFaults_fst s args)) <|
    ite_fst (same (doReadReport_fst s args)) h

theorem takeRequest (hm : s.modeSound) (h : s.tonnageSound) {src seq code : Byte} {args : List Byte} :
    (s.takeRequest src seq code args).tonnageSound :=
  (h.serve hm (args := args)).off (fst_answer_only _ src seq code) rfl

/-! ### Passage (chapter 6) -/

theorem dispatchConsole (hm : s.modeSound) (h : s.tonnageSound) {x : Telegram} : (s.dispatchConsole x).tonnageSound :=
  ite (ite (h.takeRequest hm) (h.off (countMisdirected_only s _) rfl))
    (ite (h.off (dispatchOrder_only s x) rfl) (ite h (h.off (applyAction_only s _ _ _ _) rfl)))

theorem dispatchShore (h : s.tonnageSound) {x : Telegram} : (s.dispatchShore x).tonnageSound :=
  ite (ite h.takeShore h) (h.off (countMisdirected_only s _) rfl)

theorem dispatchDefault (hm : s.modeSound) (h : s.tonnageSound) {p : Port} {x : Telegram} :
    (s.dispatchDefault p x).tonnageSound := by
  cases p with
  | console => exact ite (h.takeRequest hm) (h.off (send_only s _ _) rfl)
  | field => exact ite (h.off (countMisdirected_only s _) rfl) (h.off (send_only s _ _) rfl)
  | shore => exact h.dispatchShore

theorem dispatch (hm : s.modeSound) (h : s.tonnageSound) {p : Port} {x : Telegram} : (s.dispatch p x).tonnageSound := by
  refine ite (h.off (discardForeign_only s p) rfl) (ite ?_ (h.dispatchDefault hm))
  cases p with
  | console => exact h.dispatchConsole hm
  | field => exact h.off (dispatchField_only s x) rfl
  | shore => exact h.dispatchShore

theorem receive (hm : s.modeSound) (h : s.tonnageSound) {p : Port} {x : Telegram} : (s.receive p x).tonnageSound := by
  have hcounted : (s.countAccepted p).tonnageSound := h.off (countAccepted_only s p) rfl
  have hmode : (s.countAccepted p).modeSound := hm
  exact ite h (ite (hcounted.dispatch hmode) (h.off (discardBad_only s p) rfl))

theorem receiveFrame (hm : s.modeSound) (h : s.tonnageSound) {p : Port} {bs : List Byte} :
    (s.receiveFrame p bs).tonnageSound := by
  unfold State.receiveFrame
  split
  · exact h.receive hm
  · exact ite h (h.off (discardBad_only s p) rfl)

/-! ### Commands -/

theorem performDue (h : s.tonnageSound) : s.performDue.tonnageSound := ite (resetNow _ s) h

/-- A command's effect on a sound part that has performed a reset that was due. -/
theorem act (hm : s.modeSound) (h : s.tonnageSound) {f : State → State}
    (hf : ∀ u : State, u.modeSound → u.tonnageSound → (f u).tonnageSound) : (act f s).tonnageSound :=
  ite (hf _ ((keeps.refl s).performDue.mode hm) h.performDue) h

theorem exec {i : Instr} (hm : s.modeSound) (h : s.tonnageSound) (he : exec i s = .next t) : t.tonnageSound := by
  have receive : ∀ {p x}, (Machine.act (State.receive · p x) s).tonnageSound := h.act hm fun _ hum hu => hu.receive hum
  have request : ∀ {src seq code args}, (Machine.act (State.request · src seq code args) s).tonnageSound :=
    h.act hm fun _ hum hu => hu.receive hum
  have timer : ∀ {due : State → Bool} {f : State → State}, (∀ u : State, u.tonnageSound → (f u).tonnageSound) →
      (Machine.act (Machine.onDue due f) s).tonnageSound := fun hf => h.act hm fun u _ hu => ite (hf u hu) hu
  cases i <;> obtain rfl := Host.Outcome.next.inj he
  case powerOn => exact resetNow _ s
  case powerLoss => exact of_reset rfl rfl
  case supplyDip => exact ite (resetNow _ s) h
  case commandedReset => exact ite h.performDue h
  case settleEnd => exact timer fun _ hu => hu.loadStore.enterCircuit
  case tableFaultReload =>
    exact timer fun _ hu => ite hu.loadStore.enterCircuit (hu.loadStore.same rfl rfl rfl rfl fun _ => rfl)
  case frameReceive => exact h.act hm fun _ hum hu => hu.receiveFrame hum
  case transmissionEnd => exact h.act hm fun u _ hu => hu.off (endTransmission_only u _) rfl
  case gaugeTimeout => exact timer fun u hu => (hu.off (gaugeTimedOut_only u _) rfl).off (judgeDryRuns_only _) rfl
  case stillIntervalExpiry => exact timer fun u hu => hu.off (stillExpired_only u _) rfl
  case shoreSilenceExpiry => exact timer fun _ hu => hu.silenceExpired
  case beaconTimerExpiry => exact timer fun _ hu => hu.sendBeacon
  case evaluationIntervalExpiry => exact timer fun _ hu => hu.intervalExpired
  case evaluationComplete => exact h.act hm fun _ _ hu => hu.completeEvaluation
  case presenceTimeout => exact timer fun u hu => hu.off (presenceTimedOut_only u _) rfl
  case ackTimeout => exact timer fun u hu => hu.off (ackTimedOut_only u _) rfl
  case holdDeadline => exact timer fun u hu => hu.off (holdExpired_only u _) rfl
  case startLimitDeadline => exact timer fun u hu => hu.off (startLimitExpired_only u) rfl
  case dryRunTrip => exact timer fun u hu => hu.off (dryTrip_only u _) rfl
  case confirmTimerExpiry => exact timer fun u hu => hu.off (confirmExpired_only u _) rfl
  case conditionTimerExpiry => exact timer fun u hu => hu.off (conditionExpired_only u) rfl
  case scrubCheck => exact timer fun _ hu => hu.scrub
  case alarmPulseToggle => exact timer fun u hu => hu.off (toggleAlarm_only u) rfl
  case storeWritingEnd => exact h.act hm fun u _ hu => hu.off (endStore_only u) rfl
  case sounding | draft | state | ack | order | pour | shoreBeacon => exact receive
  all_goals exact request

/-- A second that passes touches the clock and the timers of BYPASS. -/
theorem advanceSecond (h : s.tonnageSound) : s.advanceSecond.tonnageSound :=
  ite h (ite (h.same rfl rfl rfl rfl fun _ => rfl) (h.same rfl rfl rfl rfl fun _ => rfl))

theorem step (hm : s.modeSound) (h : s.tonnageSound) (he : step s = .next t) : t.tonnageSound := by
  unfold Machine.step at he
  split at he
  case h_1 c rest _ =>
    have hqueue : ({ s with pending := rest } : State).tonnageSound := h.same rfl rfl rfl rfl fun _ => rfl
    exact hqueue.exec (s := { s with pending := rest }) hm he
  case h_2 =>
    split at he
    · exact h.exec hm he
    · obtain rfl := Host.Outcome.next.inj he
      exact h.advanceSecond

end tonnageSound
end State

/-- Settles O59: the tonnage invariant is kept by every operation of the shore unit, and by the rest through its frame. -/
theorem everyStepConservesTonnage : Obligations.EveryStepConservesTonnage :=
  fun _ _ ⟨hmode, htonnage⟩ h => ⟨(State.step_keeps h).mode hmode, htonnage.step hmode h⟩

end Sys2Proof.Machine
end
section
/-! PROOFS. The queue of commands, supply and reset, and the alarm line's pulse: what a step does before any
block is entered. -/

namespace Sys2Proof.Machine

/-- Settles O1: a step takes the front command by definition. -/
theorem stepRunsTheFrontCommand : Obligations.StepRunsTheFrontCommand := fun _ _ _ => rfl

namespace State
variable {s : State}

theorem step_of_due {c : Instr} (hq : s.pending = []) (hc : s.dueEvent = some c) : step s = exec c s := by
  simp only [step, hq, hc]

theorem step_of_idle (hq : s.pending = []) (hd : s.dueEvent = none) : step s = .next s.advanceSecond := by
  simp only [step, hq, hd]

theorem advanceSecond_inCircuit (hp : s.sys.powered = true) (hm : s.sys.mode ≠ .bypass) :
    s.advanceSecond = { s with clock := { s.clock with seconds := s.clock.seconds + 1 } } := by
  simp [advanceSecond, hp, hm]

theorem advanceSecond_bypass (hp : s.sys.powered = true) (hm : s.sys.mode = .bypass) :
    s.advanceSecond
      = { s with sys := { s.sys with settle := s.sys.settle.map Nat.pred, reload := s.sys.reload.map Nat.pred } } := by
  simp [advanceSecond, hp, hm]

theorem settle_only (s : State) (a b : Option Nat) :
    s.onlyChanges [.supply] { s with sys := { s.sys with settle := a, reload := b } } := by
  intro x hx
  cases x <;> simp [agree] at hx ⊢

end State

/-- Settles O2: the two branches of an empty queue, and the two of a passing second. -/
theorem emptyQueueRunsADueEventOrASecond : Obligations.EmptyQueueRunsADueEventOrASecond := by
  intro s hq
  refine ⟨fun c hc => State.step_of_due hq hc, fun hd hp => ⟨_, State.step_of_idle hq hd, fun hm => ?_, fun hm => ?_⟩⟩
  · rw [State.advanceSecond_inCircuit hp hm]
    exact ⟨rfl, State.only_clock _ _⟩
  · rw [State.advanceSecond_bypass hp hm]
    exact ⟨rfl, rfl, State.settle_only _ _ _⟩

/-! ### Resets -/

theorem nth_replicate {α : Type} {n i : Nat} (x d : α) (h : i < n) : nth (Vector.replicate n x) i d = x := by
  simp [nth, h]

namespace State

theorem tank_afterReset (c : ResetCause) (st : ShipStore) (q : List Instr) {i : Nat} (h : i < 32) :
    (afterReset c st q).tank i = TankRec.reset 1025 := nth_replicate _ _ h

theorem station_afterReset (c : ResetCause) (st : ShipStore) (q : List Instr) {i : Nat} (h : i < 64) :
    (afterReset c st q).station i = StationRec.reset none := nth_replicate _ _ h

theorem atReset_afterReset (c : ResetCause) (st : ShipStore) (q : List Instr) : (afterReset c st q).atReset c where
  mode := rfl
  session := ⟨rfl, rfl⟩
  cause := rfl
  clock := rfl
  out := rfl
  faults := ⟨rfl, rfl⟩
  ship := ⟨rfl, rfl, rfl⟩
  plan := rfl
  writing := rfl
  scrub := rfl
  tanks := fun _ h => ⟨1025, tank_afterReset c st q h⟩
  shore := rfl
  engine := rfl
  tracker := rfl
  pacing := rfl
  stations := fun _ h => station_afterReset c st q h
  screen := rfl
  reports := rfl

/-- A reset of any cause restarts the part, with the settle of the cause. -/
theorem restarted_resetNow (s : State) (c : ResetCause) : s.restarted (s.resetNow c) c c.settle :=
  ⟨atReset_afterReset c _ _, rfl, rfl, rfl, rfl, rfl, rfl, rfl⟩

theorem performDue_due {s : State} (h : s.out.resetWait = .due) : s.performDue = s.resetNow .commanded := if_pos h

end State

/-- An unpowered part takes no command. -/
theorem act_unpowered {s : State} (f : State → State) (h : s.sys.powered = false) : act f s = s := by simp [act, h]

theorem exec_unpowered (c : Instr) {s : State} (h : s.sys.powered = false) (hon : c ≠ .powerOn) (hloss : c ≠ .powerLoss) :
    exec c s = .next s := by
  have off : ∀ t : State, (if s.sys.powered then t else s) = s := fun t => by simp [h]
  cases c
  case powerOn => exact absurd rfl hon
  case powerLoss => exact absurd rfl hloss
  case supplyDip | commandedReset => exact congrArg _ (off _)
  all_goals exact congrArg _ (act_unpowered _ h)

/-- Settles O3: every supply event is `resetNow`, and an unpowered part takes no other command. -/
theorem supplyEventsResetThePart : Obligations.SupplyEventsResetThePart := by
  refine ⟨fun s => ⟨_, rfl, s.restarted_resetNow _⟩, fun s hp => ⟨s.resetNow .supplyDip, ?_, s.restarted_resetNow _⟩,
    fun s hp hd => ⟨s.resetNow .commanded, ?_, s.restarted_resetNow _⟩,
    fun s => ⟨_, rfl, rfl, rfl, rfl, rfl, rfl⟩, fun c s h hon hloss => exec_unpowered c h hon hloss⟩
  · exact congrArg _ (if_pos hp)
  · exact congrArg _ ((if_pos hp).trans (State.performDue_due hd))

/-- Settles O60: the reset facts of each invariant. -/
theorem resetStateIsSound : Obligations.ResetStateIsSound :=
  ⟨State.reset.restarted_resetNow .powerOn, State.canonical_reset, State.modeSound_afterReset,
    State.alarmSound_afterReset, Out.sound_iff.2 Out.sound_reset, Faults.sound_reset, State.heldSound_afterReset,
    State.reportsSound_afterReset, State.pausesSound.of_reset rfl nofun, State.tonnageSound.of_reset rfl rfl⟩

/-! ### The alarm line -/

/-- The expiry of a due timer in a part that is ready. -/
theorem act_due {s : State} {due : State → Bool} {f : State → State} (hr : s.ready) (h : due s = true) :
    act (onDue due f) s = f s := (act_ready _ hr).trans (onDue_due f h)

/-- Settles O37: a toggle changes the phase and its time only. -/
theorem alarmTogglesWhilePulsing : Obligations.AlarmTogglesWhilePulsing := by
  intro s hr halarm hdue
  have due : s.alarmToggleDue = true := by simp [State.alarmToggleDue, hr.1, halarm, hdue]
  have off : s.toggleAlarm.alarmOutput = !s.alarmOutput := by
    simp [State.alarmOutput, State.toggleAlarm, hr.1, halarm]
  exact ⟨s.toggleAlarm, congrArg _ (act_due hr due), off, rfl, State.only_faults _ _⟩

end Sys2Proof.Machine
end
section
/-! PROOFS. The passage: the end of a transmission and an offer at a busy port (R110, R111), and the receiver's reading of
a frame (R99, R113). -/

namespace Sys2Proof.Machine

/-- The effect of a command on a part that is ready. -/
theorem exec_ready {c : Instr} {s : State} {f : State → State} (hr : s.ready) (h : exec c s = .next (act f s)) :
    exec c s = .next (f s) := h.trans (congrArg _ (act_ready f hr))

/-- The effect of a timer's expiry that is due. -/
theorem exec_due {c : Instr} {s : State} {due : State → Bool} {f : State → State} (hr : s.ready) (hdue : due s = true)
    (h : exec c s = .next (act (onDue due f) s)) : exec c s = .next (f s) := h.trans (congrArg _ (act_due hr hdue))

/-! ### The end of a transmission (R111) -/

/-- A free transmit side takes the head of the queue. -/
theorem PortState.start_free (p : PortState) :
    PortState.start { p with sending := none } = { p with sending := p.queue.head?, queue := p.queue.tail } := by
  unfold PortState.start
  split
  case h_1 e q _ hq =>
    change p.queue = e :: q at hq
    rw [hq]
    rfl
  case h_2 hne =>
    cases hq : p.queue with
    | nil => simp
    | cons e q => exact absurd hq (hne e q rfl)

/-- A busy transmit side takes nothing. -/
theorem PortState.start_busy {p : PortState} (h : p.sending ≠ none) : p.start = p := by
  unfold PortState.start
  split
  case h_1 hs _ => exact absurd hs h
  case h_2 => rfl

namespace State

/-- The ports after the end of a transmission of `e`. -/
def outAfterSending (s : State) (p : Port) (e : QEntry) : Out :=
  let o := s.out.setPort p { s.out.port p with sending := (s.out.port p).queue.head?, queue := (s.out.port p).queue.tail }
  { o with resetWait := if e.resetReply then .due else o.resetWait }

theorem endTransmission_of_sending {s : State} {p : Port} {e : QEntry} (h : (s.out.port p).sending = some e) :
    s.endTransmission p = { s with out := s.outAfterSending p e } := by
  simp only [endTransmission, outAfterSending, h, PortState.start_free]

end State

/-- A changed reset wait leaves the ports. -/
theorem Out.port_resetWait (o : Out) (w : ResetWait) (q : Port) : ({ o with resetWait := w } : Out).port q = o.port q := by
  cases q <;> rfl

theorem Out.setPort_resetWait (o : Out) (p : Port) (x : PortState) : (o.setPort p x).resetWait = o.resetWait := by
  cases p <;> rfl

theorem Out.setPort_advisories (o : Out) (p : Port) (x : PortState) : (o.setPort p x).advisories = o.advisories := by
  cases p <;> rfl

/-- Settles O8: the head of the queue, by cases on whether there is one. -/
theorem transmissionEndTakesTheNextHead : Obligations.TransmissionEndTakesTheNextHead := by
  intro s p e hr he
  refine ⟨_, (exec_ready hr rfl).trans (congrArg _ (State.endTransmission_of_sending he)), ?_, fun q hq => ?_, ?_, ?_,
    State.only_out _ _⟩
  · exact (Out.port_resetWait _ _ _).trans (Out.port_setPort_same _ _ _)
  · exact (Out.port_resetWait _ _ _).trans (Out.port_setPort_other _ _ hq)
  · simp only [State.outAfterSending, Out.setPort_resetWait]
  · exact Out.setPort_advisories _ _ _

/-! ### An offer at a busy port (R110) -/

/-- In a queue in class order a telegram enters behind its own and lower-numbered classes. -/
theorem insertByClass_eq {e : QEntry} {q : List QEntry} (h : q.Pairwise fun a b => a.cls ≤ b.cls) :
    insertByClass e q = q.filter (fun x => x.cls ≤ e.cls) ++ e :: q.filter (fun x => e.cls < x.cls) := by
  induction q with
  | nil => rfl
  | cons x xs ih =>
    obtain ⟨hx, hxs⟩ := List.pairwise_cons.1 h
    unfold insertByClass
    split
    case isTrue hle => simp [ih hxs, hle]
    case isFalse hle =>
      have hlt : e.cls < x.cls := not_le.1 hle
      have none_below : xs.filter (fun y => y.cls ≤ e.cls) = [] :=
        List.filter_eq_nil_iff.2 fun y hy => by simpa using hlt.trans_le (hx y hy)
      have all_above : xs.filter (fun y => e.cls < y.cls) = xs :=
        List.filter_eq_self.2 fun y hy => by simpa using hlt.trans_le (hx y hy)
      simp [hle, hlt, none_below, all_above]

theorem insertByClass_perm (e : QEntry) (q : List QEntry) : (insertByClass e q).Perm (e :: q) := by
  induction q with
  | nil => exact .refl _
  | cons x xs ih =>
    unfold insertByClass
    split
    · exact (ih.cons x).trans (.swap e x xs)
    · exact .refl _

/-- The newest telegram of a class in a queue. -/
def newestOf (q : List QEntry) (c : Fin 4) : Option QEntry := (q.filter fun x => x.cls = c).getLast?

/-- A queue without its newest telegram of a class. -/
def withoutNewest (q : List QEntry) (c : Fin 4) : List QEntry :=
  q.filter (fun x => x.cls < c) ++ (q.filter fun x => x.cls = c).dropLast ++ q.filter fun x => c < x.cls

/-- In a queue in class order the newest telegram of a class leaves from behind the others of its class. -/
theorem takeNewest_eq {c : Fin 4} {q : List QEntry} (h : q.Pairwise fun a b => a.cls ≤ b.cls) :
    takeNewest c q = (newestOf q c).map fun v => (v, withoutNewest q c) := by
  induction q with
  | nil => rfl
  | cons x xs ih =>
    obtain ⟨hx, hxs⟩ := List.pairwise_cons.1 h
    have none_below : c ≤ x.cls → xs.filter (fun y => y.cls < c) = [] := fun hc =>
      List.filter_eq_nil_iff.2 fun y hy => by simpa using hc.trans (hx y hy)
    rw [takeNewest, ih hxs]
    unfold newestOf withoutNewest
    cases hl : xs.filter fun y => y.cls = c with
    | nil =>
      have all_above : c ≤ x.cls → xs.filter (fun y => c < y.cls) = xs := fun hc =>
        List.filter_eq_self.2 fun y hy => by
          have hne : y.cls ≠ c := by simpa using List.filter_eq_nil_iff.1 hl y hy
          simpa using lt_of_le_of_ne (hc.trans (hx y hy)) hne.symm
      by_cases hc : x.cls = c
      · simp [hl, hc, none_below hc.ge, all_above hc.ge]
      · simp [hl, hc]
    | cons y ys =>
      have hy : y ∈ xs ∧ y.cls = c := by simpa using (hl ▸ List.mem_cons_self : y ∈ xs.filter fun y => y.cls = c)
      obtain hlt | heq := (hy.2 ▸ hx y hy.1 : x.cls ≤ c).lt_or_eq
      · simp [hl, hlt, hlt.ne, hlt.not_gt, List.getLast?_cons]
      · simp [hl, heq, none_below heq.ge, List.getLast?_cons]

/-- Taking the newest telegram of a class reorders nothing but that telegram. -/
theorem takeNewest_perm {c : Fin 4} {q r : List QEntry} {v : QEntry} (h : takeNewest c q = some (v, r)) :
    q.Perm (v :: r) := by
  induction q generalizing v r with
  | nil => cases h
  | cons x xs ih =>
    unfold takeNewest at h
    split at h
    case h_1 hrest =>
      cases h
      exact ((ih hrest).cons x).trans (.swap _ _ _)
    case h_2 =>
      split at h
      case isTrue => cases h; exact .refl _
      case isFalse => cases h

/-- The telegram that an offer of class 0 or 1 evicts from a full queue in class order. -/
theorem evicted_eq {q : List QEntry} (h : q.Pairwise fun a b => a.cls ≤ b.cls) :
    (takeNewest 3 q).or (takeNewest 2 q)
      = ((newestOf q 3).or (newestOf q 2)).map fun v => (v, withoutNewest q v.cls) := by
  have cls_of : ∀ {c v}, newestOf q c = some v → v.cls = c := fun hv => by
    simpa using List.of_mem_filter (List.mem_of_getLast? hv)
  rw [takeNewest_eq h, takeNewest_eq h]
  cases h3 : newestOf q 3 with
  | some v => simp [cls_of h3]
  | none =>
    cases h2 : newestOf q 2 with
    | some v => simp [cls_of h2]
    | none => rfl

theorem evicted_perm {q r : List QEntry} {v : QEntry} (h : (takeNewest 3 q).or (takeNewest 2 q) = some (v, r)) :
    q.Perm (v :: r) := by
  obtain h3 | ⟨-, h2⟩ := Option.or_eq_some_iff.1 h
  · exact takeNewest_perm h3
  · exact takeNewest_perm h2

namespace PortState
variable {p : PortState} {n : Nat} {e : QEntry}

theorem drops_countDrop (p : PortState) (c : Fin 4) :
    nth (p.countDrop c).queueDrops c 0 = satSucc (nth p.queueDrops c 0) := nth_upd_same _ _ _ _ c.isLt

theorem offer_room (hbusy : p.sending ≠ none) (hroom : p.queue.length < n) :
    p.offer n e = { port := { p with queue := insertByClass e p.queue }, ok := true, lost := none } := by
  rw [offer, if_pos hroom, start_busy]
  exact hbusy

theorem offer_dropped (hfull : n ≤ p.queue.length) (hc : 2 ≤ e.cls) :
    p.offer n e = { port := p.countDrop e.cls, ok := false, lost := some e } :=
  (if_neg (not_lt.2 hfull)).trans (if_pos hc)

theorem offer_evicts (hbusy : p.sending ≠ none) (hfull : n ≤ p.queue.length) (hc : e.cls < 2) {v : QEntry} {q : List QEntry}
    (hv : (takeNewest 3 p.queue).or (takeNewest 2 p.queue) = some (v, q)) :
    p.offer n e = { port := ({ p with queue := insertByClass e q } : PortState).countDrop v.cls
                    ok := true, lost := some v } := by
  rw [offer, if_neg (not_lt.2 hfull), if_neg (not_le.2 hc), hv]
  dsimp only
  rw [start_busy]
  exact hbusy

theorem offer_lost (hfull : n ≤ p.queue.length) (hc : e.cls < 2)
    (hv : (takeNewest 3 p.queue).or (takeNewest 2 p.queue) = none) :
    p.offer n e = { port := p.countDrop e.cls, ok := false, lost := some e } := by
  rw [offer, if_neg (not_lt.2 hfull), if_neg (not_le.2 hc), hv]

end PortState

/-- Settles O9, case by case along the branches of an offer. -/
theorem offerFollowsClassAndAge : Obligations.OfferFollowsClassAndAge := by
  intro p n e hbusy horder
  refine ⟨fun hroom => ?_, fun hfull hc => ?_, fun hfull hc v hv => ?_, fun hfull hc hv => ?_⟩
  · rw [PortState.offer_room hbusy hroom, insertByClass_eq horder]
    exact ⟨rfl, rfl, rfl⟩
  · rw [PortState.offer_dropped hfull hc]
    exact ⟨rfl, rfl, rfl, PortState.drops_countDrop _ _⟩
  · have htake : (takeNewest 3 p.queue).or (takeNewest 2 p.queue) = some (v, withoutNewest p.queue v.cls) := by
      rw [evicted_eq horder]
      exact congrArg (Option.map _) hv
    obtain ⟨hsub, hlen⟩ := PortState.evicted_some htake
    have hrest := horder.sublist hsub
    rw [PortState.offer_evicts hbusy hfull hc htake]
    refine ⟨rfl, rfl, ?_, insertByClass_eq hrest, ?_, pairwise_insertByClass hrest, PortState.drops_countDrop _ _⟩
    · exact (insertByClass_length _ _).trans hlen.symm
    · have hperm : (e :: p.queue).Perm (e :: v :: withoutNewest p.queue v.cls) := (evicted_perm htake).cons e
      exact hperm.trans ((List.Perm.swap _ _ _).trans ((insertByClass_perm _ _).symm.cons v))
  · have htake : (takeNewest 3 p.queue).or (takeNewest 2 p.queue) = none := by
      rw [evicted_eq horder]
      exact congrArg (Option.map _) hv
    rw [PortState.offer_lost hfull hc htake]
    exact ⟨rfl, rfl, rfl⟩

/-! ### Frames (R99, R113) -/

theorem byteOf_toNat {n : Nat} (h : n < 256) : (byteOf n 0).toNat = n := by
  simp [byteOf, Nat.mod_eq_of_lt h]

/-- The receiver reads a telegram back from its frame. -/
theorem parseFrame_frame (t : Telegram) (h : t.payload.length ≤ 56) : parseFrame t.frame = some t := by
  have hlen : (byteOf t.payload.length 0).toNat = t.payload.length := byteOf_toNat (by omega)
  simp [parseFrame, Telegram.frame, Telegram.header, Telegram.check, hlen, h, enc2]

theorem State.receiveFrame_frame (s : State) (p : Port) {t : Telegram} (h : t.payload.length ≤ 56) :
    s.receiveFrame p t.frame = s.receive p t := by
  rw [receiveFrame, parseFrame_frame t h]

/-- A frame of a telegram has the effect of the telegram. -/
theorem exec_frame (s : State) (p : Port) {t : Telegram} (h : t.payload.length ≤ 56) :
    exec (.frameReceive p t.frame) s = .next (act (State.receive · p t) s) := by
  have hf : (fun u : State => u.receiveFrame p t.frame) = fun u => u.receive p t :=
    funext fun u => u.receiveFrame_frame p h
  exact congrArg (fun f => Host.Outcome.next (act f s)) hf

theorem statePayload_length (r : StateReport) : (statePayload r).length ≤ 56 := by
  cases r <;> simp [statePayload, enc2]

/-- Settles O6: the reader run on the bytes of each field, then one case for each kind of telegram. -/
theorem framesArriveAsTheirTelegrams : Obligations.FramesArriveAsTheirTelegrams := by
  refine ⟨parseFrame_frame, fun s _ _ _ _ _ _ => exec_frame s _ ?_, fun s _ _ _ _ _ _ => exec_frame s _ ?_,
    fun s _ _ _ r => exec_frame s _ (statePayload_length r), fun s _ _ _ _ _ _ _ => exec_frame s _ ?_,
    fun s _ _ _ _ _ _ => exec_frame s _ ?_, fun s _ _ _ _ _ _ _ _ => exec_frame s _ ?_,
    fun s _ _ _ _ h => exec_frame s _ h, fun s src seq code args hr hl => ?_⟩
  case refine_6 =>
    have hframe := exec_frame s .console (t := ⟨s.bank.ownAddress, src, kindMgmt, seq, code :: args⟩) (Nat.succ_le_succ hl)
    exact hframe.trans (congrArg _ (act_ready _ hr))
  all_goals simp [soundingTelegram, draftTelegram, ackTelegram, consoleOrderTelegram, pourTelegram, soundingPayload,
    draftPayload, pourPayload, enc2, enc4]

end Sys2Proof.Machine
end
section
/-! PROOFS. What sending leaves alone: an offer, and whatever an operation sends, counts no advisory but QUEUE_DROP and
moves no counter of a port (R98, R112, R180); an offer with room loses nothing, and an idle port transmits it at once
(R110, R111). -/

namespace Sys2Proof.Machine

/-- The counters of a port that arrivals move (R98). -/
def PortState.counters (p : PortState) : List Nat :=
  [p.accepted, p.badFrames, p.foreignSource, p.misdirected, p.trapped, p.routeDropped]

theorem PortState.counters_start (p : PortState) : p.start.counters = p.counters := by
  unfold PortState.start
  split <;> rfl

theorem PortState.counters_offer (p : PortState) (n : Nat) (e : QEntry) : (p.offer n e).port.counters = p.counters := by
  unfold PortState.offer
  split
  · exact counters_start _
  · split
    · rfl
    · split
      · exact counters_start _
      · rfl

namespace Out

/-- The counter of an advisory. -/
def advised (o : Out) (k : Advisory) : Nat := nth o.advisories k.index 0

/-- Only QUEUE_DROP may have been counted, and no arrival. -/
structure quiet (o o' : Out) : Prop where
  counters : ∀ p, (o'.port p).counters = (o.port p).counters
  advised : ∀ k, k ≠ .queueDrop → o'.advised k = o.advised k

theorem quiet.refl (o : Out) : o.quiet o := ⟨fun _ => rfl, fun _ _ => rfl⟩

theorem quiet.trans {o p q : Out} (h : o.quiet p) (k : p.quiet q) : o.quiet q :=
  ⟨fun x => (k.counters x).trans (h.counters x), fun x hx => (k.advised x hx).trans (h.advised x hx)⟩

theorem advised_of_eq {o o' : Out} (h : o'.advisories = o.advisories) (k : Advisory) : o'.advised k = o.advised k :=
  congrArg (nth · k.index 0) h

/-- A port replaced by one with the same counters. -/
theorem quiet_setPort (o : Out) (p : Port) {x : PortState} (h : x.counters = (o.port p).counters) :
    o.quiet (o.setPort p x) := by
  refine ⟨fun q => ?_, fun k _ => advised_of_eq (setPort_advisories o p x) k⟩
  by_cases hq : q = p
  · rw [hq, port_setPort_same]
    exact h
  · rw [port_setPort_other o x hq]

theorem quiet_afterLoss (o : Out) (p : Port) (l : Option QEntry) : o.quiet (o.afterLoss p l).1 := by
  refine ⟨fun q => congrArg _ (afterLoss_port o p q l), fun k _ => advised_of_eq ?_ k⟩
  unfold afterLoss
  split <;> rfl

theorem quiet_offer (o : Out) (p : Port) (e : QEntry) : o.quiet (o.offer p e).1 :=
  (quiet_setPort o p (PortState.counters_offer _ _ _)).trans (quiet_afterLoss _ _ _)

theorem quiet_make (o : Out) (b : ShipBank) (p : Port) (k : Byte) (x : List Byte) : o.quiet (o.make b p k x).2 :=
  quiet_setPort o p rfl

theorem quiet_alertCopy (o : Out) (b : ShipBank) (t : Stamp) (a : Alert) (p : Port) : o.quiet (o.alertCopy b t a p).1 :=
  (quiet_make o b p _ _).trans (quiet_offer _ _ _)

theorem quiet_alertOnce (o : Out) (b : ShipBank) (t : Stamp) (a : Alert) : o.quiet (o.alertOnce b t a).1 := by
  have hc : o.quiet (if b.alertConsole a.severity then o.alertCopy b t a .console else (o, [])).1 := by
    split
    · exact quiet_alertCopy o b t a _
    · exact .refl o
  unfold alertOnce
  dsimp only
  split
  · exact hc.trans (quiet_alertCopy _ b t a _)
  · exact hc

theorem advised_count_other (o : Out) {j k : Advisory} (h : j ≠ k) : (o.count k).advised j = o.advised j :=
  nth_upd_other _ _ _ _ _ fun hi => h (by cases j <;> cases k <;> simp_all [Advisory.index])

theorem advised_count_same (o : Out) (k : Advisory) : (o.count k).advised k = satSucc (o.advised k) :=
  nth_upd_same _ _ _ _ (by cases k <;> decide)

theorem count_port (o : Out) (k : Advisory) (p : Port) : (o.count k).port p = o.port p := by cases p <;> rfl

theorem quiet_drops (b : ShipBank) (t : Stamp) (n : Nat) (ls : List Loss) (o : Out) : o.quiet (Out.drops b t n ls o) := by
  induction n generalizing ls o with
  | zero => exact .refl o
  | succ n ih =>
    cases ls with
    | nil => exact .refl o
    | cons l ls =>
      have hcount : o.quiet (o.count .queueDrop) :=
        ⟨fun p => congrArg _ (count_port o _ p), fun k hk => advised_count_other o hk⟩
      exact (hcount.trans (quiet_alertOnce _ b t _)).trans (ih _ _)

theorem quiet_settleDrops (b : ShipBank) (t : Stamp) (r : Out × List Loss) : r.1.quiet (Out.settleDrops b t r) :=
  quiet_drops b t _ _ _

/-- With nothing lost no QUEUE_DROP follows. -/
theorem settleDrops_nil (b : ShipBank) (t : Stamp) (o : Out) : Out.settleDrops b t (o, []) = o := by
  unfold settleDrops
  cases (o, ([] : List Loss)).1.dropFuel (o, ([] : List Loss)).2 <;> rfl

end Out

namespace State

/-- Only QUEUE_DROP may have been counted, and no arrival. -/
abbrev quiet (s t : State) : Prop := s.out.quiet t.out

theorem onlyChanges.quiet {s t : State} {l : List Block} (h : s.onlyChanges l t) (n : Block.out ∉ l) : s.quiet t := by
  unfold State.quiet
  rw [h.out n]
  exact .refl _

theorem quiet_forEach (is : List Nat) (f : Nat → State → State) (h : ∀ i s, State.quiet s (f i s)) (s : State) :
    s.quiet (forEach is f s) := by
  unfold forEach
  induction is generalizing s with
  | nil => exact .refl _
  | cons i is ih => exact (h i s).trans (ih _)

theorem quiet_offer (s : State) (p : Port) (e : QEntry) : s.quiet (s.offer p e).1 :=
  (Out.quiet_offer s.out p e).trans (Out.quiet_settleDrops _ _ _)

theorem quiet_send (s : State) (p : Port) (t : Telegram) : s.quiet (s.send p t).1 := quiet_offer s p _

theorem quiet_originate (s : State) (p : Port) (k : Byte) (x : List Byte) : s.quiet (s.originate p k x) :=
  (Out.quiet_make s.out s.bank p k x).trans
    (quiet_send ({ s with out := (s.out.make s.bank p k x).2 } : State) p (s.out.make s.bank p k x).1)

theorem quiet_alert (s : State) (a : Alert) : s.quiet (s.alert a) :=
  (Out.quiet_alertOnce s.out _ _ a).trans (Out.quiet_settleDrops _ _ _)

theorem quiet_syntheticAck (s : State) (c q st : Byte) (o r : Nat) : s.quiet (s.syntheticAck c q st o r) :=
  quiet_send s _ _

/-- An advisory counts itself alone. -/
theorem advised_advise (s : State) {k : Advisory} (x : Nat) (hk : k ≠ .queueDrop) :
    (s.advise k x).out.advised k = satSucc (s.out.advised k) :=
  ((quiet_alert _ _).advised k hk).trans (Out.advised_count_same s.out k)

theorem advised_advise_other (s : State) {j k : Advisory} (x : Nat) (hj : j ≠ .queueDrop) (h : j ≠ k) :
    (s.advise k x).out.advised j = s.out.advised j :=
  ((quiet_alert _ _).advised j hj).trans (Out.advised_count_other s.out h)

theorem counters_advise (s : State) (k : Advisory) (x : Nat) (p : Port) :
    ((s.advise k x).out.port p).counters = (s.out.port p).counters :=
  ((quiet_alert _ _).counters p).trans (congrArg _ (Out.count_port s.out k p))

/-! ### Faults, records and pacing -/

theorem quiet_withFaults (s : State) (f : Faults) (k : FaultKind) (x tr c : Nat) : s.quiet (s.withFaults f k x tr c) :=
  quiet_alert _ _

theorem quiet_raiseFault (s : State) (k : FaultKind) (x : Nat) : s.quiet (s.raiseFault k x) := by
  unfold raiseFault
  split
  · exact .refl _
  · exact (quiet_withFaults s _ k x _ _).trans ((enterSafeOn_only _ k).quiet (by decide))

theorem quiet_clearFault (s : State) (k : FaultKind) (x : Nat) : s.quiet (s.clearFault k x) := by
  unfold clearFault
  split
  · exact .refl _
  · exact quiet_withFaults s _ k x _ _

theorem quiet_judgeFault (s : State) (k : FaultKind) (x : Nat) (up down : Bool) : s.quiet (s.judgeFault k x up down) := by
  unfold judgeFault
  split
  · exact quiet_raiseFault s k x
  · split
    · exact quiet_clearFault s k x
    · exact .refl _

theorem quiet_emitTo (s : State) (p : Port) (r : ReportRec) : s.quiet (s.emitTo p r) :=
  quiet_forEach _ _ (fun _ s => quiet_originate s _ _ _) s

theorem quiet_emit (s : State) (r : ReportRec) : s.quiet (s.emit r) := by
  unfold emit
  dsimp only
  split
  · exact (quiet_emitTo s _ r).trans (quiet_emitTo _ _ r)
  · exact quiet_emitTo s _ r

theorem quiet_makeRecord (s : State) (k : RecordKind) (p g : Bool) (b : List Int) : s.quiet (s.makeRecord k p g b) :=
  ((only_reports s _).quiet (by decide)).trans (quiet_emit _ _)

theorem quiet_sendPause (s : State) (l : Nat) : s.quiet (s.sendPause l) := quiet_originate s _ _ _

theorem quiet_openEpisode (s : State) (l : Nat) : s.quiet (s.openEpisode l) := by
  have h : s.quiet
      ((s.modPause l fun p => { p with state := .pauseSent (s.newEpisode l), timer := s.confirmDeadline }).sendPause l) :=
    quiet_sendPause (s.modPause l _) l
  unfold openEpisode
  dsimp only
  split
  · exact h.trans ((modStep_only _ _).quiet (by decide))
  · exact h

theorem quiet_closeEpisode (s : State) (l : Nat) (e : Episode) : s.quiet (s.closeEpisode l e) := by
  unfold closeEpisode
  split
  · exact quiet_makeRecord s _ _ _ _
  · exact .refl _

theorem quiet_release (s : State) (l : Nat) : s.quiet (s.release l) := by
  have h : s.quiet
      ((((s.originate .shore kindResume (enc1 l)).modPause l fun p => { p with state := .free, timer := none }).clearFault
        .pauseUnconfirmed l).clearFault .overpour l) :=
    have hsent := quiet_originate s .shore kindResume (enc1 l)
    have hfreed := (modPause_only (s.originate .shore kindResume (enc1 l)) l
      fun p => { p with state := .free, timer := none }).quiet (by decide)
    (hsent.trans hfreed).trans ((quiet_clearFault _ _ _).trans (quiet_clearFault _ _ _))
  have told : ∀ {d : State}, s.quiet d → s.quiet (if d.notFree = 0 then d.tellFree else d) := fun {d} hd => by
    split
    · exact hd.trans ((modStep_only d _).quiet (by decide))
    · exact hd
  unfold release
  dsimp only
  cases (s.pause l).state.episode with
  | none => exact told h
  | some e => exact told (h.trans (quiet_closeEpisode _ _ _))

theorem quiet_actLoader (s : State) (l : Nat) (b : ReasonSet) (f : Bool) : s.quiet (s.actLoader l b f) := by
  unfold actLoader
  dsimp only
  split
  · split
    · exact .refl _
    · exact quiet_openEpisode s l
  · split
    · exact quiet_release s l
    · split
      · exact .refl _
      · exact quiet_sendPause (s.modPause l _) l

theorem quiet_actOn (s : State) (b : Nat → ReasonSet) (f : Option Nat) : s.quiet (s.actOn b f) :=
  quiet_forEach _ _ (fun _ s => quiet_actLoader s _ _ _) s

/-- An event that only changes reason sets sends what acting on them sends. -/
theorem quiet_pacingEvent (s : State) (f : State → State) (h : s.onlyChanges [.pacing] (f s)) : s.quiet (s.pacingEvent f) :=
  (h.quiet (by decide)).trans (quiet_actOn _ _ _)

/-! ### Room -/

/-- An offer with room enters or begins its transmission and loses nothing. -/
theorem offer_room {s : State} {p : Port} (h : (s.out.port p).queue.length < portCapacity p) (e : QEntry) :
    s.offer p e = ({ s with out := s.out.setPort p ((s.out.port p).offer (portCapacity p) e).port }, true) := by
  have hoffer : s.out.offer p e = (s.out.setPort p ((s.out.port p).offer (portCapacity p) e).port, true, []) := by
    simp only [Out.offer, PortState.offer, if_pos h]
    rfl
  simp only [offer, hoffer, Out.settleDrops_nil]

/-- A port that sends nothing and holds nothing. -/
def idle (s : State) (p : Port) : Prop := (s.out.port p).queue = [] ∧ (s.out.port p).sending = none

/-- An idle port transmits what is offered at once. -/
theorem offer_idle {s : State} {p : Port} (h : s.idle p) (e : QEntry) :
    s.offer p e = ({ s with out := s.out.setPort p { s.out.port p with sending := some e } }, true) := by
  obtain ⟨hq, hs⟩ := h
  have hroom : (s.out.port p).queue.length < portCapacity p := by
    rw [hq]
    cases p <;> decide
  have hport : ((s.out.port p).offer (portCapacity p) e).port = { s.out.port p with sending := some e } := by
    rw [PortState.offer, if_pos hroom]
    simp only [PortState.start, hq, hs, insertByClass]
  rw [offer_room hroom, hport]

end State

end Sys2Proof.Machine
end
section
/-! PROOFS. How an arrival reaches its block: the fields of a payload read back, a telegram from another node accepted,
and the onward path after the block (R99, R100, R102, R105, R114). -/

namespace Sys2Proof.Machine

/-! ### Fields (R114) -/

theorem beNat_singleton (b : Byte) : beNat [b] = b.toNat := by simp [beNat]

theorem beNat_enc2 {n : Nat} (h : n < 65536) : beNat (enc2 n) = n := by
  simp [beNat, enc2, byteOf]
  omega

theorem beNat_enc4 {n : Nat} (h : n < 4294967296) : beNat (enc4 n) = n := by
  simp [beNat, enc4, byteOf]
  omega

/-! ### Acceptance (R99) -/

/-- A telegram that fits, from a node to an address, with the length of its kind. -/
theorem Telegram.acceptable_of {t : Telegram} (hl : t.payload.length ≤ 56) (h0 : t.src ≠ 0) (h255 : t.src ≠ 255)
    (hd : t.dst ≠ 0) (hk : kindLengthOk t.kind t.payload = true) : t.acceptable = true := by
  simp only [Telegram.acceptable, hk, decide_eq_true hl, Bool.and_true, Bool.true_and, Bool.and_eq_true, bne_iff_ne]
  exact ⟨⟨h0, h255⟩, hd⟩

namespace State
variable {s : State}

theorem inService.ready (h : s.inService) : s.ready := h.1
theorem inService.working (h : s.inService) : s.working = true := h.2

theorem inService.inCircuit (h : s.inService) : s.inCircuit := ⟨h.1, not_bypass_of_working h.2⟩

/-- A telegram of an inspected kind on the field port is inspected and goes on (R102). -/
theorem receive_inspected {t : Telegram} (h : s.inService) (hsrc : s.otherNode t.src) (hd : t.dst ≠ 0)
    (hl : t.payload.length ≤ 56) (hk : kindLengthOk t.kind t.payload = true) (ho : t.kind ≠ kindOrder)
    (hm : t.kind ≠ kindMgmt) :
    s.receive .field t
      = ((s.countAccepted .field).inspect t).1.onwardField t ((s.countAccepted .field).inspect t).2 :=
  receive_field h.working (Telegram.acceptable_of hl hsrc.1 hsrc.2.1 hd hk) hsrc.2.2 ho hm

/-- A telegram on the shore port to the part or to all reaches the shore line unit (R105). -/
theorem receive_taken {t : Telegram} (h : s.inService) (hsrc : s.otherNode t.src) (hd : t.dst ≠ 0)
    (hdst : t.dst = s.bank.ownAddress ∨ t.dst = allNodes) (hl : t.payload.length ≤ 56)
    (hk : kindLengthOk t.kind t.payload = true) : s.receive .shore t = (s.countAccepted .shore).takeShore t := by
  rw [receive_shore h.working (Telegram.acceptable_of hl hsrc.1 hsrc.2.1 hd hk) hsrc.2.2]
  exact (if_pos hdst).trans (if_pos h.working)

/-! ### The onward path (R102, R104) -/

theorem advised_modPort (s : State) (p : Port) (f : PortState → PortState) (k : Advisory) :
    (s.modPort p f).out.advised k = s.out.advised k := Out.advised_of_eq (Out.setPort_advisories _ _ _) k

theorem advised_applyAction (s : State) (a : Action) (p q : Port) (t : Telegram) {k : Advisory} (hk : k ≠ .queueDrop) :
    (s.applyAction a p q t).out.advised k = s.out.advised k := by
  unfold applyAction
  cases a
  case pass => exact (quiet_send s q t).advised k hk
  case trap => exact advised_modPort s p _ k
  case drop => exact advised_modPort s p _ k

theorem advised_onwardField (s : State) (t : Telegram) (i : Inspected) {k : Advisory} (hk : k ≠ .queueDrop) :
    (s.onwardField t i).out.advised k = s.out.advised k := by
  unfold onwardField
  split
  · rfl
  · split
    · split
      · exact advised_modPort s _ _ k
      · rfl
    · split
      · rfl
      · exact advised_applyAction s _ _ _ t hk

theorem advised_countAccepted (s : State) (p : Port) (k : Advisory) :
    (s.countAccepted p).out.advised k = s.out.advised k := advised_modPort s p _ k

end State

end Sys2Proof.Machine
end
section
/-! PROOFS. Tank accounting (chapter 1): what a judgement of movement makes of a tank record, the samples that are
rejected and accepted, gauge loss and the still interval. -/

namespace Sys2Proof.Machine

/-! ### The movement of a record (R15, R16) -/

/-- A record that changes to FILLING: with a port water density, the mass of the same volume at it (R10). -/
def TankRec.fill (r : TankRec) (now : Nat) (port : Option Int) (o : Operation) : TankRec :=
  match port with
  | some d =>
    { r with density := d, source := .port, mass := massOf r.volume d
             motion := .filling { mass := massOf r.volume d, time := now } o }
  | none => { r with motion := .filling { mass := r.mass, time := now } o }

/-- What a judgement of movement makes of a record, with the port water density of an open session. -/
def TankRec.judged (r : TankRec) (now : Nat) (threshold : Int) (port : Option Int) : TankRec :=
  let here : MassAt := { mass := r.mass, time := now }
  match r.motion with
  | .still none => { r with motion := .still (some here) }
  | .still (some a) =>
    let o : Operation := { startMass := a.mass, startTime := now, gaugeLost := false }
    if r.mass ≤ a.mass - threshold then { r with motion := .emptying here o }
    else if a.mass + threshold ≤ r.mass then r.fill now port o
    else r
  | .emptying e o =>
    if r.mass < e.mass then { r with motion := .emptying here o }
    else if e.mass + threshold ≤ r.mass then
      r.fill now port { startMass := e.mass, startTime := e.time, gaugeLost := false }
    else r
  | .filling e o =>
    if e.mass < r.mass then { r with motion := .filling here o }
    else if r.mass ≤ e.mass - threshold then
      { r with motion := .emptying here { startMass := e.mass, startTime := e.time, gaugeLost := false } }
    else r

namespace TankRec
variable {r : TankRec} {now : Nat} {th : Int} {port : Option Int}

theorem motion_fill (o : Operation) : (r.fill now port o).motion = .filling { mass := (r.fill now port o).mass, time := now } o := by
  cases port <;> rfl

theorem fill_none (o : Operation) :
    r.fill now none o = { r with motion := .filling { mass := r.mass, time := now } o } := rfl

/-- A judgement that turns the tank to FILLING fills it. -/
theorem judged_turns (h : r.motion.turnsToFilling r.mass th = true) : ∃ o, r.judged now th port = r.fill now port o := by
  unfold judged
  cases hm : r.motion with
  | still a =>
    cases a with
    | none => simp [hm, Motion.turnsToFilling] at h
    | some a =>
      simp only [hm, Motion.turnsToFilling, Bool.and_eq_true, decide_eq_true_eq] at h
      exact ⟨_, (if_neg (not_le.2 h.1)).trans (if_pos h.2)⟩
  | emptying e o =>
    simp only [hm, Motion.turnsToFilling, Bool.and_eq_true, decide_eq_true_eq] at h
    exact ⟨_, (if_neg (not_lt.2 h.1)).trans (if_pos h.2)⟩
  | filling e o => simp [hm, Motion.turnsToFilling] at h

/-- Any other judgement touches nothing but the movement state, and leaves FILLING to a tank that was filling. -/
theorem judged_stays (h : r.motion.turnsToFilling r.mass th = false) :
    ∃ m, r.judged now th port = { r with motion := m } ∧ (m.isFilling = true → r.motion.isFilling = true) := by
  have keep : ∀ {x : TankRec}, x = r → ∃ m, x = { r with motion := m } ∧ (m.isFilling = true → r.motion.isFilling = true) :=
    fun hx => ⟨r.motion, hx, id⟩
  unfold judged
  cases hm : r.motion with
  | still a =>
    rw [hm] at keep
    cases a with
    | none => exact ⟨_, rfl, nofun⟩
    | some a =>
      simp only [hm, Motion.turnsToFilling, Bool.and_eq_false_iff, decide_eq_false_iff_not] at h
      dsimp only
      split
      · exact ⟨_, rfl, nofun⟩
      · rw [if_neg (by omega)]
        exact keep rfl
  | emptying e o =>
    rw [hm] at keep
    simp only [hm, Motion.turnsToFilling, Bool.and_eq_false_iff, decide_eq_false_iff_not] at h
    dsimp only
    split
    · exact ⟨_, rfl, nofun⟩
    · rw [if_neg (by omega)]
      exact keep rfl
  | filling e o =>
    rw [hm] at keep
    dsimp only
    split
    · exact ⟨_, rfl, fun _ => rfl⟩
    · split
      · exact ⟨_, rfl, nofun⟩
      · exact keep rfl

theorem not_filling_of_turns (h : r.motion.turnsToFilling r.mass th = true) : r.motion.isFilling = false := by
  cases hm : r.motion with
  | still a => rfl
  | emptying e o => rfl
  | filling e o => simp [hm, Motion.turnsToFilling] at h

/-- A judgement turns to FILLING exactly as the rule says. -/
theorem turns_eq : r.motion.turnsToFilling r.mass th = ((r.judged now th port).motion.isFilling && !r.motion.isFilling) := by
  cases h : r.motion.turnsToFilling r.mass th with
  | true =>
    obtain ⟨o, ho⟩ := judged_turns (now := now) (port := port) h
    rw [ho, motion_fill, not_filling_of_turns h]
    rfl
  | false =>
    obtain ⟨m, hm, hf⟩ := judged_stays (now := now) (port := port) h
    rw [hm]
    cases hmf : m.isFilling with
    | true => simp [hf hmf]
    | false => simp

/-- The fields that a judgement of movement never touches. -/
theorem judged_volume : (r.judged now th port).volume = r.volume ∧ (r.judged now th port).rawLevel = r.rawLevel
    ∧ (r.judged now th port).trimUsed = r.trimUsed ∧ (r.judged now th port).corrected = r.corrected
    ∧ (r.judged now th port).gauge = r.gauge ∧ (r.judged now th port).uncertainty = r.uncertainty
    ∧ (r.judged now th port).lastAccepted = r.lastAccepted ∧ (r.judged now th port).gaugeTimer = r.gaugeTimer
    ∧ (r.judged now th port).rejectRun = r.rejectRun ∧ (r.judged now th port).accepted = r.accepted
    ∧ (r.judged now th port).rejected = r.rejected ∧ (r.judged now th port).lastSample = r.lastSample := by
  cases h : r.motion.turnsToFilling r.mass th with
  | true =>
    obtain ⟨o, ho⟩ := judged_turns (now := now) (port := port) h
    rw [ho]
    cases port <;> exact ⟨rfl, rfl, rfl, rfl, rfl, rfl, rfl, rfl, rfl, rfl, rfl, rfl⟩
  | false =>
    obtain ⟨m, hm, -⟩ := judged_stays (now := now) (port := port) h
    rw [hm]
    exact ⟨rfl, rfl, rfl, rfl, rfl, rfl, rfl, rfl, rfl, rfl, rfl, rfl⟩

/-- A change to FILLING at a port water density takes it, with the mass of the same volume. -/
theorem judged_port {d : Int} (h : r.motion.turnsToFilling r.mass th = true) :
    (r.judged now th (some d)).density = d ∧ (r.judged now th (some d)).source = .port
      ∧ (r.judged now th (some d)).mass = massOf r.volume d := by
  obtain ⟨o, ho⟩ := judged_turns (now := now) (port := some d) h
  rw [ho]
  exact ⟨rfl, rfl, rfl⟩

/-- Every other judgement keeps density, source and mass. -/
theorem judged_keeps (h : r.motion.turnsToFilling r.mass th = false ∨ port = none) :
    (r.judged now th port).density = r.density ∧ (r.judged now th port).source = r.source
      ∧ (r.judged now th port).mass = r.mass := by
  cases ht : r.motion.turnsToFilling r.mass th with
  | true =>
    obtain rfl := h.resolve_left (by simp [ht])
    obtain ⟨o, ho⟩ := judged_turns (now := now) (port := none) ht
    rw [ho]
    exact ⟨rfl, rfl, rfl⟩
  | false =>
    obtain ⟨m, hm, -⟩ := judged_stays (now := now) (port := port) ht
    rw [hm]
    exact ⟨rfl, rfl, rfl⟩

/-- The mass of a judged record is that of its volume at its density, where it was before. -/
theorem judged_mass (h : r.mass = massOf r.volume r.density) :
    (r.judged now th port).mass = massOf r.volume (r.judged now th port).density := by
  cases ht : r.motion.turnsToFilling r.mass th with
  | true =>
    obtain ⟨o, ho⟩ := judged_turns (now := now) (port := port) ht
    rw [ho]
    cases port with
    | none => exact h
    | some d => rfl
  | false =>
    obtain ⟨hd, -, hm⟩ := judged_keeps (now := now) (port := port) (.inl ht)
    rw [hd, hm, h]

end TankRec

namespace State
variable {s : State} {k : Nat}

/-- The port water density while a session is open (R10). -/
def portNow (s : State) : Option Int := if s.sys.sessionOpen then some s.plan.portDensity else none

theorem portNow_open (h : s.sys.sessionOpen = true) : s.portNow = some s.plan.portDensity := if_pos h

theorem portNow_closed (h : s.sys.sessionOpen = false) : s.portNow = none := if_neg (by simp [h])

theorem tank_out_of_range (s : State) (h : 32 ≤ k) : s.tank k = TankRec.reset 0 := by simp [State.tank, nth, h]

theorem tank_setMotion (s : State) (hk : k < 32) (m : Motion) : (s.setMotion k m).tank k = { s.tank k with motion := m } :=
  tank_modTank s k _ hk

theorem tank_startFilling (s : State) (hk : k < 32) (o : Operation) :
    (s.startFilling k o).tank k = (s.tank k).fill s.now s.portNow o := by
  unfold startFilling portNow
  dsimp only
  cases s.sys.sessionOpen with
  | true => exact tank_modTank s k _ hk
  | false => exact tank_modTank s k _ hk

theorem portNow_of_only {t : State} {l : List Block} (h : s.onlyChanges l t) (hs : Block.session ∉ l) (hp : Block.plan ∉ l) :
    t.portNow = s.portNow := by
  unfold portNow
  rw [h.sessionOpen hs, h.activePlan hp]

/-- The movement judged on a tank's record. -/
theorem tank_judgeMotion (s : State) (hk : k < 32) :
    (s.judgeMotion k).tank k = (s.tank k).judged s.now (s.bank.tankThreshold k) s.portNow := by
  have closed := closeOperation_only s k false
  have htank : (s.closeOperation k false).tank k = s.tank k := closed.tank (by decide) k
  have fill_closed : ∀ o, ((s.closeOperation k false).startFilling k o).tank k = (s.tank k).fill s.now s.portNow o :=
    fun o => by
      rw [tank_startFilling _ hk, htank, closed.now (by decide), portNow_of_only closed (by decide) (by decide)]
  have move_closed : ∀ m, ((s.closeOperation k false).setMotion k m).tank k = { s.tank k with motion := m } := fun m => by
    rw [tank_setMotion _ hk, htank]
  unfold judgeMotion TankRec.judged
  dsimp only
  cases (s.tank k).motion with
  | still a =>
    cases a with
    | none => exact tank_setMotion s hk _
    | some a =>
      dsimp only
      split
      · exact tank_setMotion s hk _
      · split
        · exact tank_startFilling s hk _
        · rfl
  | emptying e o =>
    dsimp only
    split
    · exact tank_setMotion s hk _
    · split
      · exact fill_closed _
      · rfl
  | filling e o =>
    dsimp only
    split
    · exact tank_setMotion s hk _
    · split
      · exact move_closed _
      · rfl

theorem tank_startFilling_other (s : State) {i : Nat} (hi : i ≠ k) (o : Operation) :
    (s.startFilling k o).tank i = s.tank i := by
  unfold startFilling
  dsimp only
  split <;> exact tank_modTank_other s k i _ hi

theorem tank_judgeMotion_other (s : State) {i : Nat} (hi : i ≠ k) : (s.judgeMotion k).tank i = s.tank i := by
  have move : ∀ (u : State) m, (u.setMotion k m).tank i = u.tank i := fun u m => tank_modTank_other u k i _ hi
  have htank : (s.closeOperation k false).tank i = s.tank i := (closeOperation_only s k false).tank (by decide) i
  unfold judgeMotion
  dsimp only
  split
  · exact move s _
  · split
    · exact move s _
    · split
      · exact tank_startFilling_other s hi _
      · rfl
  · split
    · exact move s _
    · split
      · exact (tank_startFilling_other _ hi _).trans htank
      · rfl
  · split
    · exact move s _
    · split
      · exact (move _ _).trans htank
      · rfl

end State

/-- Settles O12: the rows of the judged record. -/
theorem movementFollowsTheMass : Obligations.MovementFollowsTheMass := by
  intro s k hk
  dsimp only
  rw [s.tank_judgeMotion hk]
  refine ⟨fun hm => ?_, fun a hm => ⟨fun h => ?_, fun h h' => ?_, fun h h' => ?_⟩,
    fun e o hm => ⟨fun h => ?_, fun h h' => ?_, fun h h' => ?_⟩,
    fun e o hm => ⟨fun h => ?_, fun h h' => ?_, fun h h' => ?_⟩, fun ht ho => ?_, fun ht => ?_,
    fun i hi => s.tank_judgeMotion_other hi⟩
  · simp only [TankRec.judged, hm]
  · simp only [TankRec.judged, hm, if_pos h]
  · simp only [TankRec.judged, hm, if_neg (not_le.2 h), if_pos h', TankRec.motion_fill]
  · simp only [TankRec.judged, hm, if_neg (not_le.2 h), if_neg (not_le.2 h')]
  · simp only [TankRec.judged, hm, if_pos h]
  · simp only [TankRec.judged, hm, if_neg (not_lt.2 h), if_pos h', TankRec.motion_fill]
  · simp only [TankRec.judged, hm, if_neg (not_lt.2 h), if_neg (not_le.2 h')]
  · simp only [TankRec.judged, hm, if_pos h]
  · simp only [TankRec.judged, hm, if_neg (not_lt.2 h), if_pos h']
  · simp only [TankRec.judged, hm, if_neg (not_lt.2 h), if_neg (not_le.2 h')]
  · rw [State.portNow_open ho]
    exact TankRec.judged_port ht
  · exact TankRec.judged_keeps (ht.imp_right State.portNow_closed)

end Sys2Proof.Machine
end
section
/-! PROOFS. Soundings and the tank timers (R5 to R11, R16, R17): the record a rejected or accepted sample leaves, the
faults it judges, and the operation that a still interval closes. -/

namespace Sys2Proof.Machine

namespace State
variable {s t : State} {k : Nat}

/-! ### A sounding at its tank -/

theorem tankFitted_lt {b : ShipBank} (h : b.tankFitted k = true) : k < 32 := by
  unfold ShipBank.tankFitted at h
  exact of_decide_eq_true (Bool.and_eq_true_iff.1 h).1

/-- Beyond the block that took a telegram only dry-run supervision and the ports may change, and no advisory but
QUEUE_DROP is counted. -/
theorem onward_taken (u : State) (x : Telegram) :
    u.onlyChanges [.screen, .out] (u.judgeDryRuns.onwardField x .taken)
      ∧ ∀ j, j ≠ .queueDrop → (u.judgeDryRuns.onwardField x .taken).out.advised j = u.out.advised j :=
  ⟨((judgeDryRuns_only u).andThen (onwardField_only _ x .taken)).mono (by decide), fun j hj =>
    (advised_onwardField _ x .taken hj).trans (((judgeDryRuns_only u).quiet (by decide)).advised j hj)⟩

/-- A SOUNDING of a fitted tank's gauge, inspected. -/
theorem inspect_sounding {a : State} {dst src seq status sample : Byte} {level : Word16} (hr : a.bank.role src = .gauge)
    (hb : a.bank.binding src = k) (hf : a.bank.tankFitted k = true) :
    a.inspect (soundingTelegram dst src seq level status sample)
      = ((a.takeSounding k level.toNat status sample).judgeDryRuns, .taken) := by
  subst hb
  have hlevel : fieldAt (soundingPayload level status sample) 0 2 = level.toNat := beNat_enc2 level.isLt
  rw [← hlevel]
  exact (if_pos rfl).trans (if_pos ⟨hr, hf⟩)

/-- A SOUNDING of a bound gauge is taken by its tank. -/
theorem exec_sounding {dst src seq status sample : Byte} {level : Word16} (h : s.inService) (hsrc : s.otherNode src)
    (hd : dst ≠ 0) (hr : s.bank.role src = .gauge) (hb : s.bank.binding src = k) (hf : s.bank.tankFitted k = true) :
    ∃ t, exec (.sounding dst src seq level status sample) s = .next t
      ∧ ((s.countAccepted .field).takeSounding k level.toNat status sample).onlyChanges [.screen, .out] t
      ∧ ∀ j, j ≠ .queueDrop →
          t.out.advised j = ((s.countAccepted .field).takeSounding k level.toNat status sample).out.advised j := by
  have hrecv := receive_inspected (t := soundingTelegram dst src seq level status sample) h hsrc hd
    (show 4 ≤ 56 by decide) (by rfl) (show kindSounding ≠ kindOrder by decide) (show kindSounding ≠ kindMgmt by decide)
  have hexec : exec (.sounding dst src seq level status sample) s
      = .next (s.receive .field (soundingTelegram dst src seq level status sample)) :=
    exec_ready (f := (State.receive · .field (soundingTelegram dst src seq level status sample))) h.ready rfl
  rw [inspect_sounding (a := s.countAccepted .field) hr hb hf] at hrecv
  rw [hrecv] at hexec
  dsimp only at hexec
  generalize (s.countAccepted .field).takeSounding k level.toNat status sample = u at hexec ⊢
  exact ⟨_, hexec, onward_taken u _⟩

theorem takeSounding_repeat {l : Nat} {st n : Byte} (h : (s.tank k).lastSample = some n) :
    s.takeSounding k l st n = s.countRejected k := if_pos h

/-- The record with the sample number noted. -/
def noteSample (s : State) (k : Nat) (n : Byte) : State := s.modTank k fun r => { r with lastSample := some n }

theorem takeSounding_fault {l : Nat} {st n : Byte} (h : (s.tank k).lastSample ≠ some n) (hbad : ¬(st = 0 ∧ l ≤ 40000)) :
    s.takeSounding k l st n = (s.noteSample k n).faultSample k := (if_neg h).trans (if_neg hbad)

theorem takeSounding_good {l : Nat} {st n : Byte} (h : (s.tank k).lastSample ≠ some n) (hst : st = 0) (hl : l ≤ 40000) :
    s.takeSounding k l st n =
      if (s.noteSample k n).plausible k l then (s.noteSample k n).acceptSample k l
      else if ((s.noteSample k n).tank k).rejectRun < 3 then (s.noteSample k n).rejectSample k
      else ((s.noteSample k n).advise .gaugeJump k).acceptSample k l := (if_neg h).trans (if_pos ⟨hst, hl⟩)

theorem plausible_noteSample (s : State) (hk : k < 32) (n : Byte) (l : Int) :
    (s.noteSample k n).plausible k l = s.plausible k l := by
  have ht : (s.noteSample k n).tank k = { s.tank k with lastSample := some n } := tank_modTank s k _ hk
  unfold plausible levelLimit
  rw [ht]
  rfl

/-! ### Rejected samples (R5 to R7) -/

theorem rejectSample_only' (s : State) (k : Nat) : s.onlyChanges [.tanks, .out] (s.rejectSample k) :=
  ((countRejected_only s k).andThen ((modTank_only _ k _).andThen (advise_only _ _ _))).mono (by decide)

theorem tank_rejectSample (s : State) (hk : k < 32) :
    (s.rejectSample k).tank k
      = { s.tank k with rejected := satSucc (s.tank k).rejected, rejectRun := (s.tank k).rejectRun + 1 } := by
  have h := (advise_only ((s.countRejected k).modTank k fun r => { r with rejectRun := r.rejectRun + 1 }) .gaugeReject
    k).tank (by decide) k
  rw [rejectSample, h, tank_modTank _ k _ hk, countRejected, tank_modTank s k _ hk]

theorem faultSample_only' (s : State) (k : Nat) : s.onlyChanges [.tanks, .faults, .out] (s.faultSample k) :=
  ((countRejected_only s k).andThen ((modTank_only _ k _).andThen
    (raiseFault_keeps_mode _ k fun _ => rfl))).mono (by decide)

theorem tank_faultSample (s : State) (hk : k < 32) :
    (s.faultSample k).tank k
      = { s.tank k with
          rejected := satSucc (s.tank k).rejected
          gauge := if (s.tank k).gauge.isLost then (s.tank k).gauge else .fault } := by
  have h := (raiseFault_only ((s.countRejected k).modTank k fun r =>
    { r with gauge := if r.gauge.isLost then r.gauge else .fault }) .gaugeFault k).tank (by decide) k
  rw [faultSample, h, tank_modTank _ k _ hk, countRejected, tank_modTank s k _ hk]

theorem others_modTank (s : State) (k : Nat) (f : TankRec → TankRec) : ∀ i, i ≠ k → (s.modTank k f).tank i = s.tank i :=
  fun i hi => tank_modTank_other s k i f hi

theorem tank_rejectSample_other (s : State) {i : Nat} (hi : i ≠ k) : (s.rejectSample k).tank i = s.tank i :=
  ((advise_only _ _ _).tank (by decide) i).trans ((others_modTank _ k _ i hi).trans (others_modTank s k _ i hi))

theorem tank_faultSample_other (s : State) {i : Nat} (hi : i ≠ k) : (s.faultSample k).tank i = s.tank i :=
  ((raiseFault_only _ _ k).tank (by decide) i).trans ((others_modTank _ k _ i hi).trans (others_modTank s k _ i hi))

theorem active_faultSample (hs : s.faults.sound) (k : Nat) : (s.faultSample k).faults.active .gaugeFault k = true := by
  unfold faultSample
  exact active_raiseFault (s := (s.countRejected k).modTank k _) (k := .gaugeFault) hs rfl k

theorem advised_rejectSample (s : State) (k : Nat) :
    (s.rejectSample k).out.advised .gaugeReject = satSucc (s.out.advised .gaugeReject) := advised_advise _ k nofun

end State

/-- Settles O10: the three branches of a rejected sample. -/
theorem rejectedSoundingsKeepTheMass : Obligations.RejectedSoundingsKeepTheMass := by
  intro s dst src seq level status sample k h hsrc hd hr hb hf
  have hk := State.tankFitted_lt hf
  obtain ⟨t, hexec, honly, hadv⟩ :=
    State.exec_sounding (seq := seq) (status := status) (sample := sample) (level := level) h hsrc hd hr hb hf
  have hcount := State.countAccepted_only s .field
  have hkept := (State.keeps.refl s).countAccepted (p := .field)
  have hquiet : ∀ j, (s.countAccepted .field).out.advised j = s.out.advised j := State.advised_countAccepted s .field
  have himp_eq := (s.countAccepted .field).plausible_noteSample hk sample level.toNat
  have hplain : (s.countAccepted .field).plausible k level.toNat = s.plausible k level.toNat := rfl
  generalize s.countAccepted .field = a at honly hadv hcount hkept hquiet himp_eq hplain
  have htank : ∀ i, a.tank i = s.tank i := hcount.tank (by decide)
  have noted : (a.noteSample k sample).tank k = { s.tank k with lastSample := some sample } :=
    (State.tank_modTank a k _ hk).trans (by rw [htank])
  have noted_other : ∀ i, i ≠ k → (a.noteSample k sample).tank i = s.tank i := fun i hi =>
    (State.others_modTank a k _ i hi).trans (htank i)
  have hnote : a.onlyChanges [.tanks] (a.noteSample k sample) := State.modTank_only a k _
  refine ⟨fun hrep => ?_, fun hnew hbad => ?_, fun hnew hgood himp hrun => ?_⟩
  · rw [State.takeSounding_repeat ((htank k).symm ▸ hrep)] at honly
    refine ⟨t, hexec, ?_, fun i hi => ?_, ((hcount.andThen (State.countRejected_only a k)).andThen honly).mono (by decide)⟩
    · rw [honly.tank (by decide), State.countRejected, State.tank_modTank a k _ hk, htank]
    · exact (honly.tank (by decide) i).trans ((State.others_modTank a k _ i hi).trans (htank i))
  · have hbad' : ¬(status = 0 ∧ level.toNat ≤ 40000) := fun hgood => by
      simp [hgood.1, not_lt.2 hgood.2] at hbad
    rw [State.takeSounding_fault ((htank k).symm ▸ hnew) hbad'] at honly
    have hfault := State.faultSample_only' (a.noteSample k sample) k
    refine ⟨t, hexec, ?_, fun i hi => ?_, fun hs => ?_, (((hcount.andThen hnote).andThen hfault).andThen honly).mono (by decide)⟩
    · rw [honly.tank (by decide), State.tank_faultSample _ hk, noted]
    · exact (honly.tank (by decide) i).trans ((State.tank_faultSample_other _ hi).trans (noted_other i hi))
    · rw [honly.faults (by decide)]
      exact State.active_faultSample (s := a.noteSample k sample) (hkept.faults hs) k
  · have hgood' : status = 0 ∧ level.toNat ≤ 40000 := by simpa using hgood
    rw [State.takeSounding_good ((htank k).symm ▸ hnew) hgood'.1 hgood'.2, himp_eq, hplain, himp, noted, if_neg nofun,
      if_pos hrun] at honly hadv
    have hreject := State.rejectSample_only' (a.noteSample k sample) k
    refine ⟨t, hexec, ?_, fun i hi => ?_, ?_, (((hcount.andThen hnote).andThen hreject).andThen honly).mono (by decide)⟩
    · rw [honly.tank (by decide), State.tank_rejectSample _ hk, noted]
    · exact (honly.tank (by decide) i).trans ((State.tank_rejectSample_other _ hi).trans (noted_other i hi))
    · exact (hadv .gaugeReject nofun).trans ((State.advised_rejectSample _ k).trans (congrArg _ (hquiet .gaugeReject)))

namespace State
variable {s t : State} {k : Nat}

/-! ### Accepted samples (R8 to R10, R14) -/

/-- The record of a tank with a sample taken, before the movement is judged. -/
def sampled (s : State) (k : Nat) (level : Int) : TankRec :=
  let r := s.tank k
  let corrected := s.correctedLevel k level
  let volume := s.volumeAt k corrected
  { r with
    rawLevel := level, lastAccepted := some s.now, rejectRun := 0, accepted := satSucc r.accepted
    gaugeTimer := some s.now, corrected := corrected, trimUsed := s.trimNow, volume := volume
    mass := massOf volume r.density, gauge := .live, uncertainty := if r.gauge.isLost then 0 else r.uncertainty }

/-- The state in which an accepted sample judges the movement. -/
def beforeMotion (s : State) (k : Nat) (level : Int) : State :=
  let b := (((s.sampleLevel k level).judgeOverrange k).sampleMass k).clearFault .gaugeFault k
  if (s.tank k).gauge.isLost then b.clearFault .gaugeLost k else b

theorem acceptSample_eq (s : State) (k : Nat) (level : Int) :
    s.acceptSample k level = (s.beforeMotion k level).judgeMotion k := rfl

theorem lostCleared_only (s : State) (k : Nat) (b : Bool) :
    s.onlyChanges [.faults, .out] (if b then s.clearFault .gaugeLost k else s) := by
  split
  · exact clearFault_only s _ k
  · exact onlyChanges_refl _ s

theorem beforeMotion_only (s : State) (k : Nat) (level : Int) :
    s.onlyChanges [.tanks, .faults, .out] (s.beforeMotion k level) :=
  (((((sampleLevel_only s k level).andThen (judgeOverrange_only _ k)).andThen (sampleMass_only _ k)).andThen
    (clearFault_only _ .gaugeFault k)).andThen (lostCleared_only _ k _)).mono (by decide)

theorem tank_sampleLevel (s : State) (hk : k < 32) (level : Int) :
    (s.sampleLevel k level).tank k = { s.tank k with
      rawLevel := level, lastAccepted := some s.now, rejectRun := 0, accepted := satSucc (s.tank k).accepted
      gaugeTimer := some s.now, corrected := s.correctedLevel k level, trimUsed := s.trimNow
      volume := s.volumeAt k (s.correctedLevel k level) } := tank_modTank s k _ hk

theorem tank_beforeMotion (s : State) (hk : k < 32) (level : Int) :
    (s.beforeMotion k level).tank k = s.sampled k level := by
  have hclear := (clearFault_only (((s.sampleLevel k level).judgeOverrange k).sampleMass k) .gaugeFault k).andThen
    (lostCleared_only _ k (s.tank k).gauge.isLost)
  have hlevel := (judgeOverrange_only (s.sampleLevel k level) k).tank (by decide) k
  exact (hclear.tank (by decide) k).trans ((tank_modTank _ k _ hk).trans (by rw [hlevel, tank_sampleLevel s hk]; rfl))

theorem tank_beforeMotion_other (s : State) {i : Nat} (hi : i ≠ k) (level : Int) :
    (s.beforeMotion k level).tank i = s.tank i := by
  have hclear := (clearFault_only (((s.sampleLevel k level).judgeOverrange k).sampleMass k) .gaugeFault k).andThen
    (lostCleared_only _ k (s.tank k).gauge.isLost)
  have hlevel := (judgeOverrange_only (s.sampleLevel k level) k).tank (by decide) i
  exact (hclear.tank (by decide) i).trans ((others_modTank _ k _ i hi).trans (hlevel.trans (others_modTank s k _ i hi)))

theorem acceptSample_only' (s : State) (k : Nat) (level : Int) :
    s.onlyChanges [.tanks, .faults, .out, .reports] (s.acceptSample k level) := acceptSample_only s k level

theorem tank_acceptSample (s : State) (hk : k < 32) (level : Int) :
    (s.acceptSample k level).tank k = (s.sampled k level).judged s.now (s.bank.tankThreshold k) s.portNow := by
  have hb := beforeMotion_only s k level
  rw [acceptSample_eq, tank_judgeMotion _ hk, tank_beforeMotion s hk, hb.now (by decide), hb.bank (by decide),
    portNow_of_only hb (by decide) (by decide)]

theorem tank_acceptSample_other (s : State) {i : Nat} (hi : i ≠ k) (level : Int) :
    (s.acceptSample k level).tank i = s.tank i :=
  (tank_judgeMotion_other _ hi).trans (tank_beforeMotion_other s hi level)

/-- The faults that an accepted sample judges. -/
theorem active_acceptSample (hs : s.faults.sound) (hk : k < 32) (level : Int) :
    (s.acceptSample k level).faults.active .gaugeFault k = false
      ∧ ((s.tank k).gauge.isLost = true → (s.acceptSample k level).faults.active .gaugeLost k = false)
      ∧ (s.acceptSample k level).faults.active .tankOverrange k
          = aboveLast (s.bank.points k) (s.correctedLevel k level) := by
  have hlevel : s.keeps (s.sampleLevel k level) := (keeps.refl s).free (sampleLevel_only s k level) rfl
  have hcorr : ((s.sampleLevel k level).tank k).corrected = s.correctedLevel k level := by rw [tank_sampleLevel s hk]
  have hover : ((s.sampleLevel k level).judgeOverrange k).faults.active .tankOverrange k
      = aboveLast (s.bank.points k) (s.correctedLevel k level) := by
    rw [← hcorr]
    exact active_judgeFault (hlevel.faults hs) rfl k _
  have hjudged : s.keeps (((s.sampleLevel k level).judgeOverrange k).sampleMass k) :=
    hlevel.judgeFault.free (sampleMass_only _ k) rfl
  have hmass := sampleMass_only ((s.sampleLevel k level).judgeOverrange k) k
  have hmotion := (judgeMotion_only (s.beforeMotion k level) k).faults (by decide)
  rw [acceptSample_eq, hmotion]
  unfold beforeMotion
  dsimp only
  rw [← hmass.faults (by decide)] at hover
  generalize ((s.sampleLevel k level).judgeOverrange k).sampleMass k = b at hjudged hover
  have hfault := active_clearFault (hjudged.faults hs) .gaugeFault k
  have hmarks := clearFault_marks b .gaugeFault k
  have hlost : s.keeps (b.clearFault .gaugeFault k) := hjudged.clearFault
  cases (s.tank k).gauge.isLost with
  | false => exact ⟨hfault, nofun, (hmarks _ _ (by decide)).trans hover⟩
  | true =>
    have hmarks' := clearFault_marks (b.clearFault .gaugeFault k) .gaugeLost k
    exact ⟨(hmarks' _ _ (by decide)).trans hfault, fun _ => active_clearFault (hlost.faults hs) .gaugeLost k,
      (hmarks' _ _ (by decide)).trans ((hmarks _ _ (by decide)).trans hover)⟩

/-- A sample that is accepted is accepted in a state that differs by its number and by GAUGE_JUMP at most. -/
theorem takeSounding_accepts {l : Nat} {st n : Byte} (hk : k < 32) (h : (s.tank k).lastSample ≠ some n) (hst : st = 0)
    (hl : l ≤ 40000) (hp : s.plausible k l = true ∨ 3 ≤ (s.tank k).rejectRun) :
    ∃ b, s.takeSounding k l st n = b.acceptSample k l ∧ (s.noteSample k n).onlyChanges [.out] b
      ∧ (s.noteSample k n).keeps b := by
  have hrun : ((s.noteSample k n).tank k).rejectRun = (s.tank k).rejectRun := by
    rw [noteSample, tank_modTank s k _ hk]
  rw [takeSounding_good h hst hl, plausible_noteSample s hk]
  cases hpl : s.plausible k l with
  | true => exact ⟨_, if_pos rfl, onlyChanges_refl _ _, .refl _⟩
  | false =>
    have h3 : 3 ≤ (s.tank k).rejectRun := hp.resolve_left (by simp [hpl])
    exact ⟨_, (if_neg nofun).trans (if_neg (by rw [hrun]; omega)), advise_only _ _ _, (keeps.refl _).advise⟩

end State

/-- Settles O11: the accepted sample's record is the sampled one, judged. -/
theorem acceptedSampleSetsLevelVolumeMass : Obligations.AcceptedSampleSetsLevelVolumeMass := by
  intro s dst src seq level status sample k h hsrc hd hr hb hf hnew hst hl hp
  have hk := State.tankFitted_lt hf
  obtain ⟨t, hexec, honly, -⟩ :=
    State.exec_sounding (seq := seq) (status := status) (sample := sample) (level := level) h hsrc hd hr hb hf
  obtain ⟨b, htake, hnote, hkeep⟩ := State.takeSounding_accepts (s := s.countAccepted .field) hk hnew hst hl hp
  rw [htake] at honly
  have hsb : s.onlyChanges [.tanks, .out] b :=
    (((State.countAccepted_only s .field).andThen (State.modTank_only _ k _)).andThen hnote).mono (by decide)
  have htank : b.tank k = { s.tank k with lastSample := some sample } :=
    (hnote.tank (by decide) k).trans (State.tank_modTank _ k _ hk)
  have hother : ∀ i, i ≠ k → b.tank i = s.tank i := fun i hi =>
    (hnote.tank (by decide) i).trans (State.others_modTank _ k _ i hi)
  have hsound : s.faults.sound → b.faults.sound := hkeep.faults
  have htrim : b.trimNow = s.engine.latestTrim.getD 0 := congrArg (fun e : Engine => e.latestTrim.getD 0) (hsb.engine (by decide))
  have hnow := hsb.now (by decide)
  have hbank := hsb.bank (by decide)
  have hport : b.portNow = s.portNow := State.portNow_of_only hsb (by decide) (by decide)
  have hcorr : b.correctedLevel k level.toNat
      = max 0 ((level.toNat : Int) + roundDiv (s.engine.latestTrim.getD 0 * s.bank.tankTrimFactor k) 1000) := by
    rw [State.correctedLevel, htrim, hbank]
  have hv : t.tank k = (b.sampled k level.toNat).judged s.now (s.bank.tankThreshold k) s.portNow := by
    rw [honly.tank (by decide), State.tank_acceptSample b hk, hnow, hbank, hport]
  obtain ⟨hvolume, hraw, htrimUsed, hcorrected, hgauge, huncertainty, hlast, htimer, hrun, haccepted, hrejected, hsample⟩ :=
    TankRec.judged_volume (r := b.sampled k level.toNat) (now := s.now) (th := s.bank.tankThreshold k) (port := s.portNow)
  have hmass : (b.sampled k level.toNat).mass
      = roundDiv ((t.tank k).volume * (s.tank k).density) 1000 := by
    rw [hv, hvolume, State.sampled, htank]
    rfl
  have hmotion : (b.sampled k level.toNat).motion = (s.tank k).motion := by rw [State.sampled, htank]
  have hdensity : (b.sampled k level.toNat).density = (s.tank k).density := by rw [State.sampled, htank]
  have hsource : (b.sampled k level.toNat).source = (s.tank k).source := by rw [State.sampled, htank]
  refine ⟨t, hexec, ?_⟩
  dsimp only
  rw [← hmass, ← hmotion]
  have turned := TankRec.turns_eq (r := b.sampled k level.toNat) (now := s.now) (th := s.bank.tankThreshold k)
    (port := s.portNow)
  refine ⟨⟨?_, ?_, ?_, ?_, ?_, ?_, ?_, ?_, ?_, ?_, ?_, ?_, ?_, ?_, fun ht => ?_, fun ht ho => ?_, fun ht => ?_,
    fun hs => ?_⟩, fun i hi => ?_, ((hsb.andThen (State.acceptSample_only' b k _)).andThen honly).mono (by decide)⟩
  · rw [hv, hraw]; rfl
  · rw [hv, htrimUsed, ← htrim]; rfl
  · rw [hv, hcorrected, htrimUsed, State.sampled]
    dsimp only
    rw [hcorr, htrim]
  · rw [hv, hvolume, hcorrected, ← hbank]; rfl
  · rw [hv, hvolume]
    exact TankRec.judged_mass (by rfl)
  · rw [hv, hgauge]; rfl
  · rw [hv, huncertainty, State.sampled, htank]
  · rw [hv, hlast, ← hnow]; rfl
  · rw [hv, htimer, ← hnow]; rfl
  · rw [hv, hrun]; rfl
  · rw [hv, haccepted, State.sampled, htank]
  · rw [hv, hrejected, State.sampled, htank]
  · rw [hv, hsample, State.sampled, htank]
  · rw [hv]
    exact turned
  · obtain ⟨o, ho⟩ := TankRec.judged_turns (now := s.now) (port := s.portNow) ht
    rw [hv, ho]
    exact ⟨o, TankRec.motion_fill o⟩
  · rw [hv, State.portNow_open ho]
    exact ⟨(TankRec.judged_port ht).1, (TankRec.judged_port ht).2.1⟩
  · have kept := TankRec.judged_keeps (now := s.now) (ht.imp_right State.portNow_closed)
    rw [hv, kept.1, kept.2.1]
    exact ⟨hdensity, hsource⟩
  · obtain ⟨hf, hl, ho⟩ := State.active_acceptSample (hsound hs) hk level.toNat
    rw [honly.faults (by decide), hv, hcorrected]
    refine ⟨hf, fun hlost => hl ?_, by rw [ho, hbank]; rfl⟩
    rw [htank]
    exact hlost
  · exact (honly.tank (by decide) i).trans ((State.tank_acceptSample_other b hi _).trans (hother i hi))

namespace State
variable {s : State} {k : Nat}

/-! ### Gauge loss and the still interval (R11, R16, R17) -/

theorem gaugeDue_of {a : Nat} (hw : s.working = true) (hf : s.bank.tankFitted k = true)
    (ha : (s.tank k).gaugeTimer = some a) (hd : a + s.bank.gaugeTimeout ≤ s.now) : s.gaugeDue k = true := by
  simp [gaugeDue, hw, hf, ha, hd]

theorem stillDue_of {e : MassAt} (hw : s.working = true) (he : (s.tank k).motion.extreme = some e)
    (hd : e.time + s.bank.stillInterval ≤ s.now) : s.stillDue k = true := by
  simp [stillDue, hw, he, hd]

theorem tank_gaugeTimedOut (s : State) (hk : k < 32) : (s.gaugeTimedOut k).tank k
    = { s.tank k with gauge := .lost s.now, gaugeTimer := none, motion := (s.tank k).motion.markLost } :=
  ((raiseFault_only _ _ k).tank (by decide) k).trans (tank_modTank s k _ hk)

theorem tank_gaugeTimedOut_other (s : State) {i : Nat} (hi : i ≠ k) : (s.gaugeTimedOut k).tank i = s.tank i :=
  ((raiseFault_only _ _ k).tank (by decide) i).trans (others_modTank s k _ i hi)

theorem active_gaugeTimedOut (hs : s.faults.sound) (k : Nat) :
    (s.gaugeTimedOut k).faults.active .gaugeLost k = true := by
  unfold gaugeTimedOut
  exact active_raiseFault (s := s.modTank k _) (k := .gaugeLost) hs rfl k

/-- A moving tank is one of the part's. -/
theorem lt_of_moving {e : MassAt} (h : (s.tank k).motion.extreme = some e) : k < 32 := by
  by_contra hk
  rw [tank_out_of_range s (not_lt.1 hk)] at h
  cases h

/-- The newest record of a store is the one made last. -/
theorem getLast?_add (x : Reports) (r : ReportRec) : (x.add r).records.getLast? = some r := by simp [Reports.add]

theorem reports_makeRecord (s : State) (k : RecordKind) (p g : Bool) (b : List Int) :
    (s.makeRecord k p g b).reports = s.reports.add (s.recordOf k p g b) :=
  (emit_only _ _).reports (by decide)

/-- The BALLAST record of an operation that closes at an extreme (R17). -/
def ballastBody (s : State) (k : Nat) (fill : Bool) (o : Operation) (e : MassAt) : List Int :=
  [bodyQuantity k, if fill then 0 else 1, s.bodyTime o.startTime, bodyQuantity o.startMass, s.bodyTime e.time,
    bodyQuantity e.mass, bodyQuantity (absInt (e.mass - o.startMass))]

theorem closeOperation_moving {e : MassAt} {o : Operation} {fill : Bool} (p : Bool)
    (h : (s.tank k).motion = if fill then .filling e o else .emptying e o) :
    s.closeOperation k p = s.ballastRecord k fill o e p := by
  unfold closeOperation
  cases fill with
  | true => rw [h]; rfl
  | false => rw [h]; rfl

theorem reports_ballastRecord_open (ho : s.sys.sessionOpen = true) (fill : Bool) (o : Operation) (e : MassAt) (p : Bool) :
    (s.ballastRecord k fill o e p).reports
      = s.reports.add (s.recordOf .ballast p o.gaugeLost (s.ballastBody k fill o e)) := by
  rw [ballastRecord, if_pos ho]
  exact reports_makeRecord s _ _ _ _

theorem ballastRecord_closed (ho : s.sys.sessionOpen = false) (fill : Bool) (o : Operation) (e : MassAt) (p : Bool) :
    s.ballastRecord k fill o e p = s := if_neg (by simp [ho])

theorem tank_stillExpired (s : State) (hk : k < 32) :
    (s.stillExpired k).tank k = { s.tank k with motion := .still (some { mass := (s.tank k).mass, time := s.now }) } := by
  have closed := closeOperation_only s k false
  rw [stillExpired, anchorNow, tank_modTank _ k _ hk, closed.tank (by decide), closed.now (by decide)]

theorem tank_stillExpired_other (s : State) {i : Nat} (hi : i ≠ k) : (s.stillExpired k).tank i = s.tank i :=
  (others_modTank _ k _ i hi).trans ((closeOperation_only s k false).tank (by decide) i)

theorem reports_stillExpired (s : State) (k : Nat) : (s.stillExpired k).reports = (s.closeOperation k false).reports := rfl

end State

/-- Settles O13: the record of the closed operation and the anchor it leaves. -/
theorem tankTimersLoseGaugesAndCloseOperations : Obligations.TankTimersLoseGaugesAndCloseOperations := by
  refine ⟨fun s k a hr hw hf ha hd => ?_, fun s k e o fill hr hw hm hd => ?_⟩
  · have hk := State.tankFitted_lt hf
    have dry := State.judgeDryRuns_only (s.gaugeTimedOut k)
    refine ⟨_, exec_due hr (State.gaugeDue_of hw hf ha hd) rfl, ?_, fun i hi => ?_, fun hs => ?_,
      ((State.gaugeTimedOut_only s k).andThen dry).mono (by decide)⟩
    · exact (dry.tank (by decide) k).trans (s.tank_gaugeTimedOut hk)
    · exact (dry.tank (by decide) i).trans (s.tank_gaugeTimedOut_other hi)
    · rw [dry.faults (by decide)]
      exact State.active_gaugeTimedOut hs k
  · have he : (s.tank k).motion.extreme = some e := by
      rw [hm]
      cases fill <;> rfl
    refine ⟨_, exec_due hr (State.stillDue_of hw he hd) rfl, s.tank_stillExpired (State.lt_of_moving he),
      fun i hi => s.tank_stillExpired_other hi, fun ho => ?_, fun ho => ?_, State.stillExpired_only s k⟩
    · rw [State.reports_stillExpired, State.closeOperation_moving false hm, State.reports_ballastRecord_open ho]
      exact State.getLast?_add _ _
    · rw [State.reports_stillExpired, State.closeOperation_moving false hm, State.ballastRecord_closed ho]

end Sys2Proof.Machine
end
section
/-! PROOFS. Signs of life, shore silence and the beacon (R22, R32, R33), the draft reading (R41), and the confirm timer
(R88). -/

namespace Sys2Proof.Machine

namespace State
variable {s : State}

/-! ### Events without a reason change -/

theorem foldl_same {α β : Type} {f : β → α → β} {l : List α} {b : β} (h : ∀ x ∈ l, f b x = b) : l.foldl f b = b := by
  induction l with
  | nil => rfl
  | cons x l ih =>
    rw [List.foldl_cons, h x List.mem_cons_self]
    exact ih fun y hy => h y (List.mem_cons_of_mem x hy)

/-- Acting on an event that changed no reason does nothing. -/
theorem actOn_same (s : State) : s.actOn s.reasonSets none = s := by
  refine foldl_same fun l _ => ?_
  have hb : s.reasonSets l = (s.pause l).reasons := rfl
  unfold actLoader
  dsimp only
  rw [hb]
  by_cases h0 : (s.pause l).reasons = 0
  · rw [if_pos h0, if_pos h0]
  · rw [if_neg h0, if_neg h0, if_pos ⟨rfl, rfl⟩]

theorem addReasonAll_refused {r : Reason} (h : ¬s.admits r) : s.addReasonAll r = s :=
  foldl_same fun l _ => addReason_refused h l

/-! ### Silence (R22, R32) -/

theorem signOfLife_watching (h : s.shore.silence ≠ .silent) : s.signOfLife = s.watchShore := by
  unfold signOfLife
  split
  · next hs => exact absurd hs h
  · rfl
  · rfl

theorem signOfLife_silent (h : s.shore.silence = .silent) : s.signOfLife = s.watchShore.clearSilent := by
  rw [signOfLife, h]

/-- SHORE_SILENT and its reason are gone. -/
theorem clearSilent_clears (hs : s.faults.sound) :
    s.clearSilent.faults.active .shoreSilent (portCode .shore) = false
      ∧ ∀ l < 4, (s.clearSilent.pause l).reasons.has .shoreSilent = false := by
  have hcleared := active_clearFault hs .shoreSilent (portCode .shore)
  generalize hu : s.clearFault .shoreSilent (portCode .shore) = u at hcleared
  have hclear : s.clearSilent = u.pacingEvent fun x => x.removeReasonAll .shoreSilent := by rw [clearSilent, hu]
  rw [hclear]
  refine ⟨?_, fun l hl => ?_⟩
  · exact (pacingEvent_marks u _ (removeReasonAll_only u _) _ _ (by decide)).trans hcleared
  · rw [reasons_pacingEvent u _ hl, pause_removeReasonAll u _ hl, ReasonSet.has_remove]
    simp

/-- The terminal's telegrams that no block reads are a sign of life alone. -/
theorem takeShore_signOfLife {t : Telegram} (h : ¬(t.kind = kindPour ∧ s.sys.sessionOpen = true)) :
    s.takeShore t = s.signOfLife := if_neg h

theorem silenceDue_of {d : Nat} (hw : s.working = true) (h : s.shore.silence = .watching d) (hd : d ≤ s.now) :
    s.silenceDue = true := by
  simp [silenceDue, hw, h, hd]

/-- The state in which the reason of shore silence is added. -/
def silenceRaised (s : State) : State := (s.setSilence .silent).raiseFault .shoreSilent (portCode .shore)

theorem silenceRaised_only (s : State) : s.onlyChanges [.shore, .faults, .out] s.silenceRaised :=
  ((setSilence_only s _).andThen (raiseFault_keeps_mode _ _ fun _ => rfl)).mono (by decide)

theorem silenceExpired_eq (s : State) :
    s.silenceExpired = s.silenceRaised.pacingEvent fun u => u.addReasonAll .shoreSilent := rfl

theorem active_silenceExpired (hs : s.faults.sound) :
    s.silenceExpired.faults.active .shoreSilent (portCode .shore) = true := by
  have hraised : s.silenceRaised.faults.active .shoreSilent (portCode .shore) = true :=
    active_raiseFault (s := s.setSilence .silent) (k := .shoreSilent) hs rfl _
  rw [silenceExpired_eq]
  exact (pacingEvent_marks _ _ (addReasonAll_only _ _) _ _ (by decide)).trans hraised

theorem reasons_silenceExpired (ho : s.sys.sessionOpen = true) {l : Nat} (hl : l < 4) :
    (s.silenceExpired.pause l).reasons = (s.pause l).reasons.add .shoreSilent := by
  have hraised := s.silenceRaised_only
  have ha : s.silenceRaised.admits .shoreSilent := .inr ((hraised.sessionOpen (by decide)).trans ho)
  rw [silenceExpired_eq, reasons_pacingEvent _ _ hl, pause_addReasonAll _ _ hl, withReason, if_pos ha,
    hraised.pause (by decide)]

theorem silenceExpired_closed (ho : s.sys.sessionOpen = false) : s.silenceExpired = s.silenceRaised := by
  have ha : ¬s.silenceRaised.admits .shoreSilent := by
    rintro (h | h)
    · cases h
    · rw [s.silenceRaised_only.sessionOpen (by decide), ho] at h
      cases h
  rw [silenceExpired_eq, pacingEvent, addReasonAll_refused ha]
  exact actOn_same _

/-! ### The beacon (R33) -/

theorem beaconDue_of {d : Nat} (h : s.shore.beaconAt = some d) (hd : d ≤ s.now) : s.beaconDue = true := by
  simp [beaconDue, h, hd]

/-- The beacon telegram that the part would send now. -/
def beacon (s : State) : Telegram :=
  { dst := allNodes, src := s.bank.ownAddress, kind := kindShoreBeacon, seq := s.out.shore.seq
    payload := enc1 s.sys.mode.code ++ enc1 s.notFree }

/-- The beacon as an entry of the shore queue. -/
def beaconEntry (s : State) : QEntry := { tel := s.beacon, cls := s.bank.classOf kindShoreBeacon, resetReply := false }

/-- The part with its shore sequence advanced. -/
def sequenced (s : State) (p : Port) : State := s.modPort p fun x => { x with seq := x.seq + 1 }

theorem originate_beacon (s : State) :
    s.originate .shore kindShoreBeacon (enc1 s.sys.mode.code ++ enc1 s.notFree)
      = ((s.sequenced .shore).offer .shore s.beaconEntry).1 := rfl

theorem out_sendBeacon (s : State) : s.sendBeacon.out = ((s.sequenced .shore).offer .shore s.beaconEntry).1.out := rfl

theorem shore_sendBeacon (s : State) :
    s.sendBeacon.shore = { s.shore with beaconAt := some (s.now + s.bank.beaconInterval) } := by
  have h := originate_only s .shore kindShoreBeacon (enc1 s.sys.mode.code ++ enc1 s.notFree)
  unfold sendBeacon
  dsimp only
  rw [h.shore (by decide)]

end State

/-! ### The sequence of the shore port -/

namespace PortState

theorem seq_start (p : PortState) : p.start.seq = p.seq := by
  unfold start
  split <;> rfl

theorem seq_offer (p : PortState) (n : Nat) (e : QEntry) : (p.offer n e).port.seq = p.seq := by
  unfold offer
  split
  · exact seq_start _
  · split
    · rfl
    · split
      · exact seq_start _
      · rfl

end PortState

namespace Out

theorem seq_offer (o : Out) (p q : Port) (e : QEntry) : ((o.offer p e).1.port q).seq = (o.port q).seq := by
  unfold Out.offer
  dsimp only
  rw [afterLoss_port]
  by_cases hq : q = p
  · rw [hq, port_setPort_same]
    exact PortState.seq_offer _ _ _
  · rw [port_setPort_other o _ hq]

/-- An ALERT copied to another port leaves a port's sequence. -/
theorem seq_alertCopy (o : Out) (b : ShipBank) (t : Stamp) (a : Alert) {p q : Port} (h : q ≠ p) :
    ((o.alertCopy b t a p).1.port q).seq = (o.port q).seq :=
  (seq_offer _ _ _ _).trans (congrArg PortState.seq (port_setPort_other o _ h))

/-- Without ALERTs of advisories to the shore, QUEUE_DROP leaves the shore port's sequence. -/
theorem seq_settleDrops {b : ShipBank} (h : b.alertShore .advisory = false) (t : Stamp) (r : Out × List Loss) :
    (Out.settleDrops b t r).shore.seq = r.1.shore.seq := by
  have once : ∀ (o : Out) (x : Nat), (o.alertOnce b t (Advisory.queueDrop.alert x)).1.shore.seq = o.shore.seq := by
    intro o x
    have hshore : b.alertShore (Advisory.queueDrop.alert x).severity = false := h
    unfold alertOnce
    dsimp only
    rw [hshore, if_neg Bool.false_ne_true]
    split
    · exact seq_alertCopy o b t _ (p := .console) (q := .shore) nofun
    · rfl
  have drops : ∀ n ls (o : Out), (Out.drops b t n ls o).shore.seq = o.shore.seq := by
    intro n
    induction n with
    | zero => exact fun _ _ => rfl
    | succ n ih =>
      intro ls o
      cases ls with
      | nil => rfl
      | cons l ls => exact (ih _ _).trans (once (o.count .queueDrop) _)
  exact drops _ _ _

end Out

namespace State
variable {s : State}

/-- An offer to the shore leaves its sequence where it has room or advisories are not copied there. -/
theorem seq_offer_shore (e : QEntry) (h : s.out.shore.queue.length < 16 ∨ s.bank.alertShore .advisory = false) :
    (s.offer .shore e).1.out.shore.seq = s.out.shore.seq := by
  obtain hroom | halert := h
  · rw [offer_room (p := .shore) hroom]
    exact PortState.seq_offer _ _ _
  · exact (Out.seq_settleDrops halert _ _).trans (Out.seq_offer s.out .shore .shore e)

/-! ### The confirm timer (R88) -/

theorem confirmDue_of {l d : Nat} (hw : s.working = true) (h : (s.pause l).timer = some d) (hd : d ≤ s.now) :
    s.confirmDue l = true := by
  simp [confirmDue, hw, h, hd]

theorem lt_of_timer {l d : Nat} (h : (s.pause l).timer = some d) : l < 4 := by
  by_contra hl
  have hp : s.pause l = PauseRec.reset := by simp [State.pause, nth, not_lt.1 hl]
  rw [hp] at h
  cases h

theorem pause_confirmExpired (s : State) (l m : Nat) :
    (s.confirmExpired l).pause m = (s.modPause l fun p => { p with timer := none }).pause m :=
  (raiseFault_only _ _ l).pause (by decide) m

theorem active_confirmExpired (hs : s.faults.sound) (l : Nat) :
    (s.confirmExpired l).faults.active .pauseUnconfirmed l = true := by
  unfold confirmExpired
  exact active_raiseFault (s := s.modPause l _) (k := .pauseUnconfirmed) hs rfl l

/-! ### The draft reading (R41) -/

/-- A DRAFT of the draft node is taken by the engine. -/
theorem inspect_draft {a : State} {x : Telegram} (hk : x.kind = kindDraft) (hr : a.bank.role x.src = .draft) :
    a.inspect x = (a.takeDraft x.payload, .taken) := by
  unfold inspect
  rw [hk, if_neg (by decide), if_pos rfl, if_pos hr]

/-- The reading of a DRAFT payload. -/
theorem takeDraft_eq (s : State) (fwd aft : Word16) (status : Byte) :
    s.takeDraft (draftPayload fwd aft status) = { s with engine := { s.engine with
      reading := some { fwd := fwd.toNat, aft := aft.toNat
                        ok := decide (status = 0 ∧ fwd.toNat ≤ 30000 ∧ aft.toNat ≤ 30000), arrival := s.now } } } := by
  have hfwd : fieldAt (draftPayload fwd aft status) 0 2 = fwd.toNat := beNat_enc2 fwd.isLt
  have haft : fieldAt (draftPayload fwd aft status) 2 2 = aft.toNat := beNat_enc2 aft.isLt
  have hstatus : fieldAt (draftPayload fwd aft status) 4 1 = status.toNat := beNat_singleton status
  have hzero : status.toNat = 0 ↔ status = 0 := ⟨fun h => BitVec.eq_of_toNat_eq h, fun h => congrArg BitVec.toNat h⟩
  unfold takeDraft
  dsimp only
  rw [hfwd, haft, hstatus]
  simp only [hzero]

end State

/-- Settles O16: the three silence states one by one. -/
theorem shoreTelegramIsASignOfLife : Obligations.ShoreTelegramIsASignOfLife := by
  intro s dst src seq payload h hsrc hd hdst hl
  have hrecv := State.receive_taken (t := shoreBeaconTelegram dst src seq payload) h hsrc hd hdst hl (by rfl)
  rw [State.takeShore_signOfLife (by rintro ⟨hk, -⟩; exact absurd hk (by decide : kindShoreBeacon ≠ kindPour))] at hrecv
  have hexec : exec (.shoreBeacon dst src seq payload) s
      = .next (s.receive .shore (shoreBeaconTelegram dst src seq payload)) :=
    exec_ready (f := (State.receive · .shore (shoreBeaconTelegram dst src seq payload))) h.ready rfl
  rw [hrecv] at hexec
  have hcount := State.countAccepted_only s .shore
  have hkept := (State.keeps.refl s).countAccepted (p := .shore)
  refine ⟨_, hexec, (State.signOfLife_shore _).trans (by rfl), fun hs => ?_, fun hs hf => ?_,
    (hcount.andThen (State.signOfLife_only _)).mono (by decide)⟩
  · rw [State.signOfLife_watching (s := s.countAccepted .shore) hs]
    exact (hcount.andThen (State.watchShore_only _)).mono (by decide)
  · rw [State.signOfLife_silent (s := s.countAccepted .shore) hs]
    exact State.clearSilent_clears (s := (s.countAccepted .shore).watchShore) (hkept.faults hf)

/-- Settles O17: the raised silence with its pacing event, and the beacon offered at the shore port. -/
theorem shoreTimersRaiseSilenceAndSendBeacons : Obligations.ShoreTimersRaiseSilenceAndSendBeacons := by
  refine ⟨fun s d hr hw hsil hd => ?_, fun s d hr hb hd => ?_⟩
  · refine ⟨_, exec_due hr (State.silenceDue_of hw hsil hd) rfl, State.silenceExpired_shore s, State.active_silenceExpired,
      fun ho l hl => State.reasons_silenceExpired ho hl, fun ho => ?_, State.silenceExpired_only s⟩
    rw [State.silenceExpired_closed ho]
    exact s.silenceRaised_only.pacing (by decide)
  · refine ⟨_, exec_due hr (State.beaconDue_of hb hd) rfl, State.shore_sendBeacon s, fun hroom => ?_, fun hq hs => ?_,
      State.sendBeacon_only s⟩
    · exact State.seq_offer_shore (s := s.sequenced .shore) _ hroom
    · rw [State.out_sendBeacon, State.offer_idle (s := s.sequenced .shore) (p := .shore) ⟨hq, hs⟩]
      rfl

/-- Settles O18: the reading is all that the engine takes of a DRAFT. -/
theorem draftBecomesTheReading : Obligations.DraftBecomesTheReading := by
  intro s dst src seq fwd aft status h hsrc hd hr
  have hrecv := State.receive_inspected (t := draftTelegram dst src seq fwd aft status) h hsrc hd
    (show 5 ≤ 56 by decide) (by rfl) (show kindDraft ≠ kindOrder by decide) (show kindDraft ≠ kindMgmt by decide)
  rw [State.inspect_draft (a := s.countAccepted .field) (x := draftTelegram dst src seq fwd aft status) rfl hr] at hrecv
  have hexec : exec (.draft dst src seq fwd aft status) s
      = .next (s.receive .field (draftTelegram dst src seq fwd aft status)) :=
    exec_ready (f := (State.receive · .field (draftTelegram dst src seq fwd aft status))) h.ready rfl
  rw [hrecv] at hexec
  dsimp only at hexec
  have htaken : (s.countAccepted .field).takeDraft (draftTelegram dst src seq fwd aft status).payload = _ :=
    State.takeDraft_eq (s.countAccepted .field) fwd aft status
  rw [htaken] at hexec
  have onward := fun u : State => State.onwardField_only u (draftTelegram dst src seq fwd aft status) .taken
  refine ⟨_, hexec, (onward _).engine (by decide), ?_⟩
  exact (((State.countAccepted_only s .field).andThen (State.only_engine _ _)).andThen (onward _)).mono (by decide)

/-- Settles O28: the timer stopped before the fault is raised, and the fault touches no pause record. -/
theorem confirmTimerRaisesPauseUnconfirmed : Obligations.ConfirmTimerRaisesPauseUnconfirmed := by
  intro s l d hr hw ht hd
  refine ⟨_, exec_due hr (State.confirmDue_of hw ht hd) rfl, ?_, fun m hm => ?_,
    fun hs => State.active_confirmExpired hs l, State.confirmExpired_only s l⟩
  · exact (s.pause_confirmExpired l l).trans (State.pause_modPause s l _ (State.lt_of_timer ht))
  · exact (s.pause_confirmExpired l m).trans (State.pause_modPause_other s l m _ hm)

end Sys2Proof.Machine
end
section
/-! PROOFS. The management responder (R185): how a request reaches its function and its answer the requester, the requests
that are malformed, and the requests that read. -/

namespace Sys2Proof.Machine

namespace State
variable {s : State} {src seq code : Byte} {args : List Byte} {c : Instr}

/-! ### A request and its answer -/

/-- A request of a manager is carried out and answered. -/
theorem exec_request (h : s.inCircuit) (hm : s.manager src) (hl : args.length ≤ 55)
    (hc : exec c s = .next (act (State.request · src seq code args) s)) :
    exec c s = .next (answer ((s.countAccepted .console).serve src seq code.toNat args) src seq code) :=
  (exec_ready (f := (State.request · src seq code args)) h.1 hc).trans (congrArg _ (request_taken h hm hl))

/-- A request that is answered ACCEPTED. -/
theorem exec_accepted {t : State} {results : List Byte} (h : s.inCircuit) (hm : s.manager src) (hl : args.length ≤ 55)
    (hs : (s.countAccepted .console).serve src seq code.toNat args = (t, .accepted results))
    (hc : exec c s = .next (act (State.request · src seq code args) s)) :
    exec c s = .next (t.sendReply src seq code 0 0 results) := by
  rw [exec_request h hm hl hc, hs]
  rfl

/-- A request that is answered REFUSED changes nothing but the accepted counter and the reply. -/
theorem exec_refused_with {r : Reason4} {results : List Byte} (h : s.inCircuit) (hm : s.manager src) (hl : args.length ≤ 55)
    (hs : (s.countAccepted .console).serve src seq code.toNat args = (s.countAccepted .console, .refused r results))
    (hc : exec c s = .next (act (State.request · src seq code args) s)) :
    exec c s = .next ((s.countAccepted .console).sendReply src seq code 1 r.code results) := by
  rw [exec_request h hm hl hc, hs]
  rfl

theorem exec_refused {r : Reason4} (h : s.inCircuit) (hm : s.manager src) (hl : args.length ≤ 55)
    (hs : (s.countAccepted .console).serve src seq code.toNat args = (s.countAccepted .console).refuse r)
    (hc : exec c s = .next (act (State.request · src seq code args) s)) :
    exec c s = .next ((s.countAccepted .console).sendReply src seq code 1 r.code []) := exec_refused_with h hm hl hs hc

/-! ### The functions of Table 11-1 -/

theorem serve_readStatus : s.serve src seq ((1 : Byte)).toNat args = s.doReadStatus args := rfl
theorem serve_setTime : s.serve src seq ((2 : Byte)).toNat args = s.doSetTime args := rfl
theorem serve_writeTable : s.serve src seq ((3 : Byte)).toNat args = s.doWriteTable args := rfl
theorem serve_readTable : s.serve src seq ((4 : Byte)).toNat args = s.doReadTable args := rfl
theorem serve_commit : s.serve src seq ((5 : Byte)).toNat args = s.doCommit args := rfl
theorem serve_store : s.serve src seq ((6 : Byte)).toNat args = s.doStore src seq args := rfl
theorem serve_reload : s.serve src seq ((7 : Byte)).toNat args = s.doReload args := rfl
theorem serve_reset : s.serve src seq ((8 : Byte)).toNat args = s.doReset args := rfl
theorem serve_requestEvaluation : s.serve src seq ((9 : Byte)).toNat args = s.doRequestEvaluation args := rfl
theorem serve_readTank : s.serve src seq ((16 : Byte)).toNat args = s.doReadTank args := rfl
theorem serve_readStation : s.serve src seq ((17 : Byte)).toNat args = s.doReadStation args := rfl
theorem serve_setStationService : s.serve src seq ((18 : Byte)).toNat args = s.doSetStationService args := rfl
theorem serve_readCondition : s.serve src seq ((19 : Byte)).toNat args = s.doReadCondition args := rfl
theorem serve_setFixedWeight : s.serve src seq ((20 : Byte)).toNat args = s.doSetFixedWeight args := rfl
theorem serve_manualPause : s.serve src seq ((21 : Byte)).toNat args = s.doManualPause args := rfl
theorem serve_manualResume : s.serve src seq ((22 : Byte)).toNat args = s.doManualResume args := rfl
theorem serve_openSession : s.serve src seq ((23 : Byte)).toNat args = s.doOpenSession args := rfl
theorem serve_closeSession : s.serve src seq ((24 : Byte)).toNat args = s.doCloseSession args := rfl
theorem serve_clearSafe : s.serve src seq ((25 : Byte)).toNat args = s.doClearSafe args := rfl
theorem serve_ackFault : s.serve src seq ((26 : Byte)).toNat args = s.doAckFault args := rfl
theorem serve_readFaults : s.serve src seq ((27 : Byte)).toNat args = s.doReadFaults args := rfl
theorem serve_readReport : s.serve src seq ((28 : Byte)).toNat args = s.doReadReport args := rfl

/-! ### Malformed requests -/

theorem serve_unknown (hcode : knownRequestCode code = false) : s.serve src seq code.toNat args = s.refuse .badRequest := by
  have hk : ¬(1 ≤ code.toNat ∧ code.toNat ≤ 9) ∧ ¬(16 ≤ code.toNat ∧ code.toNat ≤ 28) := by
    simpa [knownRequestCode] using hcode
  unfold serve
  iterate 22 rw [if_neg (by omega)]

theorem ne_of_byte_lt {a x y : Byte} (h : x < a) (hy : y ≤ x) : a ≠ y := by
  rintro rfl
  exact absurd h (BitVec.not_lt.2 hy)

theorem doReadStatus_malformed (h1 : args.length ≠ 1) (h2 : args.length ≠ 2) : s.doReadStatus args = s.refuse .badRequest := by
  unfold doReadStatus
  split
  · exact absurd rfl h1
  · exact absurd rfl h2
  · rfl

theorem doReadStatus_part {a : Byte} (h : a ≠ 0) : s.doReadStatus [a] = s.refuse .badRequest := if_neg h

theorem doReadStatus_port {a b : Byte} (h : a ≠ 1 ∨ 2 < b) : s.doReadStatus [a, b] = s.refuse .badRequest := by
  by_cases ha : a = 1
  · have hb : 2 < b := h.resolve_left (not_not_intro ha)
    exact (if_neg (not_not_intro ha)).trans ((if_neg (ne_of_byte_lt hb (by decide))).trans
      ((if_neg (ne_of_byte_lt hb (by decide))).trans (if_neg (ne_of_byte_lt hb (by decide)))))
  · exact if_pos ha

theorem doCommit_malformed (h : args.length ≠ 1) : s.doCommit args = s.refuse .badRequest := by
  unfold doCommit
  split
  · exact absurd rfl h
  · rfl

theorem doCommit_group {a : Byte} (h : 1 < a) : s.doCommit [a] = s.refuse .badRequest :=
  (if_neg (ne_of_byte_lt h (by decide))).trans (if_neg (ne_of_byte_lt h (by decide)))

theorem doReset_malformed (h : args ≠ []) : s.doReset args = s.refuse .badRequest := if_neg h

theorem doReadTank_malformed (h : args.length ≠ 1) : s.doReadTank args = s.refuse .badRequest := by
  unfold doReadTank
  split
  · exact absurd rfl h
  · rfl

theorem doReadStation_malformed (h : args.length ≠ 1) : s.doReadStation args = s.refuse .badRequest := by
  unfold doReadStation
  split
  · exact absurd rfl h
  · rfl

theorem doManual_malformed (h : args.length ≠ 1) (f : Nat → State → State) : s.doManual args f = s.refuse .badRequest := by
  unfold doManual
  split
  · exact absurd rfl h
  · rfl

theorem doSetStationService_malformed (h : args.length ≠ 2) : s.doSetStationService args = s.refuse .badRequest := by
  unfold doSetStationService
  split
  · exact absurd rfl h
  · rfl

theorem doReadFaults_malformed (h : args.length ≠ 2) : s.doReadFaults args = s.refuse .badRequest := by
  unfold doReadFaults
  split
  · exact absurd rfl h
  · rfl

theorem doReadFaults_part {a b : Byte} (h : 1 < a) : s.doReadFaults [a, b] = s.refuse .badRequest :=
  (if_neg (ne_of_byte_lt h (by decide))).trans (if_neg (ne_of_byte_lt h (by decide)))

theorem doReadCondition_malformed (h2 : args.length ≠ 2) (h3 : args.length ≠ 3) :
    s.doReadCondition args = s.refuse .badRequest := by
  unfold doReadCondition
  split
  · exact absurd rfl h2
  · exact absurd rfl h3
  · rfl

theorem not_flag {b : Byte} (h : 1 < b) : ¬b.toNat ≤ 1 := not_le.2 (BitVec.lt_def.1 h)

theorem doReadCondition_summary {a b : Byte} (h : a ≠ 0 ∨ 1 < b) : s.doReadCondition [a, b] = s.refuse .badRequest :=
  if_neg fun hab => h.elim (fun ha => ha hab.1) fun hb => not_flag hb hab.2

theorem doReadCondition_station {a b c : Byte} (h : a ≠ 1 ∨ 1 < c) :
    s.doReadCondition [a, b, c] = s.refuse .badRequest :=
  if_neg fun hac => h.elim (fun ha => ha hac.1) fun hc => not_flag hc hac.2

theorem doAckFault_malformed (h1 : args.length ≠ 1) (h3 : args.length ≠ 3) : s.doAckFault args = s.refuse .badRequest := by
  unfold doAckFault
  split
  · exact absurd rfl h1
  · exact absurd rfl h3
  · rfl

theorem doAckFault_scope {a : Byte} (h : a ≠ 1) : s.doAckFault [a] = s.refuse .badRequest := if_neg h

theorem doAckFault_kind {a b c : Byte} (h : a ≠ 0 ∨ FaultKind.ofCode b.toNat = none) :
    s.doAckFault [a, b, c] = s.refuse .badRequest := by
  by_cases ha : a = 0
  · have hb := h.resolve_left (not_not_intro ha)
    refine (if_neg (not_not_intro ha)).trans ?_
    rw [hb]
  · exact if_pos ha

end State

/-- Settles O39: every malformed request is refused by its own function. -/
theorem malformedRequestsAreRefused : Obligations.MalformedRequestsAreRefused := by
  intro s src seq args h hm hl
  have bad : ∀ {c : Instr} {code : Byte} {xs : List Byte} {r : Served}, xs.length ≤ 55 →
      exec c s = .next (act (State.request · src seq code xs) s) →
      (s.countAccepted .console).serve src seq code.toNat xs = r → r = (s.countAccepted .console).refuse .badRequest →
      exec c s = .next ((s.countAccepted .console).sendReply src seq code 1 1 []) := fun hx hc hs hr =>
    State.exec_refused (r := .badRequest) h hm hx (hs.trans hr) hc
  refine ⟨fun code hcode => bad hl rfl rfl (State.serve_unknown hcode), fun hn => bad hl rfl State.serve_setTime (if_neg hn),
    fun hn => bad hl rfl State.serve_writeTable (if_pos (.inl hn)),
    fun hn => bad hl rfl State.serve_readTable (if_pos (.inl hn)),
    fun hn => bad hl rfl State.serve_commit (State.doCommit_malformed hn),
    fun hn => ⟨bad hl rfl State.serve_store (if_pos hn), bad hl rfl State.serve_reload (if_pos hn),
      bad hl rfl State.serve_reset (State.doReset_malformed hn), bad hl rfl State.serve_requestEvaluation (if_pos hn),
      bad hl rfl State.serve_closeSession (if_pos hn), bad hl rfl State.serve_clearSafe (if_pos hn)⟩,
    fun hn => ⟨bad hl rfl State.serve_readTank (State.doReadTank_malformed hn),
      bad hl rfl State.serve_readStation (State.doReadStation_malformed hn),
      bad hl rfl State.serve_manualPause (State.doManual_malformed hn _),
      bad hl rfl State.serve_manualResume (State.doManual_malformed hn _)⟩,
    fun hn => ⟨bad hl rfl State.serve_setStationService (State.doSetStationService_malformed hn),
      bad hl rfl State.serve_openSession (if_pos hn), bad hl rfl State.serve_readFaults (State.doReadFaults_malformed hn)⟩,
    fun hn => bad hl rfl State.serve_setFixedWeight (if_pos hn), fun hn => bad hl rfl State.serve_readReport (if_pos hn),
    fun h1 h2 => bad hl rfl State.serve_readStatus (State.doReadStatus_malformed h1 h2),
    fun h2 h3 => bad hl rfl State.serve_readCondition (State.doReadCondition_malformed h2 h3),
    fun h1 h3 => bad hl rfl State.serve_ackFault (State.doAckFault_malformed h1 h3), fun a b c d e => ?_⟩
  have hread : 1 < b → 1 < fieldAt [a, b, c, d, e] 1 1 := fun hb => (BitVec.lt_def.1 hb).trans_eq (beNat_singleton b).symm
  exact ⟨fun ha => bad (by simp) rfl State.serve_readStatus (State.doReadStatus_part ha),
    fun hab => bad (by simp) rfl State.serve_readStatus (State.doReadStatus_port hab),
    fun hb => bad (by simp) rfl State.serve_readTable (if_pos (.inr (hread hb))),
    fun ha => bad (by simp) rfl State.serve_commit (State.doCommit_group ha),
    fun hb => bad (by simp) rfl State.serve_setStationService (if_pos (BitVec.lt_def.1 hb)),
    fun hab => bad (by simp) rfl State.serve_readCondition (State.doReadCondition_summary hab),
    fun hac => bad (by simp) rfl State.serve_readCondition (State.doReadCondition_station hac),
    fun ha => bad (by simp) rfl State.serve_ackFault (State.doAckFault_scope ha),
    fun hab => bad (by simp) rfl State.serve_ackFault (State.doAckFault_kind hab),
    fun ha => bad (by simp) rfl State.serve_readFaults (State.doReadFaults_part ha)⟩

namespace State
variable {s : State}

/-! ### Replies (R185) -/

/-- A reply that fits one telegram is sent in one piece. -/
theorem sendReply_one {src seq code : Byte} {status reason : Nat} {results : List Byte} (h : results.length ≤ 51) :
    s.sendReply src seq code status reason results
      = (s.send .console (s.reply src seq code status reason results)).1 := by
  have hpieces : replyPieces results = [results] := by
    unfold replyPieces
    cases hn : results.length with
    | zero => rfl
    | succ n => exact if_pos (h.trans_eq (by rfl))
  have htel : s.replyTelegram src seq code status reason 1 1 results = s.reply src seq code status reason results := by
    simp [replyTelegram, replyPayload, reply, enc1, byteOf]
  rw [sendReply, hpieces, ← htel]
  rfl

theorem consoleIdle.idle (h : s.consoleIdle) : s.idle .console := h

/-- At an idle console port a one-piece reply is transmitted at once. -/
theorem sending_sendReply {src seq code : Byte} {status reason : Nat} {results : List Byte} (hi : s.consoleIdle)
    (h : results.length ≤ 51) : (s.sendReply src seq code status reason results).out.console.sending
      = some { tel := s.reply src seq code status reason results, cls := s.bank.classOf kindMreply, resetReply := false } := by
  rw [sendReply_one h, send, offer_idle hi.idle]
  rfl

/-! ### The requests that read -/

theorem fieldAt_one (a : Byte) (xs : List Byte) : fieldAt (a :: xs) 0 1 = a.toNat := beNat_singleton a

theorem beNat_two (a b : Byte) : beNat [a, b] = a.toNat * 256 + b.toNat := by simp [beNat]

theorem beNat_four (a b c d : Byte) :
    beNat [a, b, c, d] = ((a.toNat * 256 + b.toNat) * 256 + c.toNat) * 256 + d.toNat := by simp [beNat]

/-- READ_TABLE in range reads the copy its bank byte names. -/
theorem doReadTable_read {code bank hi lo n : Byte} {c : TableCode} (hc : TableCode.ofCode code.toNat = some c)
    (hb : bank.toNat ≤ 1) (hn1 : 1 ≤ n.toNat) (hn48 : n.toNat ≤ 48) (hx : hi.toNat * 256 + lo.toNat + n.toNat ≤ c.size) :
    s.doReadTable [code, bank, hi, lo, n] = (s, .accepted
      ((if bank = 0 then s.activeTable c else s.stagingTable c).mem.readBytes (hi.toNat * 256 + lo.toNat) n.toNat
        ++ s.groupResults c ++ enc2 (if bank = 0 then (s.activeTable c).check else
          checkWordOf c (s.stagingTable c).mem).toNat)) := by
  have hcode : fieldAt [code, bank, hi, lo, n] 0 1 = code.toNat := beNat_singleton code
  have hbank : fieldAt [code, bank, hi, lo, n] 1 1 = bank.toNat := beNat_singleton bank
  have hat : fieldAt [code, bank, hi, lo, n] 2 2 = hi.toNat * 256 + lo.toNat := beNat_two hi lo
  have hlen : fieldAt [code, bank, hi, lo, n] 4 1 = n.toNat := beNat_singleton n
  have hargs : ¬([code, bank, hi, lo, n].length ≠ 5 ∨ 1 < bank.toNat) := by
    rintro (h | h)
    · exact h rfl
    · omega
  have hzero : bank.toNat = 0 ↔ bank = 0 := ⟨fun h => BitVec.eq_of_toNat_eq h, fun h => congrArg BitVec.toNat h⟩
  unfold doReadTable
  dsimp only
  rw [hcode, hbank, hat, hlen, if_neg hargs, hc]
  dsimp only
  rw [if_neg (by omega)]
  by_cases h0 : bank = 0
  · rw [if_pos (hzero.2 h0), if_pos h0, if_pos h0]
  · rw [if_neg (mt hzero.1 h0), if_neg h0, if_neg h0]

theorem doReadTank_read {k : Byte} (hw : s.working = true) (hf : s.bank.tankFitted k.toNat = true) :
    s.doReadTank [k] = (s, .accepted (s.tankResults k.toNat)) := by
  simp only [doReadTank, not_unconfigured_of_working hw, hf, if_true]
  rfl

theorem doReadStation_read {i : Byte} (hw : s.working = true) (hb : s.stationBound i.toNat = true) :
    s.doReadStation [i] = (s, .accepted (s.stationResults i.toNat)) := by
  simp only [doReadStation, not_unconfigured_of_working hw, hb, if_true]
  rfl

theorem doReadFaults_entries {n : Byte} (h : n.toNat < s.faults.entries.length ∨ n = 0 ∧ s.faults.entries = []) :
    s.doReadFaults [0, n] = (s, .accepted (enc1 s.faults.entries.length ++ encFlag s.faults.overflow
      ++ encS4 (s.faults.marks.countP fun m => m.waiting) ++ enc1 s.faults.alarm.code
      ++ s.entriesResults ((s.faults.entries.drop n.toNat).take 3))) := by
  unfold doReadFaults
  dsimp only
  rw [if_pos rfl, if_neg]
  rintro ⟨hlen, hne⟩
  obtain h | ⟨h0, he⟩ := h
  · omega
  · exact hne ⟨congrArg BitVec.toNat h0, he⟩

theorem doReadFaults_counters {n : Byte} (h : n ≤ 12) : s.doReadFaults [1, n] = (s, .accepted
    ((List.range (13 - n.toNat)).flatMap fun k => enc2 (nth s.out.advisories (n.toNat + k) 0))) := by
  have hn : ¬12 < n.toNat := not_lt.2 (BitVec.le_def.1 h)
  unfold doReadFaults
  dsimp only
  rw [if_neg (by decide), if_pos rfl, if_neg hn]

theorem doReadStatus_general : s.doReadStatus [0] = (s, .accepted s.statusGeneral) := rfl

theorem doReadStatus_console : s.doReadStatus [1, 0] = (s, .accepted (statusCounters s.out.console)) := rfl

theorem doReadStatus_field : s.doReadStatus [1, 1] = (s, .accepted (statusCounters s.out.field)) := rfl

theorem doReadStatus_shore : s.doReadStatus [1, 2] = (s, .accepted (statusCounters s.out.shore)) := rfl

theorem doReadReport_read {hi lo k : Byte} {r : ReportRec} (hw : s.working = true)
    (hr : s.reports.records.find? (fun x => x.number = hi.toNat * 256 + lo.toNat) = some r)
    (hn : hi.toNat * 256 + lo.toNat ≠ 0) (h1 : 1 ≤ k.toNat) (h15 : k.toNat ≤ 15) (hk : k.toNat ≤ r.segments) :
    s.doReadReport [hi, lo, k] = (s, .accepted (r.segment k.toNat)) := by
  have hnum : fieldAt [hi, lo, k] 0 2 = hi.toNat * 256 + lo.toNat := beNat_two hi lo
  have hseg : fieldAt [hi, lo, k] 2 1 = k.toNat := beNat_singleton k
  unfold doReadReport
  dsimp only
  rw [hnum, hseg, if_neg (by simp), if_neg (by simp [not_unconfigured_of_working hw]), if_neg (by omega), hr]
  exact if_neg (by omega)

end State

/-- Settles O40: one judgement for each reading request, each answered with the state unchanged. -/
theorem readRequestsAnswerAndChangeNothing : Obligations.ReadRequestsAnswerAndChangeNothing := by
  refine ⟨fun s src seq code status reason results hi hl => State.sending_sendReply hi hl, fun s src seq h hm => ?_⟩
  have answered : ∀ {c : Instr} {code : Byte} {xs : List Byte} {r : Served} {results : List Byte}, xs.length ≤ 55 →
      exec c s = .next (act (State.request · src seq code xs) s) →
      (s.countAccepted .console).serve src seq code.toNat xs = r → r = (s.countAccepted .console, .accepted results) →
      exec c s = .next ((s.countAccepted .console).sendReply src seq code 0 0 results) := fun hx hc hs hr =>
    State.exec_accepted h hm hx (hs.trans hr) hc
  refine ⟨answered (by simp) rfl State.serve_readStatus State.doReadStatus_general,
    answered (by simp) rfl State.serve_readStatus State.doReadStatus_console,
    answered (by simp) rfl State.serve_readStatus State.doReadStatus_field,
    answered (by simp) rfl State.serve_readStatus State.doReadStatus_shore,
    fun code bank hi lo n c hc hb h1 h48 hx => answered (by simp) rfl State.serve_readTable
      (State.doReadTable_read hc hb h1 h48 hx),
    fun k hw hf => answered (by simp) rfl State.serve_readTank (State.doReadTank_read hw hf),
    fun i hw hb => answered (by simp) rfl State.serve_readStation (State.doReadStation_read hw hb),
    fun n hn => ⟨_, answered (by simp) rfl State.serve_readFaults (State.doReadFaults_entries (.inl hn)), rfl, rfl⟩,
    fun he => answered (by simp) rfl State.serve_readFaults ?_,
    fun n hn => answered (by simp) rfl State.serve_readFaults (State.doReadFaults_counters hn),
    fun hi lo k r hw hr hn h1 h15 hk => answered (by simp) rfl State.serve_readReport
      (State.doReadReport_read hw hr hn h1 h15 hk)⟩
  have hnone : (s.countAccepted .console).faults.entries = [] := he
  rw [State.doReadFaults_entries (.inr ⟨rfl, hnone⟩), hnone]
  simp [State.entriesResults]

end Sys2Proof.Machine
end
section
/-! PROOFS. The settings, WRITE_TABLE, STORE and RESET (R187, R189, R196, R198). -/

namespace Sys2Proof.Machine

namespace State
variable {s : State}

/-! ### SET_TIME, SET_FIXED_WEIGHT (R58, R59, R187) -/

/-- The clock that SET_TIME leaves. -/
def setClock (s : State) (seconds : Nat) : State :=
  { s with clock := { s.clock with offset := s.offsetFor seconds, timeSet := true } }

theorem doSetTime_set (s : State) (a b c d : Byte) :
    s.doSetTime [a, b, c, d] = (s.setClock (((a.toNat * 256 + b.toNat) * 256 + c.toNat) * 256 + d.toNat),
      .accepted (enc4 s.clock.offset
        ++ enc4 (s.offsetFor (((a.toNat * 256 + b.toNat) * 256 + c.toNat) * 256 + d.toNat)))) := by
  rw [doSetTime, if_pos (by rfl), beNat_four]
  rfl

/-- The offset makes the clock seconds the value set. -/
theorem clockSeconds_setClock {n : Nat} (h : n < 4294967296) : (s.setClock n).clockSeconds (s.setClock n).now = n := by
  simp only [clockSeconds, State.now, setClock, offsetFor]
  omega

theorem four_bytes_lt (a b c d : Byte) :
    ((a.toNat * 256 + b.toNat) * 256 + c.toNat) * 256 + d.toNat < 4294967296 := by
  have ha := a.isLt
  have hb := b.isLt
  have hc := c.isLt
  have hd := d.isLt
  omega

theorem signedOf_four {n : Nat} (h : n ≤ 1000000) : signedOf 4 n = n := by
  rw [signedOf, if_pos (by omega)]

/-- A fixed weight set, with its advisory. -/
def weighed (s : State) (w : Nat) (m : Int) : State :=
  if s.sessionMode ∧ 10000 ≤ absInt (m - nth s.engine.weights w 0) then (s.setWeight w m).advise .fixedWeightStep w
  else s.setWeight w m

theorem weighed_only (s : State) (w : Nat) (m : Int) : (s.setWeight w m).onlyChanges [.out] (s.weighed w m) := by
  unfold weighed
  split
  · exact advise_only _ _ _
  · exact onlyChanges_refl _ _

theorem doSetFixedWeight_set {w a b c d : Byte} (hw : s.working = true) (hw5 : w.toNat ≤ 5)
    (hm : ((a.toNat * 256 + b.toNat) * 256 + c.toNat) * 256 + d.toNat ≤ 1000000) :
    s.doSetFixedWeight [w, a, b, c, d]
      = (s.weighed w.toNat (((a.toNat * 256 + b.toNat) * 256 + c.toNat) * 256 + d.toNat : Nat),
        .accepted (encS4 (nth s.engine.weights w.toNat 0)
          ++ encS4 (((a.toNat * 256 + b.toNat) * 256 + c.toNat) * 256 + d.toNat : Nat))) := by
  have hindex : fieldAt [w, a, b, c, d] 0 1 = w.toNat := beNat_singleton w
  have hmass : signedOf 4 (fieldAt [w, a, b, c, d] 1 4)
      = (((a.toNat * 256 + b.toNat) * 256 + c.toNat) * 256 + d.toNat : Nat) := by
    rw [show fieldAt [w, a, b, c, d] 1 4 = _ from beNat_four a b c d, signedOf_four hm]
  unfold doSetFixedWeight
  dsimp only
  rw [hindex, hmass, if_neg (by simp), if_neg (by simp [not_unconfigured_of_working hw]), if_neg (by omega)]
  rfl

theorem weight_setWeight (s : State) {w : Nat} (h : w ≤ 5) (m : Int) : nth (s.setWeight w m).engine.weights w 0 = m :=
  nth_upd_same _ _ _ _ (by omega)

theorem weight_setWeight_other (s : State) {w k : Nat} (h : k ≠ w) (m : Int) :
    nth (s.setWeight w m).engine.weights k 0 = nth s.engine.weights k 0 := nth_upd_other _ _ _ _ _ h

/-- A large change in a session is counted. -/
theorem advised_weighed {w : Nat} {m : Int} (hs : s.sessionMode = true)
    (hm : 10000 ≤ absInt (m - nth s.engine.weights w 0)) :
    (s.weighed w m).out.advised .fixedWeightStep = satSucc (s.out.advised .fixedWeightStep) := by
  rw [weighed, if_pos ⟨hs, hm⟩]
  exact advised_advise (s.setWeight w m) w nofun

/-- The pieces of a reply count nothing. -/
theorem quiet_sendReply (s : State) (src seq code : Byte) (status reason : Nat) (results : List Byte) :
    s.quiet (s.sendReply src seq code status reason results) := by
  have key : ∀ (n : Nat) (ps : List (List Byte × Nat)) (u : State), u.quiet (ps.foldl
      (fun s p => (s.send .console (s.replyTelegram src seq code status reason (p.2 + 1) n p.1)).1) u) := by
    intro n ps
    induction ps with
    | nil => exact fun u => .refl _
    | cons p ps ih => exact fun u => (quiet_send u _ _).trans (ih _)
  exact key _ _ s

/-! ### WRITE_TABLE (R189) -/

theorem doWriteTable_write {code hi lo : Byte} {data : List Byte} {c : TableCode}
    (hc : TableCode.ofCode code.toNat = some c) (h1 : 1 ≤ data.length) (h52 : data.length ≤ 52)
    (hx : hi.toNat * 256 + lo.toNat + data.length ≤ c.size) (hs : s.sealedFor c = false) :
    s.doWriteTable (code :: hi :: lo :: data) = (s.writeStaging c (hi.toNat * 256 + lo.toNat) data, .accepted []) := by
  have hcode : fieldAt (code :: hi :: lo :: data) 0 1 = code.toNat := beNat_singleton code
  have hat : fieldAt (code :: hi :: lo :: data) 1 2 = hi.toNat * 256 + lo.toNat := beNat_two hi lo
  have hdrop : (code :: hi :: lo :: data).drop 3 = data := rfl
  have hlen : (code :: hi :: lo :: data).length = data.length + 3 := rfl
  unfold doWriteTable
  dsimp only
  rw [hcode, hat, hdrop, hlen, if_neg (by omega), hc]
  dsimp only
  rw [if_neg (by omega), hs, if_neg nofun]

theorem ship_of_not_plan {c : TableCode} (h : c.isPlan = false) : c ∈ TableCode.shipTables := by
  revert h
  cases c <;> decide

theorem planGet_set (b : PlanBank) (t : TableImage) {c : TableCode} (h : c.isPlan = true) : (b.set t c).get c = t := by
  revert h
  cases c <;> simp [TableCode.isPlan, PlanBank.set, PlanBank.get]

theorem planGet_set_ne (b : PlanBank) (t : TableImage) {c d : TableCode} (hd : d.isPlan = true) (h : d ≠ c) :
    (b.set t c).get d = b.get d := by
  revert hd h
  cases c <;> cases d <;> simp [TableCode.isPlan, PlanBank.set, PlanBank.get]

/-- The copy written to, in a group that `c` belongs to. -/
def writtenTable (s : State) (c : TableCode) (x : Nat) (bs : List Byte) : TableImage :=
  { s.stagingTable c with mem := (s.stagingTable c).mem.writeBytes x bs }

theorem writeStaging_plan {c : TableCode} (h : c.isPlan = true) (x : Nat) (bs : List Byte) :
    s.writeStaging c x bs = { s with mgmt := { s.mgmt with
      plan := { s.mgmt.plan with staging := s.mgmt.plan.staging.set (s.writtenTable c x bs) c, isPending := true } } } :=
  if_pos h

theorem writeStaging_ship {c : TableCode} (h : c.isPlan = false) (x : Nat) (bs : List Byte) :
    s.writeStaging c x bs = { s with mgmt := { s.mgmt with
      ship := { s.mgmt.ship with staging := s.mgmt.ship.staging.set (s.writtenTable c x bs) c, isPending := true } } } :=
  if_neg (by simp [h])

theorem stagingTable_plan {c : TableCode} (h : c.isPlan = true) : s.stagingTable c = s.mgmt.plan.staging.get c := if_pos h

theorem stagingTable_ship {c : TableCode} (h : c.isPlan = false) : s.stagingTable c = s.mgmt.ship.staging.get c :=
  if_neg (by simp [h])

theorem stagingTable_writeStaging (s : State) (c : TableCode) (x : Nat) (bs : List Byte) :
    (s.writeStaging c x bs).stagingTable c = s.writtenTable c x bs := by
  cases h : c.isPlan with
  | true =>
    rw [writeStaging_plan h, stagingTable_plan h]
    exact planGet_set _ _ h
  | false =>
    rw [writeStaging_ship h, stagingTable_ship h]
    exact ShipBank.get_set _ _ (ship_of_not_plan h)

theorem stagingTable_writeStaging_other (s : State) {c d : TableCode} (hd : d ≠ c) (x : Nat) (bs : List Byte) :
    (s.writeStaging c x bs).stagingTable d = s.stagingTable d := by
  cases h : c.isPlan with
  | true =>
    rw [writeStaging_plan h]
    cases hdp : d.isPlan with
    | true =>
      rw [stagingTable_plan hdp, stagingTable_plan hdp]
      exact planGet_set_ne _ _ hdp hd
    | false => rw [stagingTable_ship hdp, stagingTable_ship hdp]
  | false =>
    rw [writeStaging_ship h]
    cases hdp : d.isPlan with
    | true => rw [stagingTable_plan hdp, stagingTable_plan hdp]
    | false =>
      rw [stagingTable_ship hdp, stagingTable_ship hdp]
      exact ShipBank.get_set_ne _ _ (ship_of_not_plan hdp) hd

theorem activeTable_writeStaging (s : State) (c d : TableCode) (x : Nat) (bs : List Byte) :
    (s.writeStaging c x bs).activeTable d = s.activeTable d := by
  cases h : c.isPlan with
  | true => rw [writeStaging_plan h]; rfl
  | false => rw [writeStaging_ship h]; rfl

theorem pending_writeStaging_plan {c : TableCode} (h : c.isPlan = true) (x : Nat) (bs : List Byte) :
    (s.writeStaging c x bs).mgmt.plan.isPending = true ∧ s.onlyChanges [.plan] (s.writeStaging c x bs) := by
  rw [writeStaging_plan h]
  exact ⟨rfl, only_plan _ _⟩

theorem pending_writeStaging_ship {c : TableCode} (h : c.isPlan = false) (x : Nat) (bs : List Byte) :
    (s.writeStaging c x bs).mgmt.ship.isPending = true ∧ s.onlyChanges [.ship] (s.writeStaging c x bs) := by
  rw [writeStaging_ship h]
  exact ⟨rfl, only_ship _ _⟩

/-- The table groups after a reply. -/
theorem sendReply_tables (s : State) (src seq code : Byte) (st re : Nat) (res : List Byte) :
    (s.sendReply src seq code st re res).mgmt.ship = s.mgmt.ship
      ∧ (s.sendReply src seq code st re res).mgmt.plan = s.mgmt.plan :=
  ⟨(sendReply_only s src seq code st re res).shipGroup (by decide),
    (sendReply_only s src seq code st re res).planGroup (by decide)⟩

theorem stagingTable_of_groups {t : State} (hs : t.mgmt.ship = s.mgmt.ship) (hp : t.mgmt.plan = s.mgmt.plan)
    (c : TableCode) : t.stagingTable c = s.stagingTable c ∧ t.activeTable c = s.activeTable c := by
  unfold stagingTable activeTable
  rw [hs, hp]
  exact ⟨rfl, rfl⟩

/-! ### STORE (R196) -/

theorem doStore_accepted {src seq : Byte} (hw : s.working = true) (hnone : s.mgmt.writing = none)
    (hs : s.mgmt.ship.isSealed = false) (hf : s.faultedTable = none) :
    s.doStore src seq [] = (s.beginStore src seq, .later) := by
  unfold doStore
  rw [if_neg (by simp), if_neg (by simp [not_unconfigured_of_working hw]), if_neg (by simp [hnone]), if_neg (by simp [hs]),
    hf]

/-- The store after a writing that held, and after one that did not. -/
def storeWritten (s : State) (j : StoreJob) : State :=
  { s with mgmt := { s.mgmt with
    store := { bank := j.bank, mark := true }, storeState := .valid, writing := none, unstored := false } }

def storeSpoilt (s : State) (j : StoreJob) : State :=
  { s with mgmt := { s.mgmt with
    store := { bank := j.bank, mark := false }, storeState := .invalid, writing := none } }

theorem endStore_sound {j : StoreJob} (hj : s.mgmt.writing = some j) (h : j.bank.firstDamaged = none) :
    s.endStore = ((s.storeWritten j).clearFault .storeFailed subjectNone).sendReply j.src j.seq codeStore 0 0 (enc2 j.gen) := by
  simp only [endStore, hj, h]
  rfl

theorem endStore_damaged {j : StoreJob} {c : TableCode} (hj : s.mgmt.writing = some j) (h : j.bank.firstDamaged = some c) :
    s.endStore = ((s.storeSpoilt j).raiseFault .storeFailed subjectNone).sendReply j.src j.seq codeStore 1
      Reason4.tableInvalid.code (failureResults c.code 0) := by
  simp only [endStore, hj, h]
  rfl

/-! ### RESET (R198) -/

/-- The MREPLY of a RESET, as a queue entry. -/
def resetEntry (s : State) (src seq : Byte) : QEntry :=
  { tel := s.reply src seq 8 0 0 [], cls := s.bank.classOf kindMreply, resetReply := true }

/-- The part waiting for a RESET's reply to leave. -/
def waitingReset (s : State) : State := { s with out := { s.out with resetWait := .waiting } }

/-- The part with a RESET's reply in transmission. -/
def sendingReset (s : State) (src seq : Byte) : State :=
  s.waitingReset.modPort .console fun x => { x with sending := some (s.resetEntry src seq) }

theorem sendResetReply_idle {src seq : Byte} (h : s.out.resetWait = .idle) (hidle : s.consoleIdle) :
    s.sendResetReply src seq 8 = s.sendingReset src seq := by
  have hport : s.waitingReset.idle .console := hidle
  have hoffer : s.sendResetReply src seq 8 = (s.waitingReset.offer .console (s.resetEntry src seq)).1 := by
    unfold sendResetReply
    dsimp only
    rw [h]
    rfl
  rw [hoffer, offer_idle hport]
  rfl

end State

/-- Settles O41: the clock and the weight as they are set, and the reply on the new clock. -/
theorem settingsTakeTheirValue : Obligations.SettingsTakeTheirValue := by
  refine ⟨fun s src seq a b c d h hm => ?_, fun s src seq w a b c d h hm hw => ?_⟩
  · have hexec := State.exec_accepted (c := .setTime src seq [a, b, c, d]) h hm (by simp)
      (State.serve_setTime.trans (State.doSetTime_set _ a b c d)) (by rfl)
    have hlt := State.four_bytes_lt a b c d
    generalize ((a.toNat * 256 + b.toNat) * 256 + c.toNat) * 256 + d.toNat = n at hexec hlt ⊢
    have hreply := State.sendReply_only ((s.countAccepted .console).setClock n) src seq 2 0 0
      (enc4 (s.countAccepted .console).clock.offset ++ enc4 ((s.countAccepted .console).offsetFor n))
    have hclock := hreply.clock (by decide)
    have hframe := ((State.countAccepted_only s .console).andThen (State.only_clock _
      ((s.countAccepted .console).setClock n).clock)).andThen hreply
    refine ⟨_, hexec, ?_, ?_, ?_, ?_, hframe.mono (by decide)⟩
    · rw [hclock]
      rfl
    · rw [hclock]
      rfl
    · have hsec : ∀ t : State, t.clock = (s.setClock n).clock → t.clockSeconds t.now = n := fun t ht => by
        rw [State.clockSeconds, State.now, ht]
        exact State.clockSeconds_setClock (s := s) hlt
      exact hsec _ hclock
    · rw [hclock]
      rfl
  · dsimp only
    intro hle
    have hexec := State.exec_accepted (c := .setFixedWeight src seq [w, a, b, c, d]) h.inCircuit hm (by simp)
      (State.serve_setFixedWeight.trans (State.doSetFixedWeight_set (s := s.countAccepted .console) h.working hw hle)) (by rfl)
    generalize ((a.toNat * 256 + b.toNat) * 256 + c.toNat) * 256 + d.toNat = n at hexec hle ⊢
    generalize encS4 (nth (s.countAccepted .console).engine.weights w.toNat 0) ++ encS4 (n : Int) = results at hexec
    have hweigh := State.weighed_only (s.countAccepted .console) w.toNat n
    have hreply := State.sendReply_only ((s.countAccepted .console).weighed w.toNat n) src seq 20 0 0 results
    have hquiet := State.quiet_sendReply ((s.countAccepted .console).weighed w.toNat n) src seq 20 0 0 results
    have hengine := (hweigh.trans hreply).engine (by decide)
    have hframe := ((State.countAccepted_only s .console).andThen (State.setWeight_only _ w.toNat n)).andThen
      (hweigh.trans hreply)
    have hsame : nth (((s.countAccepted .console).setWeight w.toNat n).engine.weights) w.toNat 0 = n :=
      State.weight_setWeight _ hw n
    refine ⟨_, hexec, ?_, fun k hk => ?_, ?_, ?_, fun hs hlarge => ?_, hframe.mono (by decide)⟩
    · rw [hengine]
      exact hsame
    · rw [hengine]
      exact State.weight_setWeight_other (s.countAccepted .console) hk n
    · rw [hengine]
      rfl
    · rw [State.itemMass, if_neg (by omega), if_neg (by omega), Nat.add_sub_cancel_left, hengine]
      exact hsame
    · have hmode : (s.countAccepted .console).sessionMode = true := by
        simpa [State.sessionMode] using hs
      refine (hquiet.advised .fixedWeightStep nofun).trans ((State.advised_weighed hmode hlarge).trans ?_)
      exact congrArg _ (State.advised_countAccepted s .console .fixedWeightStep)

/-- Settles O42: the bytes written at their offsets of the one staging image. -/
theorem writeTableChangesItsBytesAlone : Obligations.WriteTableChangesItsBytesAlone := by
  intro s src seq code hi lo data c h hm hc h1 h52 hx hs hwf
  have hexec := State.exec_accepted (c := .writeTable src seq (code :: hi :: lo :: data)) h hm (by simp; omega)
    (State.serve_writeTable.trans (State.doWriteTable_write (s := s.countAccepted .console) hc h1 h52 hx hs)) (by rfl)
  dsimp only
  let x := hi.toNat * 256 + lo.toNat
  have hreply := State.sendReply_only ((s.countAccepted .console).writeStaging c x data) src seq 3 0 0 []
  have hcount := State.countAccepted_only s .console
  obtain ⟨hship, hplan⟩ := State.sendReply_tables ((s.countAccepted .console).writeStaging c x data) src seq 3 0 0 []
  have tables := fun d => State.stagingTable_of_groups hship hplan d
  have counted := fun d => State.stagingTable_of_groups (hcount.shipGroup (by decide)) (hcount.planGroup (by decide)) d
  have hwritten : (((s.countAccepted .console).writeStaging c x data).sendReply src seq 3 0 0 []).stagingTable c
      = s.writtenTable c x data := (tables c).1.trans (State.stagingTable_writeStaging _ c x data)
  refine ⟨_, hexec, fun k b hk => ?_, fun y hy => ?_, fun d hd => ?_, fun d => ?_, ?_, fun hp => ?_, fun hp => ?_⟩
  · obtain ⟨hlt, hget⟩ := List.getElem?_eq_some_iff.1 hk
    rw [hwritten, ← hget]
    exact Memory.read_writeBytes_same x data k hwf hlt
  · rw [hwritten]
    exact Memory.read_writeBytes_other x data y hwf hy
  · exact (tables d).1.trans ((State.stagingTable_writeStaging_other _ hd x data).trans (counted d).1)
  · exact (tables d).2.trans ((State.activeTable_writeStaging _ c d x data).trans (counted d).2)
  · rw [hwritten]
    exact Memory.wf_writeBytes x data hwf
  · obtain ⟨hpending, honly⟩ := State.pending_writeStaging_plan (s := s.countAccepted .console) hp x data
    rw [hplan]
    exact ⟨hpending, ((hcount.andThen honly).andThen hreply).mono (by decide)⟩
  · obtain ⟨hpending, honly⟩ := State.pending_writeStaging_ship (s := s.countAccepted .console) hp x data
    rw [hship]
    exact ⟨hpending, ((hcount.andThen honly).andThen hreply).mono (by decide)⟩

/-- Settles O38: the acceptance, and the two ends of the writing. -/
theorem storeWritesTheActiveShip : Obligations.StoreWritesTheActiveShip := by
  refine ⟨fun s src seq h hm hw hs hf => ?_, fun s j hr hj => ?_⟩
  · have hstore := State.serve_store.trans
      (State.doStore_accepted (s := s.countAccepted .console) (src := src) (seq := seq) h.working hw hs hf)
    have hexec : exec (.store src seq []) s = .next ((s.countAccepted .console).beginStore src seq) := by
      rw [State.exec_request (c := .store src seq []) (args := []) h.inCircuit hm (Nat.zero_le _) (by rfl), hstore]
      rfl
    exact ⟨_, hexec, rfl, rfl, rfl, rfl,
      ((State.countAccepted_only s .console).andThen (State.beginStore_only _ src seq)).mono (by decide)⟩
  · have hexec : exec .storeWritingEnd s = .next s.endStore := exec_ready hr rfl
    have honly := (State.endStore_only s).mono (m := [.store, .out, .faults]) (by decide)
    cases hd : j.bank.firstDamaged with
    | none =>
      have hreply := State.sendReply_only ((s.storeWritten j).clearFault .storeFailed subjectNone) j.src j.seq State.codeStore 0 0
        (enc2 j.gen)
      rw [← State.endStore_sound hj hd] at hreply
      obtain ⟨hstore, hstate, hwriting, hunstored⟩ :=
        ((State.clearFault_only (s.storeWritten j) .storeFailed subjectNone).andThen hreply) .store (by decide)
      refine ⟨_, hexec, hwriting, congrArg ShipStore.bank hstore,
        fun _ => ⟨congrArg ShipStore.mark hstore, hstate, hunstored, fun hs => ?_⟩, fun h => absurd rfl h, honly⟩
      rw [hreply.faults (by decide)]
      exact State.active_clearFault (s := s.storeWritten j) hs _ _
    | some c =>
      have hreply := State.sendReply_only ((s.storeSpoilt j).raiseFault .storeFailed subjectNone) j.src j.seq State.codeStore 1
        Reason4.tableInvalid.code (failureResults c.code 0)
      rw [← State.endStore_damaged hj hd] at hreply
      obtain ⟨hstore, hstate, hwriting, hunstored⟩ :=
        ((State.raiseFault_only (s.storeSpoilt j) .storeFailed subjectNone).andThen hreply) .store (by decide)
      refine ⟨_, hexec, hwriting, congrArg ShipStore.bank hstore, nofun,
        fun _ => ⟨congrArg ShipStore.mark hstore, hstate, hunstored, fun hs => ?_⟩, honly⟩
      rw [hreply.faults (by decide)]
      exact State.active_raiseFault (s := s.storeSpoilt j) hs rfl _

/-- Settles O45: the reply at an idle port, its transmission's end, and the reset it makes due. -/
theorem resetWaitsForItsReply : Obligations.ResetWaitsForItsReply := by
  intro s src seq h hm hw hidle
  let t := (s.countAccepted .console).sendingReset src seq
  have hreset : exec (.reset src seq []) s = .next t := by
    rw [State.exec_request (c := .reset src seq []) (args := []) h hm (Nat.zero_le _) (by rfl), State.serve_reset]
    exact congrArg _ (State.sendResetReply_idle (s := s.countAccepted .console) hw hidle)
  let u : State := { t with out := t.outAfterSending .console (s.resetEntry src seq) }
  have ht : t.ready := ⟨h.1.1, nofun⟩
  have hsending : (t.out.port .console).sending = some (s.resetEntry src seq) := rfl
  have hend : exec (.transmissionEnd .console) t = .next u :=
    (exec_ready ht rfl).trans (congrArg _ (State.endTransmission_of_sending hsending))
  have hu : u.sys.powered = true := h.1.1
  refine ⟨t, hreset, rfl, rfl, State.only_out s t.out, u, hend, rfl, u.resetNow .commanded, ?_,
    u.restarted_resetNow .commanded⟩
  exact congrArg _ ((if_pos hu).trans (State.performDue_due rfl))

end Sys2Proof.Machine
end
section
/-! PROOFS. The requests of the pacing block and the mode machine (R95, R96, R174), and READ_CONDITION (R57). -/

namespace Sys2Proof.Machine

namespace State
variable {s u : State}

/-! ### Acting on one loader's change (R78) -/

theorem actLoader_same (s : State) (l : Nat) : s.actLoader l (s.pause l).reasons false = s := by
  unfold actLoader
  dsimp only
  by_cases h0 : (s.pause l).reasons = 0
  · rw [if_pos h0, if_pos h0]
  · rw [if_neg h0, if_neg h0, if_pos ⟨rfl, rfl⟩]

/-- Where an event changed the reasons of one loader only, acting on it acts on that loader. -/
theorem actOn_single {b : Nat → ReasonSet} {l : Nat} (hl : l < 4) (hb : ∀ m, m ≠ l → b m = (s.pause m).reasons) :
    s.actOn b none = s.actLoader l (b l) false := by
  have key : ∀ is : List Nat, is.Nodup → ∀ u : State, (∀ m, m ≠ l → (u.pause m).reasons = b m) →
      is.foldl (fun u i => u.actLoader i (b i) false) u = if l ∈ is then u.actLoader l (b l) false else u := by
    intro is hd
    induction is with
    | nil => exact fun _ _ => rfl
    | cons i is ih =>
      intro u hu
      obtain ⟨hi, hd⟩ := List.nodup_cons.1 hd
      rw [List.foldl_cons]
      by_cases hil : i = l
      · subst hil
        rw [ih hd _ fun m hm => by rw [pause_actLoader_other hm, hu m hm], if_neg hi, if_pos List.mem_cons_self]
      · have hsame : u.actLoader i (b i) false = u := by rw [← hu i hil, actLoader_same]
        have hmem : l ∈ i :: is ↔ l ∈ is := by simp [Ne.symm hil]
        rw [hsame, ih hd u hu]
        simp only [hmem]
  exact (key loaders List.nodup_range s fun m hm => (hb m hm).symm).trans (if_pos (mem_loaders.2 hl))

/-- Acting on a set that stays or becomes filled sends a PAUSE at most. -/
theorem actLoader_filled_only {l : Nat} (b : ReasonSet) (h : (s.pause l).reasons ≠ 0) :
    s.onlyChanges [.pacing, .out, .tracker] (s.actLoader l b false) := by
  unfold actLoader
  dsimp only
  rw [if_neg h, if_neg h]
  split
  · have hsent : s.onlyChanges [.pacing, .out]
        ((s.modPause l fun p => { p with state := .pauseSent (s.newEpisode l), timer := s.confirmDeadline }).sendPause l) :=
      (modPause_only s l _).andThen (sendPause_only _ l)
    unfold openEpisode
    dsimp only
    split
    · exact (hsent.andThen (modStep_only _ _)).mono (by decide)
    · exact hsent.mono (by decide)
  · split
    · exact onlyChanges_refl _ s
    · exact ((modPause_only s l _).andThen (sendPause_only _ l)).mono (by decide)

/-- A released loader has neither fault of its episode. -/
theorem active_release (hs : s.faults.sound) (l : Nat) :
    (s.release l).faults.active .pauseUnconfirmed l = false ∧ (s.release l).faults.active .overpour l = false := by
  unfold release
  extract_lets a b c d
  have hb : b.faults.sound := by
    have ha : a.faults = s.faults := (originate_only s _ _ _).faults (by decide)
    exact show a.faults.sound from ha ▸ hs
  have hu : (b.clearFault .pauseUnconfirmed l).faults.active .pauseUnconfirmed l = false := active_clearFault hb _ l
  have hc : c.faults.active .pauseUnconfirmed l = false ∧ c.faults.active .overpour l = false :=
    ⟨(clearFault_marks _ .overpour l _ _ (by decide)).trans hu,
      active_clearFault (((keeps.refl b).clearFault (k := .pauseUnconfirmed) (x := l)).faults hb) _ l⟩
  have hd : d.faults = c.faults := by
    dsimp only [d]
    split
    · exact (closeEpisode_only c l _).faults (by decide)
    · rfl
  split
  · rw [show d.tellFree.faults = d.faults from (modStep_only d _).faults (by decide), hd]
    exact hc
  · rw [hd]
    exact hc

/-! ### MANUAL_PAUSE and MANUAL_RESUME (R95, R96) -/

theorem doManual_moves {l : Byte} {f : Nat → State → State} (ho : s.sys.sessionOpen = true) (hl : l.toNat < 4) :
    s.doManual [l] f
      = (s.pacingEvent (f l.toNat), .accepted ((s.pacingEvent (f l.toNat)).pauseResults l.toNat)) := by
  unfold doManual
  dsimp only
  rw [if_neg (by simp [ho]), if_neg (by omega)]

theorem reasons_other_addReason {l m : Nat} (h : m ≠ l) (r : Reason) :
    s.reasonSets m = ((s.addReason l r).pause m).reasons := by rw [pause_addReason_other h]; rfl

theorem reasons_other_removeReason {l m : Nat} (h : m ≠ l) (r : Reason) :
    s.reasonSets m = ((s.removeReason l r).pause m).reasons := by rw [pause_removeReason_other h]; rfl

/-- One reason added to one loader, as an event. -/
theorem pacingEvent_addReason {l : Nat} (hl : l < 4) (r : Reason) :
    s.pacingEvent (fun u => u.addReason l r) = (s.addReason l r).actLoader l (s.pause l).reasons false :=
  actOn_single hl fun _ hm => reasons_other_addReason hm r

/-- One reason removed from one loader, as an event. -/
theorem pacingEvent_removeReason {l : Nat} (hl : l < 4) (r : Reason) :
    s.pacingEvent (fun u => u.removeReason l r) = (s.removeReason l r).actLoader l (s.pause l).reasons false :=
  actOn_single hl fun _ hm => reasons_other_removeReason hm r

theorem add_ne_zero (rs : ReasonSet) (r : Reason) : rs.add r ≠ 0 := fun h => by
  have hr := ReasonSet.has_add rs r r
  rw [h, ReasonSet.has_zero] at hr
  simp at hr

theorem zero_add (r : Reason) : ReasonSet.add 0 r = r.single := ReasonSet.ext_has fun q => by
  rw [ReasonSet.has_add, ReasonSet.has_zero, ReasonSet.has_single, Bool.false_or]

/-- A filled set that stays filled keeps the state's code, the grace mark and the timer. -/
theorem actedPause_stays {l : Nat} {b : ReasonSet} {p : PauseRec} (hb : b ≠ 0) (hp : p.reasons ≠ 0) :
    (s.actedPause l b false p).state.code = p.state.code ∧ (s.actedPause l b false p).grace = p.grace
      ∧ (s.actedPause l b false p).timer = p.timer := by
  unfold actedPause
  rw [if_neg hb, if_neg hp]
  split
  · exact ⟨rfl, rfl, rfl⟩
  · unfold PauseRec.mapEpisode PauseRec.grace
    cases p.state <;> exact ⟨rfl, rfl, rfl⟩

/-- MANUAL added to a loader in a session. -/
theorem pause_addManual {l : Nat} (ho : s.sys.sessionOpen = true) (hl : l < 4) :
    (s.addReason l .manual).pause l = { s.pause l with reasons := (s.pause l).reasons.add .manual } := by
  rw [pause_addReason hl, withReason, if_pos (show s.admits .manual from .inr ho)]

/-- MANUAL_PAUSE of a loader with an empty set opens its episode (R83). -/
theorem pause_manualPause_opens {l : Nat} (ho : s.sys.sessionOpen = true) (hl : l < 4) (h0 : (s.pause l).reasons = 0) :
    ∃ ep, (s.pacingEvent (fun u => u.addReason l .manual)).pause l
        = ⟨.pauseSent ep, Reason.manual.single, some (s.now + s.bank.confirmTimeout)⟩
      ∧ ep.grace = (s.knownCumulative l).map (fun c => c + s.plan.grace) ∧ ep.startTime = s.now
      ∧ ep.union = Reason.manual.single ∧ ep.confirmed = none ∧ ep.overpour = none := by
  have hadd := addReason_only s l .manual
  have hp := pause_addManual ho hl
  have hunion : ((s.addReason l .manual).pause l).reasons = Reason.manual.single := by
    rw [hp]
    exact (congrArg (ReasonSet.add · .manual) h0).trans (zero_add .manual)
  rw [pacingEvent_addReason hl, pause_actLoader hl, actedPause, if_pos h0, if_neg (by rw [hunion]; decide),
    confirmDeadline_of_only hadd (by decide) (by decide) (by decide), confirmDeadline, if_pos ho]
  refine ⟨(s.addReason l .manual).newEpisode l, by rw [← hunion], ?_, ?_, hunion, rfl, rfl⟩
  · unfold newEpisode knownCumulative
    dsimp only
    rw [hadd.loader (by decide), hadd.activePlan (by decide)]
  · exact hadd.now (by decide)

/-- MANUAL_PAUSE of a loader with a filled set repeats its PAUSE (R84). -/
theorem pause_manualPause_stays {l : Nat} (ho : s.sys.sessionOpen = true) (hl : l < 4) (h0 : (s.pause l).reasons ≠ 0) :
    ((s.pacingEvent (fun u => u.addReason l .manual)).pause l).state.code = (s.pause l).state.code
      ∧ ((s.pacingEvent (fun u => u.addReason l .manual)).pause l).grace = (s.pause l).grace
      ∧ ((s.pacingEvent (fun u => u.addReason l .manual)).pause l).timer = (s.pause l).timer := by
  rw [pacingEvent_addReason hl, pause_actLoader hl, pause_addManual ho hl]
  exact actedPause_stays h0 (add_ne_zero _ _)

theorem manualPause_only {l : Nat} (ho : s.sys.sessionOpen = true) (hl : l < 4) :
    s.onlyChanges [.pacing, .out, .tracker] (s.pacingEvent fun u => u.addReason l .manual) := by
  rw [pacingEvent_addReason hl]
  refine ((addReason_only s l .manual).andThen (actLoader_filled_only _ ?_)).mono (by decide)
  rw [pause_addManual ho hl]
  exact add_ne_zero _ _

/-- MANUAL_RESUME of a loader that keeps a reason repeats its PAUSE (R84), or finds nothing to remove. -/
theorem pause_manualResume_stays {l : Nat} (hl : l < 4) (h0 : ReasonSet.remove (s.pause l).reasons .manual ≠ 0) :
    ((s.pacingEvent (fun u => u.removeReason l .manual)).pause l).state.code = (s.pause l).state.code
      ∧ ((s.pacingEvent (fun u => u.removeReason l .manual)).pause l).grace = (s.pause l).grace
      ∧ ((s.pacingEvent (fun u => u.removeReason l .manual)).pause l).timer = (s.pause l).timer := by
  have hb : (s.pause l).reasons ≠ 0 := fun h => h0 (by rw [h]; decide)
  rw [pacingEvent_removeReason hl, pause_actLoader hl, pause_removeReason hl]
  exact actedPause_stays hb h0

/-- MANUAL_RESUME of a loader paused for MANUAL alone releases it (R90). -/
theorem manualResume_releases {l : Nat} (hl : l < 4) (hb : (s.pause l).reasons ≠ 0)
    (h0 : ReasonSet.remove (s.pause l).reasons .manual = 0) :
    s.pacingEvent (fun u => u.removeReason l .manual) = (s.removeReason l .manual).release l := by
  have h : ((s.removeReason l .manual).pause l).reasons = 0 := by
    rw [pause_removeReason hl]
    exact h0
  rw [pacingEvent_removeReason hl, actLoader]
  rw [if_neg hb, if_pos h]

theorem manualResume_only {l : Nat} : s.onlyChanges pacingBlocks (s.pacingEvent fun u => u.removeReason l .manual) :=
  ((removeReason_only s l .manual).andThen (actOn_only _ _ _)).mono (by decide)

/-- What a released loader is left with. -/
theorem removed_released {l : Nat} (hl : l < 4) :
    (((s.removeReason l .manual).release l).pause l).state = .free
      ∧ (((s.removeReason l .manual).release l).pause l).timer = none
      ∧ (s.faults.sound → ((s.removeReason l .manual).release l).faults.active .pauseUnconfirmed l = false
          ∧ ((s.removeReason l .manual).release l).faults.active .overpour l = false) := by
  rw [pause_release hl]
  exact ⟨rfl, rfl, fun hs => active_release (s := s.removeReason l .manual) hs l⟩

/-- An event on one loader's reasons leaves the other loaders as they were. -/
theorem pause_manualEvent_other {f : State → State} {l m : Nat} {b : ReasonSet} {a : State} (h : m ≠ l)
    (he : s.pacingEvent f = a.actLoader l b false) (ha : a.pause m = s.pause m) :
    (s.pacingEvent f).pause m = s.pause m := by rw [he, pause_actLoader_other h, ha]

end State

/-- Settles O27: each request is an event that moves one reason of one loader. -/
theorem manualRequestsMoveOneReason : Obligations.ManualRequestsMoveOneReason := by
  refine ⟨fun s src seq l h hm ho hl => ?_, fun s src seq l h hm ho hl => ?_⟩
  · have hexec := State.exec_accepted (c := .manualPause src seq [l]) (args := [l]) h hm (show 1 ≤ 55 by decide)
      (State.serve_manualPause.trans (State.doManual_moves (s := s.countAccepted .console) ho hl)) (by rfl)
    have hopens := State.pause_manualPause_opens (s := s.countAccepted .console) ho hl
    have hstays := State.pause_manualPause_stays (s := s.countAccepted .console) ho hl
    have hevent := State.manualPause_only (s := s.countAccepted .console) ho hl
    have hothers := fun m (hne : m ≠ l.toNat) =>
      State.pause_manualEvent_other (s := s.countAccepted .console) hne (State.pacingEvent_addReason hl .manual)
        (State.pause_addReason_other hne .manual)
    have hreasons : ((State.pacingEvent (s.countAccepted .console) (fun u => u.addReason l.toNat .manual)).pause
        l.toNat).reasons = (s.pause l.toNat).reasons.add .manual := by
      rw [State.reasons_pacingEvent _ _ hl, State.pause_addManual (s := s.countAccepted .console) ho hl]
      rfl
    generalize State.pacingEvent (s.countAccepted .console) (fun u => u.addReason l.toNat .manual) = u at *
    have hsent := State.sendReply_only u src seq 21 0 0 (u.pauseResults l.toNat)
    generalize u.sendReply src seq 21 0 0 (u.pauseResults l.toNat) = t at hexec hsent
    have hp : ∀ m, t.pause m = u.pause m := hsent.pause (by decide)
    refine ⟨t, hexec, by rw [hp, hreasons], fun h0 => ?_, fun h0 => ?_, fun m hne => (hp m).trans (hothers m hne),
      (((State.countAccepted_only s .console).andThen hevent).andThen hsent).mono (by decide)⟩
    · obtain ⟨ep, heq, hep⟩ := hopens h0
      rw [hp, heq]
      exact ⟨rfl, ep, rfl, hep⟩
    · rw [hp]
      exact hstays h0
  · have hexec := State.exec_accepted (c := .manualResume src seq [l]) (args := [l]) h hm (show 1 ≤ 55 by decide)
      (State.serve_manualResume.trans (State.doManual_moves (s := s.countAccepted .console) ho hl)) (by rfl)
    have hreleases := State.manualResume_releases (s := s.countAccepted .console) hl
    have hstays := State.pause_manualResume_stays (s := s.countAccepted .console) hl
    have hevent := State.manualResume_only (s := s.countAccepted .console) (l := l.toNat)
    have hothers := fun m (hne : m ≠ l.toNat) =>
      State.pause_manualEvent_other (s := s.countAccepted .console) hne (State.pacingEvent_removeReason hl .manual)
        (State.pause_removeReason_other hne .manual)
    have hreasons : ((State.pacingEvent (s.countAccepted .console) (fun u => u.removeReason l.toNat .manual)).pause
        l.toNat).reasons = (s.pause l.toNat).reasons.remove .manual := by
      rw [State.reasons_pacingEvent _ _ hl, State.pause_removeReason hl]
      rfl
    have hfree := State.removed_released (s := s.countAccepted .console) (l := l.toNat) hl
    generalize State.pacingEvent (s.countAccepted .console) (fun u => u.removeReason l.toNat .manual) = u at *
    have hsent := State.sendReply_only u src seq 22 0 0 (u.pauseResults l.toNat)
    generalize u.sendReply src seq 22 0 0 (u.pauseResults l.toNat) = t at hexec hsent
    have hp : ∀ m, t.pause m = u.pause m := hsent.pause (by decide)
    refine ⟨t, hexec, by rw [hp, hreasons], fun hb h0 => ?_, fun h0 => ?_, fun m hne => (hp m).trans (hothers m hne),
      (((State.countAccepted_only s .console).andThen hevent).andThen hsent).mono (by decide)⟩
    · rw [hp, hreasons] at h0
      rw [hp, hsent.faults (by decide), hreleases hb h0]
      exact hfree
    · rw [hp, hreasons] at h0
      rw [hp]
      exact hstays h0

end Sys2Proof.Machine
end
section
/-! PROOFS. CLEAR_SAFE (R174), READ_CONDITION (R57), the condition timer (R163), REQUEST_EVALUATION (R199) and the scrub
(R175, R176, R194). -/

namespace Sys2Proof.Machine

namespace State
variable {s u : State}

/-! ### CLEAR_SAFE (R174) -/

theorem doClearSafe_safe (hm : s.sys.mode = .safe) (hc : s.criticalActive = false) :
    s.doClearSafe [] = (s.clearSafe, .accepted []) := by
  unfold doClearSafe
  rw [if_neg (fun h => h rfl), if_neg]
  rintro (h | h)
  · exact h hm
  · rw [hc] at h
    cases h

theorem doClearSafe_refused (h : s.sys.mode ≠ .safe ∨ s.criticalActive = true) : s.doClearSafe [] = s.refuse .wrongMode := by
  unfold doClearSafe
  rw [if_neg (fun h => h rfl), if_pos h]

theorem mode_clearSafe (s : State) : s.clearSafe.sys.mode = if s.sys.sessionOpen then .loading else .standby := by
  unfold clearSafe
  rw [(tellMode_only _).mode (by decide), State.pacingEvent, (actOn_only _ _ _).mode (by decide),
    (removeReasonAll_only _ .safe).mode (by decide)]
  rfl

/-- A loader after a reason has left every loader. -/
theorem pause_clearSafe (s : State) {l : Nat} (hl : l < 4) :
    (s.clearSafe.pause l).reasons = (s.pause l).reasons.remove .safe
      ∧ ((s.pause l).reasons ≠ 0 → (s.clearSafe.pause l).reasons = 0 → (s.clearSafe.pause l).state = .free) := by
  unfold clearSafe
  rw [(tellMode_only _).pause (by decide)]
  generalize hu : s.setMode (if s.sys.sessionOpen then .loading else .standby) = u
  have hp : u.pause l = s.pause l := by rw [← hu]; rfl
  rw [pacingEvent, pause_actOn _ _ _ hl, actedPause_reasons, pause_removeReasonAll u .safe hl, hp]
  refine ⟨rfl, fun hb h0 => ?_⟩
  unfold actedPause reasonSets
  rw [hp, if_neg hb, if_pos h0]

theorem clearSafe_only (s : State) :
    s.onlyChanges [.mode, .pacing, .out, .faults, .tracker, .reports, .shore, .screen, .stations] s.clearSafe :=
  (((setMode_only s _).andThen (pacingEvent_only _ _ (removeReasonAll_only _ .safe))).andThen (tellMode_only _)).mono
    (by decide)

/-! ### The CONDITION record (R163) -/

/-- The CONDITION record of a VALID published record. -/
def conditionBody (f : Figures) : List Int :=
  [f.tm, f.trim, f.fwd, f.aft, f.disp, f.cargo, f.ballast, f.peak.value, (f.peak.station : Int),
    (f.peak.quantity.code : Int)].map bodyQuantity ++ [bodyOpt f.lag]

theorem makeCondition_valid {h : Header} {f : Figures} (hp : s.engine.published = .valid h f) :
    s.makeCondition = (s.makeRecord .condition false false (conditionBody f), true) := by
  unfold makeCondition
  rw [hp]
  rfl

theorem makeCondition_none (hp : ∀ h f, s.engine.published ≠ .valid h f) : s.makeCondition = (s, false) := by
  unfold makeCondition
  split
  · exact absurd ‹_› (hp _ _)
  · rfl

theorem conditionDue_of {d : Nat} (hw : s.working = true) (h : s.reports.conditionAt = some d) (hd : d ≤ s.now) :
    s.conditionDue = true := by
  simp [conditionDue, hw, h, hd]

/-- The condition timer's next deadline. -/
theorem conditionAt_conditionExpired (s : State) :
    s.conditionExpired.reports.conditionAt
      = if 1 ≤ s.reports.interval ∧ s.reports.interval ≤ 60 then some (s.now + 60 * s.reports.interval) else none := by
  unfold conditionExpired
  extract_lets r a
  have ha : a.now = s.now ∧ a.reports.interval = s.reports.interval := by
    dsimp only [a, r]
    split
    · refine ⟨(makeCondition_only s).now (by decide), ?_⟩
      unfold makeCondition
      split
      · rw [reports_makeRecord]
        rfl
      · rfl
    · exact ⟨(advise_only s _ _).now (by decide), congrArg Reports.interval ((advise_only s _ _).reports (by decide))⟩
  change a.conditionDeadline a.reports.interval = _
  rw [conditionDeadline, ha.1, ha.2]

theorem conditionExpired_valid {h : Header} {f : Figures} (hp : s.engine.published = .valid h f) :
    s.conditionExpired.reports.records.getLast? = some (s.recordOf .condition false false (conditionBody f)) := by
  unfold conditionExpired
  rw [makeCondition_valid hp]
  change (s.makeRecord .condition false false (conditionBody f)).reports.records.getLast? = _
  rw [reports_makeRecord, getLast?_add]

theorem conditionExpired_skipped (hp : ∀ h f, s.engine.published ≠ .valid h f) :
    s.conditionExpired.reports.records = s.reports.records
      ∧ s.conditionExpired.out.advised .reportSkipped = satSucc (s.out.advised .reportSkipped) := by
  have ha := advise_only s .reportSkipped subjectNone
  unfold conditionExpired
  rw [makeCondition_none hp]
  dsimp only
  rw [if_neg (by decide)]
  exact ⟨congrArg Reports.records (ha.reports (by decide)),
    advised_advise s subjectNone (by decide)⟩

/-! ### READ_CONDITION (R57) -/

theorem conditionPart_none (s : State) : ∃ part, s.conditionPart none = some part := by
  unfold conditionPart
  cases s.engine.published with
  | none => exact ⟨_, rfl⟩
  | invalid h => exact ⟨_, rfl⟩
  | valid h f => exact ⟨_, rfl⟩

theorem doReadCondition_summary_read {part : List Byte} (hu : s.unconfigured = false) (hp : s.conditionPart none = some part) :
    s.doReadCondition [0, 0] = (s, .accepted (s.conditionHead ++ part)) := by
  unfold doReadCondition
  dsimp only
  rw [if_pos (by decide)]
  unfold readCondition
  rw [hu, hp]
  rfl

theorem doReadCondition_station_read {st : Byte} {part : List Byte} (hu : s.unconfigured = false)
    (hst : st.toNat < s.bank.stationCount) (hp : s.conditionPart (some st.toNat) = some part) :
    s.doReadCondition [1, st, 0] = (s, .accepted (s.conditionHead ++ part)) := by
  unfold doReadCondition
  dsimp only
  rw [if_pos (by decide)]
  unfold readCondition
  rw [hu, hp]
  simp [hst]

theorem doReadCondition_reported {h : Header} {f : Figures} (hu : s.unconfigured = false)
    (hp : s.engine.published = .valid h f) :
    ∃ results, s.doReadCondition [0, 1] = (s.makeRecord .condition false false (conditionBody f), .accepted results) := by
  obtain ⟨part, hpart⟩ := s.conditionPart_none
  refine ⟨s.conditionHead ++ part ++ encFlag true, ?_⟩
  unfold doReadCondition
  dsimp only
  rw [if_pos (by decide)]
  unfold readCondition
  rw [hu, hpart]
  simp [makeCondition_valid hp]

/-! ### The beginning of an evaluation (R36, R37) -/

/-- The state an evaluation's snapshot is taken of: the sealed groups have switched. -/
def snapshotPoint (s : State) : State := s.engineStarts.switchSealed.growUncertainty

theorem engine_switchSealed (s : State) : s.switchSealed.engine = s.engine := by
  have hship (a : State) : a.switchShip.engine = a.engine := (switchShip_only a).engine (by decide)
  have hplan (a : State) : a.switchPlan.engine = a.engine := (switchPlan_only a).engine (by decide)
  unfold switchSealed
  dsimp only
  split <;> split <;> simp only [hship, hplan]

theorem engine_beginEvaluation (s : State) :
    s.beginEvaluation.engine = { s.engine with
      inFlight := true, abandon := false, snapshot := some s.snapshotPoint.takeSnapshot
      damaged := s.snapshotPoint.faults.anyActive .tableFault } := by
  have hpoint : s.snapshotPoint.engine = s.engineStarts.engine :=
    ((growUncertainty_only _).engine (by decide)).trans (engine_switchSealed _)
  have hsnap : s.snapshotPoint.engineSnapshots.engine = { s.snapshotPoint.engine with
      snapshot := some s.snapshotPoint.takeSnapshot
      damaged := s.snapshotPoint.faults.anyActive .tableFault } := rfl
  rw [hpoint] at hsnap
  unfold beginEvaluation
  dsimp only
  split
  · exact ((reexamine_only _).engine (by decide)).trans hsnap
  · exact hsnap

theorem requestEvaluation_flying (hw : s.working = true) (hf : s.engine.inFlight = true) :
    s.requestEvaluation = { s with engine := { s.engine with pending := true } } := by
  unfold requestEvaluation
  rw [if_neg (by simp [hw]), if_pos hf]

theorem requestEvaluation_idle (hw : s.working = true) (hf : s.engine.inFlight = false) :
    s.requestEvaluation = s.beginEvaluation := by
  unfold requestEvaluation
  rw [if_neg (by simp [hw]), if_neg (by simp [hf])]

theorem doRequestEvaluation_taken (hw : s.working = true) :
    s.doRequestEvaluation [] = (s.requestEvaluation, .accepted (encFlag s.engine.inFlight ++ enc4 s.engine.number)) := by
  unfold doRequestEvaluation
  rw [if_neg (fun h => h rfl), if_neg (by simp [not_unconfigured_of_working hw])]

theorem doRequestEvaluation_unconfigured (hu : s.sys.mode = .unconfigured) :
    s.doRequestEvaluation [] = s.refuse .wrongMode := by
  unfold doRequestEvaluation
  rw [if_neg (fun h => h rfl), if_pos (by simp [unconfigured, hu])]

/-- A request in a working mode sets the pending flag of a running evaluation or begins one. -/
theorem engine_requestEvaluation (hw : s.working = true) :
    s.requestEvaluation.engine.inFlight = true ∧ s.requestEvaluation.engine.number = s.engine.number
      ∧ (s.engine.inFlight = true → s.requestEvaluation.engine = { s.engine with pending := true })
      ∧ (s.engine.inFlight = false → ∃ n, s.requestEvaluation.engine.snapshot = some n
          ∧ s.requestEvaluation.engine.pending = s.engine.pending) := by
  cases hf : s.engine.inFlight
  · rw [requestEvaluation_idle hw hf, engine_beginEvaluation]
    exact ⟨rfl, rfl, nofun, fun _ => ⟨_, rfl, rfl⟩⟩
  · rw [requestEvaluation_flying hw hf]
    exact ⟨hf, rfl, fun _ => rfl, nofun⟩

/-! ### The scrub (R175, R176, R194) -/

/-- A scrub check moves on to the next table. -/
def scrubbedOn (s : State) : State :=
  { s with mgmt := { s.mgmt with scrubPos := s.mgmt.scrubPos.next, scrubAt := some (s.now + 1) } }

theorem scrubDue_of {d : Nat} (hw : s.working = true) (h : s.mgmt.scrubAt = some d) (hd : d ≤ s.now) : s.scrubDue = true := by
  simp [scrubDue, hw, h, hd]

theorem scrubbedOn_only (s : State) : s.onlyChanges [.scrub] s.scrubbedOn := by
  intro b hb
  cases b <;> simp_all [agree, scrubbedOn]

theorem scrub_intact (h : (s.bank.get s.mgmt.scrubPos).intact s.mgmt.scrubPos = true) : s.scrub = s.scrubbedOn := if_pos h

theorem scrub_evaluation (h : (s.bank.get s.mgmt.scrubPos).intact s.mgmt.scrubPos = false)
    (hg : s.mgmt.scrubPos.inEvaluationGroup = true) : s.scrub = s.scrubbedOn.raiseTableFault s.mgmt.scrubPos :=
  (if_neg (by simp [h])).trans (if_pos hg)

theorem scrub_other (h : (s.bank.get s.mgmt.scrubPos).intact s.mgmt.scrubPos = false)
    (hg : s.mgmt.scrubPos.inEvaluationGroup = false) : s.scrub = s.scrubbedOn.tableFaultBypass :=
  (if_neg (by simp [h])).trans (if_neg (by simp [hg]))

/-- A fault that escalates takes a working part into SAFE as it is raised (R173). -/
theorem mode_raiseFault (hs : s.faults.sound) (hw : s.working = true) {k : FaultKind} {x : Nat}
    (hk : escalates s.bank k = true) (ha : s.faults.active k x = false) : (s.raiseFault k x).sys.mode = .safe := by
  unfold raiseFault
  split
  case h_1 h =>
    rw [hs.active_of_raise_none h] at ha
    cases ha
  case h_2 f n h =>
    have hmade := withFaults_only s f k x transitionRaised n
    unfold enterSafeOn
    rw [hmade.bank (by decide), hmade.mode (by decide)]
    split
    · rfl
    · next hne =>
      rw [hmade.mode (by decide)]
      have hw' : s.sys.mode.working = true := hw
      revert hne hw'
      cases s.sys.mode <;> simp [Mode.working, hk]

theorem afterRaising_only (s : State) (m : Mode) :
    s.onlyChanges [.pacing, .out, .faults, .tracker, .reports, .shore, .screen, .stations] (s.afterRaising m) :=
  ((pacingEvent_only s _ (followSafe_only s m)).andThen (tellModeIf_only _ m)).mono (by decide)

/-- A part that has entered SAFE holds the reason SAFE on every loader (R94). -/
theorem reasons_afterRaising {m : Mode} (hs : s.sys.mode = .safe) (hm : m ≠ .safe) {l : Nat} (hl : l < 4) :
    ((s.afterRaising m).pause l).reasons = (s.pause l).reasons.add .safe := by
  unfold afterRaising
  rw [(tellModeIf_only _ m).pause (by decide), reasons_pacingEvent _ _ hl, followSafe, if_pos ⟨hs, hm⟩,
    pause_addReasonAll s .safe hl, withReason, if_pos (.inl rfl)]

/-- The table fault raised and the evaluation in flight marked, before the part reacts to it. -/
def tableFaultRaised (s : State) (c : TableCode) : State :=
  { s.raiseFault .tableFault c.code with engine :=
      { (s.raiseFault .tableFault c.code).engine with
        damaged := (s.raiseFault .tableFault c.code).engine.damaged || (s.raiseFault .tableFault c.code).engine.inFlight } }

theorem raiseTableFault_new {c : TableCode} (h : s.faults.active .tableFault c.code = false) :
    s.raiseTableFault c = (s.tableFaultRaised c).afterRaising s.sys.mode := if_neg (by simp [h])

theorem raiseTableFault_again {c : TableCode} (h : s.faults.active .tableFault c.code = true) : s.raiseTableFault c = s :=
  if_pos h

theorem tableFaultRaised_only (s : State) (c : TableCode) :
    s.onlyChanges [.faults, .out, .mode, .engine] (s.tableFaultRaised c) :=
  ((raiseFault_only s _ _).andThen (only_engine _ _)).mono (by decide)

theorem raiseTableFault_only (s : State) (c : TableCode) :
    s.onlyChanges [.engine, .faults, .out, .mode, .pacing, .tracker, .reports, .shore, .screen, .stations]
      (s.raiseTableFault c) :=
  onlyChanges_ite (onlyChanges_refl _ s) (((s.tableFaultRaised_only c).andThen (afterRaising_only _ _)).mono (by decide))

theorem afterRaising_marks (s : State) (m : Mode) :
    s.marksOnly [.pauseUnconfirmed, .overpour, .pumpStartFailed] (s.afterRaising m) := by
  have htell (u : State) : u.marksOnly [.pumpStartFailed] (u.tellModeIf m) :=
    marksOnly_ite (marksOnly_refl _ u) (((sendBeacon_only u).marksOnly _).trans (reexamine_marks _))
  exact (pacingEvent_marks s _ (followSafe_only s m)).andThen (htell _)

/-- A TABLE_FAULT that is new damages the evaluation in flight and takes a working part into SAFE (R54, R175). -/
theorem raiseTableFault_raises {c : TableCode} (hs : s.faults.sound) (hw : s.working = true) :
    (s.raiseTableFault c).faults.active .tableFault c.code = true
      ∧ (s.faults.active .tableFault c.code = false →
          (s.raiseTableFault c).engine.damaged = (s.engine.damaged || s.engine.inFlight)
            ∧ (s.raiseTableFault c).sys.mode = .safe
            ∧ (s.sys.mode ≠ .safe → ∀ l < 4,
                ((s.raiseTableFault c).pause l).reasons = (s.pause l).reasons.add .safe)) := by
  cases ha : s.faults.active .tableFault c.code
  · have hraised : (s.raiseFault .tableFault c.code).faults.active .tableFault c.code = true :=
      active_raiseFault hs rfl c.code
    have hmode : (s.tableFaultRaised c).sys.mode = .safe := mode_raiseFault hs hw rfl ha
    have hafter := afterRaising_only (s.tableFaultRaised c) s.sys.mode
    rw [raiseTableFault_new ha]
    refine ⟨(afterRaising_marks _ _ .tableFault c.code (by decide)).trans hraised, fun _ => ⟨?_, ?_, fun hne l hl => ?_⟩⟩
    · rw [hafter.engine (by decide)]
      change ((s.raiseFault .tableFault c.code).engine.damaged || (s.raiseFault .tableFault c.code).engine.inFlight) = _
      rw [(raiseFault_only s .tableFault c.code).engine (by decide)]
    · rw [hafter.mode (by decide), hmode]
    · rw [reasons_afterRaising hmode hne hl, (tableFaultRaised_only s c).pause (by decide)]
  · rw [raiseTableFault_again ha]
    exact ⟨ha, nofun⟩

theorem atReset_tableFaultBypass (s : State) : s.tableFaultBypass.atReset .tableReload :=
  have h := atReset_afterReset .tableReload s.mgmt.store s.pending
  ⟨rfl, h.session, rfl, h.clock, h.out, h.faults, h.ship, h.plan, h.writing, h.scrub, h.tanks, h.shore, h.engine,
    h.tracker, h.pacing, h.stations, h.screen, h.reports⟩

end State

/-- Settles O51: removing SAFE is one event after the mode's change. -/
theorem clearSafeNeedsNoCriticalMark : Obligations.ClearSafeNeedsNoCriticalMark := by
  refine ⟨fun s src seq h hm hmode hc => ?_, fun s src seq h hm href => ?_⟩
  · have hexec := State.exec_accepted (c := .clearSafe src seq []) (args := []) h hm (Nat.zero_le 55)
      (State.serve_clearSafe.trans (State.doClearSafe_safe (s := s.countAccepted .console) hmode hc)) (by rfl)
    have hmode' := State.mode_clearSafe (s.countAccepted .console)
    have hpause := fun l (hl : l < 4) => State.pause_clearSafe (s.countAccepted .console) hl
    have honly := (State.countAccepted_only s .console).andThen (State.clearSafe_only _)
    generalize (s.countAccepted .console).clearSafe = u at *
    have hsent := State.sendReply_only u src seq 25 0 0 []
    generalize u.sendReply src seq 25 0 0 [] = t at *
    refine ⟨t, hexec, (hsent.mode (by decide)).trans hmode', fun l hl => ?_, (honly.andThen hsent).mono (by decide)⟩
    rw [hsent.pause (by decide)]
    exact hpause l hl
  · exact State.exec_refused (c := .clearSafe src seq []) (args := []) h hm (Nat.zero_le 55)
      (State.serve_clearSafe.trans (State.doClearSafe_refused (s := s.countAccepted .console) href)) (by rfl)

/-- Settles O48: the judgement of the arguments, then the record of a made CONDITION. -/
theorem readConditionReportsOnRequest : Obligations.ReadConditionReportsOnRequest := by
  intro s src seq h hm
  have hu : (s.countAccepted .console).unconfigured = false := State.not_unconfigured_of_working h.working
  refine ⟨?_, fun st hst part hp => ?_, fun hd f hp => ?_⟩
  · obtain ⟨part, hp⟩ := s.conditionPart_none
    exact ⟨part, hp, State.exec_accepted (c := .readCondition src seq [0, 0]) (args := [0, 0]) h.inCircuit hm
      (show 2 ≤ 55 by decide) (State.serve_readCondition.trans (State.doReadCondition_summary_read hu hp)) (by rfl)⟩
  · exact State.exec_accepted (c := .readCondition src seq [1, st, 0]) (args := [1, st, 0]) h.inCircuit hm
      (show 3 ≤ 55 by decide) (State.serve_readCondition.trans (State.doReadCondition_station_read hu hst hp)) (by rfl)
  · obtain ⟨results, hr⟩ := State.doReadCondition_reported hu hp
    have hexec := State.exec_accepted (c := .readCondition src seq [0, 1]) (args := [0, 1]) h.inCircuit hm
      (show 2 ≤ 55 by decide) (State.serve_readCondition.trans hr) (by rfl)
    have hmade := (s.countAccepted .console).makeRecord_only .condition false false (State.conditionBody f)
    have hrec := State.reports_makeRecord (s.countAccepted .console) .condition false false (State.conditionBody f)
    generalize State.makeRecord _ _ _ _ _ = u at *
    have hsent := State.sendReply_only u src seq 19 0 0 results
    generalize u.sendReply src seq 19 0 0 results = t at *
    have hreports := (hsent.reports (by decide)).trans hrec
    refine ⟨t, hexec, ⟨_, by rw [hreports, State.getLast?_add], rfl, rfl⟩, by rw [hreports]; rfl,
      (((State.countAccepted_only s .console).andThen hmade).andThen hsent).mono (by decide)⟩

/-- Settles O46: the request begins an evaluation or sets the pending flag, and the reply reads the engine before it. -/
theorem requestEvaluationSaysWhatItDid : Obligations.RequestEvaluationSaysWhatItDid := by
  refine ⟨fun s src seq h hm hu => ?_, fun s src seq h hm => ?_⟩
  · exact State.exec_refused (c := .requestEvaluation src seq []) (args := []) h hm (Nat.zero_le 55)
      (State.serve_requestEvaluation.trans (State.doRequestEvaluation_unconfigured (s := s.countAccepted .console) hu))
      (by rfl)
  · exact ⟨State.exec_accepted (c := .requestEvaluation src seq []) (args := []) h.inCircuit hm (Nat.zero_le 55)
      (State.serve_requestEvaluation.trans (State.doRequestEvaluation_taken (s := s.countAccepted .console) h.working))
      (by rfl), State.engine_requestEvaluation (s := s.countAccepted .console) h.working⟩

/-- Settles O35: the body of `makeCondition` over a VALID record, and the advisory count without one. -/
theorem conditionTimerMakesARecord : Obligations.ConditionTimerMakesARecord := by
  intro s d hr hw ht hd
  exact ⟨_, exec_due hr (State.conditionDue_of hw ht hd) rfl, fun _ _ hp => State.conditionExpired_valid hp,
    State.conditionExpired_skipped, State.conditionAt_conditionExpired s, State.conditionExpired_only s⟩

/-- Settles O36: the check moves on, and what follows depends on the table it found damaged. -/
theorem scrubChecksTheNextTable : Obligations.ScrubChecksTheNextTable := by
  intro s d hr hw ht hd
  have hdue := State.scrubDue_of hw ht hd
  refine ⟨fun hi => ?_, fun hi hg hs => ?_, fun hi hg => ?_⟩
  · refine ⟨_, exec_due hr hdue rfl, ?_⟩
    rw [State.scrub_intact hi]
    exact ⟨rfl, rfl, s.scrubbedOn_only⟩
  · refine ⟨_, exec_due hr hdue rfl, ?_⟩
    rw [State.scrub_evaluation hi hg]
    have hraises := State.raiseTableFault_raises (s := s.scrubbedOn) (c := s.mgmt.scrubPos) hs hw
    have honly := State.raiseTableFault_only s.scrubbedOn s.mgmt.scrubPos
    exact ⟨(honly .scrub (by decide)).1, hraises.1, hraises.2, (s.scrubbedOn_only.andThen honly).mono (by decide)⟩
  · refine ⟨_, exec_due hr hdue rfl, ?_⟩
    rw [State.scrub_other hi hg]
    exact ⟨State.atReset_tableFaultBypass _, rfl, rfl, rfl, rfl, rfl⟩

end Sys2Proof.Machine
end
section
/-! PROOFS. ACK_FAULT (R182): what an acknowledgement does to the entries, and that it clears no mark. -/

namespace Sys2Proof.Machine

namespace Faults
variable {f : Faults}

/-! ### The entries after one operation on the table -/

theorem entry_mapEntry {g : FaultEntry → FaultEntry} (hk : ∀ e, (g e).kind = e.kind) (hx : ∀ e, (g e).subject = e.subject)
    (k j : FaultKind) (x y : Nat) :
    (f.mapEntry k x g).entry j y = if j = k ∧ y = x then (f.entry k x).map g else f.entry j y := by
  have hfor : ((fun e : FaultEntry => e.isFor j y) ∘ changed k x g) = fun e => e.isFor j y := by
    funext e
    simp only [Function.comp_apply, FaultEntry.isFor, changed_field hk, changed_field hx]
  have hmap : (f.mapEntry k x g).entry j y = (f.entry j y).map (changed k x g) := by
    rw [mapEntry_eq]
    unfold entry
    rw [List.find?_map, hfor]
  rw [hmap]
  split
  next h =>
    obtain ⟨rfl, rfl⟩ := h
    cases he : f.entry j y with
    | none => rfl
    | some e => exact congrArg some (changed_of_key g (mem_of_entry he).2.1 (mem_of_entry he).2.2)
  next h =>
    cases he : f.entry j y with
    | none => rfl
    | some e =>
      obtain ⟨_, rfl, rfl⟩ := mem_of_entry he
      exact congrArg some (changed_of_ne g h)

theorem entry_removeEntry (f : Faults) (k j : FaultKind) (x y : Nat) :
    (f.removeEntry k x).entry j y = if j = k ∧ y = x then none else f.entry j y := by
  unfold removeEntry entry
  rw [List.find?_filter]
  split
  next h =>
    obtain ⟨rfl, rfl⟩ := h
    exact List.find?_eq_none.2 fun e _ => by simp
  next h =>
    congr 1
    funext e
    by_cases hf : e.isFor j y = true
    · have hne : e.isFor k x = false := by
        rw [Bool.eq_false_iff]
        intro hk
        obtain ⟨hj, hy⟩ := isFor_iff.1 hf
        obtain ⟨hk, hx⟩ := isFor_iff.1 hk
        exact h ⟨hj.symm.trans hk, hy.symm.trans hx⟩
      simp [hf, hne]
    · simp [hf]

/-- A mark that takes a freed place adds its own entry only. -/
theorem entry_fillPlace (f : Faults) (j : FaultKind) (y : Nat) :
    f.fillPlace.entry j y = f.entry j y
      ∨ f.entry j y = none ∧ f.active j y = true ∧ ∃ e, f.fillPlace.entry j y = some e ∧ e.state = .activeUnack := by
  unfold fillPlace
  split
  · exact .inl rfl
  · next m hm =>
    have hmem : m ∈ f.marks := List.mem_of_find?_eq_some hm
    unfold entry
    dsimp only
    rw [List.find?_append]
    cases he : f.entries.find? fun e => e.isFor j y with
    | some e => exact .inl rfl
    | none =>
      by_cases hj : m.kind = j ∧ m.subject = y
      · obtain ⟨rfl, rfl⟩ := hj
        exact .inr ⟨rfl, active_iff.2 ⟨m, hmem, rfl, rfl⟩,
          { kind := m.kind, subject := m.subject, state := .activeUnack, first := m.raised, last := m.raised, count := 1 },
          by simp [FaultEntry.isFor], rfl⟩
      · refine .inl ?_
        have hne : ¬(m.kind = j ∧ m.subject = y) := hj
        simp [FaultEntry.isFor]
        tauto

/-! ### One entry acknowledged (R182, Table 10-4) -/

/-- What an acknowledgement leaves of an entry. -/
def acked (e : FaultEntry) : Option FaultEntry :=
  if e.state = .clearedUnack then none else some { e with state := .activeAck }

theorem entry_acknowledged (k j : FaultKind) (x y : Nat) :
    (f.mapEntry k x fun e => { e with state := .activeAck }).entry j y
      = if j = k ∧ y = x then (f.entry k x).map fun e => { e with state := .activeAck } else f.entry j y :=
  entry_mapEntry (g := fun e => { e with state := .activeAck }) (fun _ => rfl) (fun _ => rfl) k j x y

theorem acked_acknowledged {e : FaultEntry} (h : e.state = .activeAck) : acked e = some e := by
  unfold acked
  rw [if_neg (by rw [h]; decide), ← h]

/-- The entry of a fault in another table of the same alarm block is the entry it had, or a new one of an active mark. -/
def entryKept (f g : Faults) (j : FaultKind) (y : Nat) : Prop :=
  g.entry j y = f.entry j y
    ∨ f.entry j y = none ∧ f.active j y = true ∧ ∃ e, g.entry j y = some e ∧ e.state = .activeUnack

theorem entryKept.trans {g h : Faults} {j : FaultKind} {y : Nat} (hg : f.entryKept g j y) (hh : g.entryKept h j y)
    (hm : g.active j y = f.active j y) : f.entryKept h j y := by
  obtain hg | ⟨hnone, hactive, e, he, hst⟩ := hg
  · unfold entryKept at *
    rwa [hg, hm] at hh
  · obtain hh | ⟨hgone, _⟩ := hh
    · exact .inr ⟨hnone, hactive, e, hh.trans he, hst⟩
    · cases he.symm.trans hgone

theorem entryKept.some {g : Faults} {j : FaultKind} {y : Nat} (h : f.entryKept g j y) {e : FaultEntry}
    (he : f.entry j y = some e) : g.entry j y = some e := by
  obtain h | ⟨hnone, _⟩ := h
  · exact h.trans he
  · cases he.symm.trans hnone

theorem acknowledge_none {k : FaultKind} {x : Nat} (h : f.acknowledge k x = none) {e : FaultEntry}
    (he : f.entry k x = some e) : e.state = .activeAck := by
  unfold acknowledge at h
  rw [he] at h
  dsimp only at h
  split at h
  · cases h
  · assumption
  · cases h

theorem active_of_acknowledge {g : Faults} {k : FaultKind} {x n : Nat} (h : f.acknowledge k x = some (g, n))
    (j : FaultKind) (y : Nat) : g.active j y = f.active j y := by
  unfold acknowledge at h
  split at h
  · split at h
    · cases h; rfl
    · cases h
    · cases h; exact active_fillPlace _ _ _
  · cases h

/-- A freed place does not go to the fault whose entry has left it: that one has no mark. -/
theorem entry_acknowledge {g : Faults} (hs : f.sound) {k : FaultKind} {x n : Nat} (h : f.acknowledge k x = some (g, n)) :
    (∀ e, f.entry k x = some e → g.entry k x = acked e) ∧ ∀ j y, ¬(j = k ∧ y = x) → f.entryKept g j y := by
  unfold acknowledge at h
  split at h
  case h_2 => cases h
  case h_1 e he =>
    split at h
    case h_1 hst =>
      cases h
      refine ⟨fun e' he' => ?_, fun j y hj => .inl ?_⟩
      · cases he.symm.trans he'
        rw [entry_acknowledged, if_pos ⟨rfl, rfl⟩, he, acked, if_neg (by rw [hst]; decide)]
        rfl
      · rw [entry_acknowledged, if_neg hj]
    case h_2 => cases h
    case h_3 hst =>
      cases h
      have hremoved (j : FaultKind) (y : Nat) := f.entry_removeEntry k j x y
      have hmarks (j : FaultKind) (y : Nat) : (f.removeEntry k x).active j y = f.active j y := rfl
      refine ⟨fun e' he' => ?_, fun j y hj => ?_⟩
      · cases he.symm.trans he'
        obtain ⟨hmem, hk, hx⟩ := mem_of_entry he
        have hinactive : f.active k x = false := by simpa [hk, hx] using hs.inactive_of_cleared hmem hst
        rw [acked, if_pos hst]
        obtain hkept | ⟨_, hactive, _⟩ := (f.removeEntry k x).entry_fillPlace k x
        · rw [hkept, hremoved, if_pos ⟨rfl, rfl⟩]
        · rw [hmarks, hinactive] at hactive
          cases hactive
      · unfold entryKept
        obtain hkept | ⟨hnone, hactive, hnew⟩ := (f.removeEntry k x).entry_fillPlace j y
        · exact .inl (by rw [hkept, hremoved, if_neg hj])
        · rw [hremoved, if_neg hj] at hnone
          exact .inr ⟨hnone, hactive, hnew⟩

end Faults

namespace State
variable {s : State}

/-! ### On the state -/

theorem entry_withFaults (s : State) (f : Faults) (k j : FaultKind) (x y tr c : Nat) :
    (s.withFaults f k x tr c).faults.entry j y = f.entry j y := by
  have h : (s.withFaults f k x tr c).faults.entries = f.entries := by
    simp only [withFaults, judgeAlarm, Faults.judgeAlarm]
    split <;> rfl
  unfold Faults.entry
  rw [h]

/-- One acknowledgement: the entry it names, every other entry, every mark. -/
theorem faults_acknowledge (hs : s.faults.sound) (k : FaultKind) (x : Nat) :
    (∀ e, s.faults.entry k x = some e → (s.acknowledge k x).1.faults.entry k x = Faults.acked e)
      ∧ (∀ j y, ¬(j = k ∧ y = x) → s.faults.entryKept (s.acknowledge k x).1.faults j y)
      ∧ (∀ j y, (s.acknowledge k x).1.faults.active j y = s.faults.active j y)
      ∧ (s.acknowledge k x).1.faults.sound := by
  unfold acknowledge
  split
  next h =>
    exact ⟨fun e he => he.trans (Faults.acked_acknowledged (Faults.acknowledge_none h he)).symm, fun _ _ _ => .inl rfl,
      fun _ _ => rfl, hs⟩
  next f n h =>
    obtain ⟨hentry, hother⟩ := Faults.entry_acknowledge hs h
    refine ⟨fun e he => (entry_withFaults s f k k x x _ _).trans (hentry e he), fun j y hj => ?_,
      fun j y => (active_withFaults s f k j x y _ _).trans (Faults.active_of_acknowledge h j y), ?_⟩
    · unfold Faults.entryKept
      rw [entry_withFaults]
      exact hother j y hj
    · exact ((keeps.refl s).withFaults (k := k) (x := x) (tr := transitionAcknowledged) (c := n) fun _ => hs.acknowledge h).faults hs

/-- Entries acknowledged in turn, but for the count of those that changed. -/
def acknowledged (s : State) : List FaultEntry → State
  | [] => s
  | e :: es => acknowledged (s.acknowledge e.kind e.subject).1 es

theorem fst_acknowledgeAll (s : State) (es : List FaultEntry) : (s.acknowledgeAll es).1 = s.acknowledged es := by
  have key : ∀ a : State × Nat,
      (es.foldl (fun a e => let r := a.1.acknowledge e.kind e.subject; (r.1, a.2 + r.2)) a).1 = a.1.acknowledged es := by
    induction es with
    | nil => exact fun _ => rfl
    | cons e es ih => exact fun a => ih _
  exact key (s, 0)

theorem acknowledged_nil (s : State) : s.acknowledged [] = s := rfl

theorem acknowledged_cons (s : State) (e : FaultEntry) (es : List FaultEntry) :
    s.acknowledged (e :: es) = (s.acknowledge e.kind e.subject).1.acknowledged es := rfl

/-- Acknowledging entries one for a fault, in turn: each entry named is acknowledged, every other kept, no mark
changes, and what is new afterwards is the entry of an active mark. -/
theorem faults_acknowledged (es : List FaultEntry)
    (hd : es.Pairwise fun a b => ¬(a.kind = b.kind ∧ a.subject = b.subject)) : ∀ s : State, s.faults.sound →
    (∀ j y, (s.acknowledged es).faults.active j y = s.faults.active j y)
      ∧ (∀ j y e, s.faults.entry j y = some e → (∃ d ∈ es, d.kind = j ∧ d.subject = y) →
          (s.acknowledged es).faults.entry j y = Faults.acked e)
      ∧ (∀ j y, (¬∃ d ∈ es, d.kind = j ∧ d.subject = y) → s.faults.entryKept (s.acknowledged es).faults j y) := by
  induction es with
  | nil =>
    intro s _
    rw [acknowledged_nil]
    exact ⟨fun _ _ => rfl, fun _ _ _ _ h => absurd h (by simp), fun _ _ _ => .inl rfl⟩
  | cons d es ih =>
    intro s hs
    obtain ⟨hdes, hd⟩ := List.pairwise_cons.1 hd
    obtain ⟨hfirst, hothers, hmarks, hsound⟩ := faults_acknowledge hs d.kind d.subject
    obtain ⟨iactive, inamed, ikept⟩ := ih hd _ hsound
    rw [acknowledged_cons]
    generalize (s.acknowledge d.kind d.subject).1 = u at *
    have hnot : ¬∃ e ∈ es, e.kind = d.kind ∧ e.subject = d.subject := fun ⟨e, he, hk, hx⟩ => hdes e he ⟨hk.symm, hx.symm⟩
    refine ⟨fun j y => (iactive j y).trans (hmarks j y), fun j y e he hmem => ?_, fun j y hout => ?_⟩
    · by_cases hj : j = d.kind ∧ y = d.subject
      · obtain ⟨rfl, rfl⟩ := hj
        obtain hkept | ⟨hnone, hactive, _⟩ := ikept d.kind d.subject hnot
        · exact hkept.trans (hfirst e he)
        · have hcleared : e.state = .clearedUnack := by
            by_contra hne
            cases hnone.symm.trans ((hfirst e he).trans (if_neg hne))
          obtain ⟨hin, hk, hx⟩ := Faults.mem_of_entry he
          have hinactive := hs.inactive_of_cleared hin hcleared
          rw [hk, hx, ← hmarks, hactive] at hinactive
          cases hinactive
      · obtain ⟨c, hc, hck, hcx⟩ := hmem
        obtain rfl | hc := List.mem_cons.1 hc
        · exact absurd ⟨hck.symm, hcx.symm⟩ hj
        · exact inamed j y e ((hothers j y hj).some he) ⟨c, hc, hck, hcx⟩
    · have hj : ¬(j = d.kind ∧ y = d.subject) := fun ⟨hk, hx⟩ => hout ⟨d, List.mem_cons_self, hk.symm, hx.symm⟩
      have hes : ¬∃ c ∈ es, c.kind = j ∧ c.subject = y := fun ⟨c, hc, hcj⟩ => hout ⟨c, List.mem_cons_of_mem d hc, hcj⟩
      exact (hothers j y hj).trans (ikept j y hes) (hmarks j y)

theorem acknowledge_again {k : FaultKind} {x : Nat} {e : FaultEntry} (he : s.faults.entry k x = some e)
    (hst : e.state = .activeAck) : s.acknowledge k x = (s, 0) := by
  have h : s.faults.acknowledge k x = none := by
    unfold Faults.acknowledge
    rw [he]
    dsimp only
    rw [hst]
  unfold acknowledge
  rw [h]

theorem acknowledged_only (s : State) (es : List FaultEntry) : s.onlyChanges [.faults, .out] (s.acknowledged es) := by
  rw [← fst_acknowledgeAll]
  exact acknowledgeAll_only s es

theorem doAckFault_one {k x : Byte} {kind : FaultKind} (hk : FaultKind.ofCode k.toNat = some kind) :
    s.doAckFault [0, k, x] = if (s.faults.entry kind x.toNat).isSome then
      ((s.acknowledge kind x.toNat).1, .accepted (enc1 (s.acknowledge kind x.toNat).2)) else s.refuse .notFound := by
  unfold doAckFault
  dsimp only
  rw [if_neg (fun h => h rfl), hk]

theorem doAckFault_all : s.doAckFault [1]
    = (s.acknowledged s.faults.entries, .accepted (enc1 (s.acknowledgeAll s.faults.entries).2)) := by
  unfold doAckFault
  dsimp only
  rw [if_pos rfl, fst_acknowledgeAll]

end State

/-- Settles O52: an acknowledgement, and the acknowledgements of the entries that stand, in turn. -/
theorem acknowledgementClearsNoMark : Obligations.AcknowledgementClearsNoMark := by
  intro s src seq h hm hs
  refine ⟨fun k x kind e hk he => ?_, ?_, fun k x kind hk he => ?_⟩
  · have hserve := State.doAckFault_one (s := s.countAccepted .console) (x := x) hk
    rw [if_pos (by rw [show (s.countAccepted .console).faults.entry kind x.toNat = some e from he]; rfl)] at hserve
    have hexec := State.exec_accepted (c := .ackFault src seq [0, k, x]) (args := [0, k, x]) h hm (show 3 ≤ 55 by decide)
      (State.serve_ackFault.trans hserve) (by rfl)
    have honly := (State.countAccepted_only s .console).andThen (State.acknowledge_only _ kind x.toNat)
    obtain ⟨hentry, _, hmarks, _⟩ := State.faults_acknowledge (s := s.countAccepted .console) hs kind x.toNat
    have hsame : e.state = .activeAck → ((s.countAccepted .console).acknowledge kind x.toNat).1.faults = s.faults :=
      fun hst => congrArg (·.1.faults) (State.acknowledge_again (s := s.countAccepted .console) he hst)
    generalize (s.countAccepted .console).acknowledge kind x.toNat = r at *
    have hsent := State.sendReply_only r.1 src seq 26 0 0 (enc1 r.2)
    have hfaults := hsent.faults (by decide)
    generalize r.1.sendReply src seq 26 0 0 (enc1 r.2) = t at *
    refine ⟨t, hexec, fun hst => ?_, fun hst => hfaults.trans (hsame hst), fun hst => ?_, fun j y => ?_,
      (honly.andThen hsent).mono (by decide)⟩
    · rw [hfaults, hentry e he, Faults.acked, if_neg (by rw [hst]; decide)]
    · rw [hfaults, hentry e he, Faults.acked, if_pos hst]
    · rw [hfaults, hmarks]
      rfl
  · have hexec := State.exec_accepted (c := .ackFault src seq [1]) (args := [1]) h hm (show 1 ≤ 55 by decide)
      (State.serve_ackFault.trans (State.doAckFault_all (s := s.countAccepted .console))) (by rfl)
    have honly := (State.countAccepted_only s .console).andThen (State.acknowledged_only _ s.faults.entries)
    obtain ⟨hmarks, hnamed, hkept⟩ := State.faults_acknowledged s.faults.entries hs.oneEntry (s.countAccepted .console) hs
    change exec _ s = .next (State.sendReply ((s.countAccepted .console).acknowledged s.faults.entries) src seq _ 0 0
      (enc1 ((s.countAccepted .console).acknowledgeAll s.faults.entries).2)) at hexec
    generalize (s.countAccepted .console).acknowledged s.faults.entries = u at *
    generalize enc1 (State.acknowledgeAll _ _).2 = results at hexec
    have hsent := State.sendReply_only u src seq 26 0 0 results
    have hfaults := hsent.faults (by decide)
    generalize u.sendReply src seq 26 0 0 results = t at *
    refine ⟨t, hexec, fun j y => ?_, fun j y e he => ?_, fun j y e' hnone he' => ?_, (honly.andThen hsent).mono (by decide)⟩
    · rw [hfaults, hmarks]
      rfl
    · obtain ⟨hmem, hk, hx⟩ := Faults.mem_of_entry he
      rw [hfaults]
      exact hnamed j y e he ⟨e, hmem, hk, hx⟩
    · have hout : ¬∃ d ∈ s.faults.entries, d.kind = j ∧ d.subject = y :=
        fun ⟨d, hd, hk, hx⟩ => Faults.entry_none_iff.1 hnone d hd ⟨hk, hx⟩
      rw [hfaults] at he'
      obtain hsame | ⟨_, hactive, e, he, hst⟩ := hkept j y hout
      · cases (he'.symm.trans hsame).trans hnone
      · cases he.symm.trans he'
        exact ⟨hst, hactive⟩
  · have hserve := State.doAckFault_one (s := s.countAccepted .console) (x := x) hk
    rw [if_neg (by rw [show (s.countAccepted .console).faults.entry kind x.toNat = none from he]; decide)] at hserve
    exact State.exec_refused (c := .ackFault src seq [0, k, x]) (args := [0, k, x]) (r := .notFound) h hm
      (show 3 ≤ 55 by decide) (State.serve_ackFault.trans hserve) (by rfl)

end Sys2Proof.Machine
end
section
/-! PROOFS. The roundings (00_scope.md), and how the part comes into circuit from the ship store (R169, R176, R195). -/

namespace Sys2Proof.Machine

/-! ### Rounding -/

theorem ceilDiv_bounds (n : Int) {d : Int} (hd : 0 < d) : n ≤ ceilDiv n d * d ∧ (ceilDiv n d - 1) * d < n := by
  unfold ceilDiv
  rw [if_neg hd.ne', Int.fdiv_eq_ediv_of_nonneg _ hd.le]
  have hlow : (-n) / d * d ≤ -n := Int.ediv_mul_le _ hd.ne'
  have hhigh : -n < ((-n) / d + 1) * d := Int.lt_ediv_add_one_mul_self _ hd
  constructor <;> linarith

/-- The whole number of halves in a quotient of magnitudes, rounded away from zero. -/
theorem nearest_bounds (a : Nat) {b : Nat} (hb : 0 < b) :
    2 * a < 2 * ((2 * a + b) / (2 * b) * b) + b ∧ 2 * ((2 * a + b) / (2 * b) * b) ≤ 2 * a + b := by
  have hlow : (2 * a + b) / (2 * b) * (2 * b) ≤ 2 * a + b := Nat.div_mul_le_self _ _
  have hhigh : 2 * a + b < 2 * b * ((2 * a + b) / (2 * b) + 1) := Nat.lt_mul_div_succ _ (by omega)
  generalize (2 * a + b) / (2 * b) = q at *
  constructor <;> linarith

/-- The rounded quotient has the sign of the exact one and the magnitude of the nearest multiple. -/
theorem roundDiv_mul (n : Int) {d : Int} (hd : d ≠ 0) :
    roundDiv n d * d = (if n < 0 then -1 else 1) * (((2 * n.natAbs + d.natAbs) / (2 * d.natAbs) * d.natAbs : Nat) : Int) := by
  unfold roundDiv
  rw [if_neg hd]
  dsimp only
  generalize (2 * n.natAbs + d.natAbs) / (2 * d.natAbs) = q
  push_cast
  rcases lt_trichotomy d 0 with h | h | h
  · rw [abs_of_neg h]
    by_cases hn : n < 0 <;> simp [hn, h]
  · exact absurd h hd
  · rw [abs_of_pos h]
    by_cases hn : n < 0 <;> simp [hn, not_lt.2 h.le]

/-- Settles O25: both roundings bounded by the division they are made of. -/
theorem divisionsRoundAsTheManualSays : Obligations.DivisionsRoundAsTheManualSays := by
  refine ⟨fun n d hd => ?_, fun n d hd => ceilDiv_bounds n hd⟩
  dsimp only
  rw [roundDiv_mul n hd]
  obtain ⟨hlow, hhigh⟩ := nearest_bounds n.natAbs (Int.natAbs_pos.2 hd)
  generalize (2 * n.natAbs + d.natAbs) / (2 * d.natAbs) * d.natAbs = m at *
  split <;> omega

namespace State
variable {s : State}

/-! ### The records and timers of a part that comes into circuit (R3, R4, R117, R118) -/

/-- One turn of the reset of the tank records. -/
def resetTank (i : Nat) (s : State) : State := s.modTank i fun _ => TankRec.reset (s.bank.tankDensity i)

theorem resetTanks_eq (s : State) : s.resetTanks = forEach (List.range 32) resetTank s := rfl

theorem tank_resetTanks (s : State) {k : Nat} (hk : k < 32) :
    s.resetTanks.tank k = TankRec.reset (s.bank.tankDensity k) := by
  rw [resetTanks_eq]
  refine record_forEach tank (g := fun i _ => TankRec.reset (s.bank.tankDensity i)) (I := fun u => u.bank = s.bank)
    (f := resetTank) (fun i u _ hu => hu) (fun i u hi hu => ?_) (fun i u j _ hj => tank_modTank_other u i j _ hj) rfl hk
  rw [resetTank, tank_modTank u i _ hi, hu]

theorem station_bindStations (s : State) {i : Nat} (hi : i < 64) :
    s.bindStations.station i = StationRec.reset (addressIn s.bank.stationBindings i) :=
  record_forEach station (g := fun i _ => StationRec.reset (addressIn s.bank.stationBindings i)) (I := fun _ => True)
    (fun _ _ _ => id) (fun i u hi _ => station_modStation u i _ hi) (fun i u j _ hj => station_modStation_other u i j _ hj)
    trivial hi

theorem tank_startGaugeTimers (s : State) {k : Nat} (hk : k < 32) :
    s.startGaugeTimers.tank k
      = if s.bank.tankFitted k then { s.tank k with gaugeTimer := some s.now } else s.tank k := by
  refine record_forEach tank (g := fun i r => if s.bank.tankFitted i then { r with gaugeTimer := some s.now } else r)
    (I := fun u => u.bank = s.bank) (fun i u _ hu => ?_) (fun i u hi hu => ?_) (fun i u j _ hj => ?_) rfl hk
  · split
    · exact hu
    · exact hu
  · rw [hu]
    split
    · exact tank_modTank u i _ hi
    · rfl
  · split
    · exact tank_modTank_other u i j _ hj
    · rfl

/-- The presence timer of a bound station started. -/
def presenceStarted (d : Nat) (r : StationRec) : StationRec := if r.address.isSome then { r with presenceAt := some d } else r

theorem startPresenceTimers_eq (s : State) :
    s.startPresenceTimers = forEach (List.range 64) (fun i u => u.modStation i (presenceStarted s.presenceDeadline)) s := rfl

theorem station_startPresenceTimers (s : State) {i : Nat} (hi : i < 64) :
    s.startPresenceTimers.station i = presenceStarted s.presenceDeadline (s.station i) := by
  rw [startPresenceTimers_eq]
  exact record_forEach station (g := fun _ => presenceStarted s.presenceDeadline)
    (f := fun i u => u.modStation i (presenceStarted s.presenceDeadline)) (I := fun _ => True) (fun _ _ _ _ => trivial)
    (fun i u hi _ => station_modStation u i _ hi) (fun i u j _ hj => station_modStation_other u i j _ hj) trivial hi

/-- The timers of the engine and of the scrub set at entry to STANDBY (R35, R194). -/
def setTimers (s : State) : State :=
  { s with
    engine := { s.engine with intervalAt := some (s.now + s.bank.evaluationInterval) }
    mgmt := { s.mgmt with scrubAt := some (s.now + 1) } }

theorem startTimers_eq (s : State) : s.startTimers = s.startGaugeTimers.startPresenceTimers.setTimers := rfl

theorem setTimers_tank (s : State) (k : Nat) : s.setTimers.tank k = s.tank k := rfl
theorem setTimers_station (s : State) (i : Nat) : s.setTimers.station i = s.station i := rfl
theorem setTimers_intervalAt (s : State) : s.setTimers.engine.intervalAt = some (s.now + s.bank.evaluationInterval) := rfl

theorem startTimers_tank (s : State) (k : Nat) : s.startTimers.tank k = s.startGaugeTimers.tank k := by
  rw [startTimers_eq, setTimers_tank, (startPresenceTimers_only _).tank (by decide)]

theorem startTimers_station (s : State) (i : Nat) :
    s.startTimers.station i = s.startGaugeTimers.startPresenceTimers.station i := by
  rw [startTimers_eq, setTimers_station]

theorem startTimers_intervalAt (s : State) :
    s.startTimers.engine.intervalAt = some (s.now + s.bank.evaluationInterval) := by
  have h : s.onlyChanges [.tanks, .stations] s.startGaugeTimers.startPresenceTimers :=
    (startGaugeTimers_only s).andThen (startPresenceTimers_only _)
  rw [startTimers_eq, setTimers_intervalAt, h.now (by decide), h.bank (by decide)]

/-! ### Into circuit (R169) -/

/-- The mode taken on leaving BYPASS. -/
def enteredMode (s : State) (m : Mode) : State :=
  { s with sys := { s.sys with mode := m, settle := none, reload := none, latch := false } }

/-- The part in circuit before its timers: the records reset, the alarm judged, the beacon sent. -/
def circuitEntered (s : State) (m : Mode) : State := (s.enteredMode m).resetTanks.bindStations.judgeAlarm.sendBeacon

theorem enterCircuit_standby (s : State) : s.enterCircuit .standby = (s.circuitEntered .standby).startTimers := by
  unfold enterCircuit circuitEntered enteredMode bindRecords
  dsimp only
  rw [if_pos rfl]

theorem enterCircuit_unconfigured (s : State) : s.enterCircuit .unconfigured = s.circuitEntered .unconfigured := by
  unfold enterCircuit circuitEntered enteredMode bindRecords
  dsimp only
  rw [if_neg (by decide)]

theorem enteredMode_only (s : State) (m : Mode) : s.onlyChanges [.mode, .supply] (s.enteredMode m) := by
  intro b hb
  cases b <;> simp_all [agree, enteredMode]

/-- What follows the mode on the way into circuit. -/
theorem recordsReset_only (s : State) :
    s.onlyChanges [.tanks, .stations, .faults, .out, .shore] s.resetTanks.bindStations.judgeAlarm.sendBeacon :=
  ((((resetTanks_only s).andThen (bindStations_only _)).andThen (judgeAlarm_only _)).andThen (sendBeacon_only _)).mono
    (by decide)

theorem circuitEntered_only (s : State) (m : Mode) :
    s.onlyChanges [.mode, .supply, .tanks, .stations, .faults, .out, .shore] (s.circuitEntered m) :=
  ((s.enteredMode_only m).andThen (recordsReset_only _)).mono (by decide)

theorem circuitEntered_supply (s : State) (m : Mode) :
    (s.circuitEntered m).sys.mode = m ∧ (s.circuitEntered m).sys.settle = none ∧ (s.circuitEntered m).sys.reload = none
      ∧ (s.circuitEntered m).sys.latch = false ∧ (s.circuitEntered m).sys.cause = s.sys.cause :=
  have h := (s.enteredMode m).recordsReset_only
  ⟨h.mode (by decide), h.settle (by decide), h.reload (by decide), h.latch (by decide), h.cause (by decide)⟩

theorem circuitEntered_beaconAt (s : State) (m : Mode) :
    (s.circuitEntered m).shore.beaconAt = some (s.now + s.bank.beaconInterval) := by
  have h := ((s.enteredMode_only m).andThen (resetTanks_only _)).andThen
    ((bindStations_only _).andThen (judgeAlarm_only _))
  rw [circuitEntered, shore_sendBeacon, h.now (by decide), h.bank (by decide)]

theorem circuitEntered_tank (s : State) (m : Mode) {k : Nat} (hk : k < 32) :
    (s.circuitEntered m).tank k = TankRec.reset (s.bank.tankDensity k) := by
  have h := ((bindStations_only (s.enteredMode m).resetTanks).andThen (judgeAlarm_only _)).andThen (sendBeacon_only _)
  rw [circuitEntered, h.tank (by decide), tank_resetTanks _ hk, (s.enteredMode_only m).bank (by decide)]

theorem circuitEntered_station (s : State) (m : Mode) {i : Nat} (hi : i < 64) :
    (s.circuitEntered m).station i = StationRec.reset (addressIn s.bank.stationBindings i) := by
  have h := (judgeAlarm_only (s.enteredMode m).resetTanks.bindStations).andThen (sendBeacon_only _)
  have hbank := (s.enteredMode_only m).andThen (resetTanks_only (s.enteredMode m))
  rw [circuitEntered, h.station (by decide), station_bindStations _ hi, hbank.bank (by decide)]

/-- What a part in circuit has in either mode. -/
theorem enterCircuit_supply (s : State) {m : Mode} (hm : m = .standby ∨ m = .unconfigured) :
    (s.enterCircuit m).sys.settle = none ∧ (s.enterCircuit m).sys.reload = none ∧ (s.enterCircuit m).sys.latch = false
      ∧ (s.enterCircuit m).sys.cause = s.sys.cause
      ∧ (s.enterCircuit m).shore.beaconAt = some (s.now + s.bank.beaconInterval) := by
  obtain ⟨_, hsettle, hreload, hlatch, hcause⟩ := s.circuitEntered_supply m
  have hbeacon := s.circuitEntered_beaconAt m
  obtain rfl | rfl := hm
  · have h := (s.circuitEntered .standby).startTimers_only
    rw [enterCircuit_standby, h.settle (by decide), h.reload (by decide), h.latch (by decide), h.cause (by decide),
      h.shore (by decide)]
    exact ⟨hsettle, hreload, hlatch, hcause, hbeacon⟩
  · rw [enterCircuit_unconfigured]
    exact ⟨hsettle, hreload, hlatch, hcause, hbeacon⟩

/-- The timers of a part that enters STANDBY run. -/
theorem enterCircuit_timers (s : State) :
    (s.enterCircuit .standby).engine.intervalAt = some (s.now + s.bank.evaluationInterval)
      ∧ (∀ k < 32, s.bank.tankFitted k = true →
          (s.enterCircuit .standby).tank k = { TankRec.reset (s.bank.tankDensity k) with gaugeTimer := some s.now })
      ∧ ∀ i < 64, ((s.enterCircuit .standby).station i).address = addressIn s.bank.stationBindings i
          ∧ (((s.enterCircuit .standby).station i).address.isSome →
            ((s.enterCircuit .standby).station i).presenceAt = some (s.now + s.bank.presenceTimeout)) := by
  have honly := circuitEntered_only s .standby
  have htank := fun k (hk : k < 32) => circuitEntered_tank s .standby hk
  have hstation := fun i (hi : i < 64) => circuitEntered_station s .standby hi
  rw [enterCircuit_standby]
  generalize s.circuitEntered .standby = b at *
  have hnow := honly.now (by decide)
  have hbank := honly.bank (by decide)
  refine ⟨by rw [startTimers_intervalAt, hnow, hbank], fun k hk hf => ?_, fun i hi => ?_⟩
  · rw [startTimers_tank, tank_startGaugeTimers b hk, hbank, if_pos hf, htank k hk, hnow]
  · have hgauge := startGaugeTimers_only b
    rw [startTimers_station, station_startPresenceTimers _ hi, hgauge.station (by decide) i, hstation i hi, presenceStarted, presenceDeadline,
      hgauge.now (by decide), hgauge.bank (by decide), hnow, hbank]
    split
    · exact ⟨rfl, fun _ => rfl⟩
    · next h => exact ⟨rfl, fun ha => absurd ha h⟩

/-! ### The ship store loaded (R195) -/

theorem loadStore_valid (h : s.storeValid = true) :
    s.loadStore.mgmt = { s.mgmt with
      ship := { s.mgmt.ship with active := s.mgmt.store.bank, staging := s.mgmt.store.bank }
      storeState := .valid
      unstored := false } := by
  unfold loadStore
  rw [h]
  rfl

theorem loadStore_invalid (h : s.storeValid = false) :
    s.loadStore.mgmt = { s.mgmt with
      ship := { s.mgmt.ship with active := ShipBank.default, staging := ShipBank.default }
      storeState := .invalid
      unstored := true } := by
  unfold loadStore
  rw [h]
  rfl

theorem reloadAfterFault_valid (h : s.storeValid = true) : s.reloadAfterFault = s.loadStore.enterCircuit .standby := if_pos h

/-- The part that stays in BYPASS over an invalid image. -/
theorem reloadAfterFault_invalid (h : s.storeValid = false) :
    s.reloadAfterFault = { s.loadStore with sys := { s.loadStore.sys with reload := none } } := if_neg (by simp [h])

end State

/-- Settles O4: the store is loaded, then the part comes into circuit. -/
theorem settleEndLoadsTheShipStore : Obligations.SettleEndLoadsTheShipStore := by
  intro s hr hs
  have hdue : s.settleDue = true := by simp [State.settleDue, hr.1, hs]
  refine ⟨_, exec_due hr hdue rfl, ?_⟩
  have hload := s.loadStore_only
  have hgen : s.loadStore.mgmt.store = s.mgmt.store ∧ s.loadStore.mgmt.ship.gen = s.mgmt.ship.gen := ⟨rfl, rfl⟩
  have hmode : (if s.storeValid then Mode.standby else .unconfigured) = .standby
      ∨ (if s.storeValid then Mode.standby else .unconfigured) = .unconfigured := by split <;> simp
  have honly := s.loadStore.enterCircuit_only (if s.storeValid then .standby else .unconfigured)
  have hm := s.loadStore.enterCircuit_mode (if s.storeValid then .standby else .unconfigured)
  obtain ⟨hsettle, _, _, _, hbeacon⟩ := s.loadStore.enterCircuit_supply hmode
  have htimers := s.loadStore.enterCircuit_timers
  have hvalid := State.loadStore_valid (s := s)
  have hinvalid := State.loadStore_invalid (s := s)
  have hstandby : s.storeValid = true → (if s.storeValid then Mode.standby else .unconfigured) = .standby :=
    fun h => if_pos h
  have hunconfigured : s.storeValid = false → (if s.storeValid then Mode.standby else .unconfigured) = .unconfigured :=
    fun h => if_neg (by simp [h])
  unfold State.endSettle
  generalize (if s.storeValid then Mode.standby else .unconfigured) = m at *
  generalize s.loadStore = u at *
  have hship := honly.shipGroup (by decide)
  obtain ⟨hstore, hstate, _, hunstored⟩ := honly .store (by decide)
  have hbank := honly.bank (by decide)
  have hnow : u.now = s.now := hload.now (by decide)
  refine ⟨hsettle, hstore.trans hgen.1, (congrArg Group.gen hship).trans hgen.2, by rw [hbeacon, hbank, hnow],
    fun hv => ?_, fun hv => ?_, (hload.andThen honly).mono (by decide)⟩
  · obtain rfl := hstandby hv
    obtain ⟨hinterval, htank, hstation⟩ := htimers
    rw [hvalid hv] at hship hstate hunstored
    rw [hbank, hship, hunstored, hstate, ← hnow]
    exact ⟨hm, rfl, rfl, rfl, rfl, hinterval, fun k hk hf => htank k hk hf, hstation⟩
  · obtain rfl := hunconfigured hv
    rw [hinvalid hv] at hship hstate hunstored
    rw [hship, hunstored, hstate]
    exact ⟨hm, rfl, rfl, rfl, rfl⟩

/-- Settles O5: the reload enters the circuit over a valid image and changes nothing else over an invalid one. -/
theorem tableFaultReloadNeedsAValidImage : Obligations.TableFaultReloadNeedsAValidImage := by
  intro s hr hs
  have hdue : s.reloadDue = true := by simp [State.reloadDue, hr.1, hs]
  refine ⟨_, exec_due hr hdue rfl, ?_⟩
  have hload := s.loadStore_only
  cases hv : s.storeValid
  · rw [State.reloadAfterFault_invalid hv]
    have hreload := State.settle_only s.loadStore s.loadStore.sys.settle none
    refine ⟨rfl, hload.cause (by decide), nofun, fun _ => ⟨hload.mode (by decide), hload.latch (by decide),
      hload.faults (by decide), hload.out (by decide), (hload.andThen hreload).mono (by decide)⟩⟩
  · rw [State.reloadAfterFault_valid hv]
    obtain ⟨_, hreload, hlatch, hcause, _⟩ := s.loadStore.enterCircuit_supply (.inl rfl)
    have hbank : (s.loadStore.enterCircuit .standby).bank = s.loadStore.bank :=
      (s.loadStore.enterCircuit_only .standby).bank (by decide)
    have hstored : s.loadStore.bank = s.mgmt.store.bank := by
      unfold State.bank
      rw [State.loadStore_valid hv]
    refine ⟨hreload, hcause.trans (hload.cause (by decide)), fun _ => ⟨State.enterCircuit_mode _ _, hlatch,
      hbank.trans hstored, ?_⟩, nofun⟩
    rw [s.loadStore.enterCircuit_timers.1, hbank, hload.now (by decide)]

end Sys2Proof.Machine
end
section
/-! PROOFS. The re-examination of the held-order list (R145): what an order's judgement does to its own station, and
what a re-examination leaves to the stations that hold no entry. -/

namespace Sys2Proof.Machine

/-- A station record without what orders move: its outstanding order, last closing and order counters. -/
def StationRec.heard (r : StationRec) : StationRec :=
  { r with outstanding := none, lastClosing := none, forwarded := 0, refused := 0 }

/-- A held entry without the reason a scan brings up to date. -/
def Held.key (h : Held) : Held := { h with reason := .awaitingAck }

namespace State
variable {s t u : State} {i j : Nat}

/-! ### Records after an update -/

/-- What an update of one station's record keeps, every record keeps. -/
theorem station_modStation_field {α : Type} (π : StationRec → α) {f : StationRec → StationRec} (hf : ∀ r, π (f r) = π r)
    (s : State) (i j : Nat) : π ((s.modStation i f).station j) = π (s.station j) := by
  by_cases h : j = i
  · subst h
    by_cases hj : j < 64
    · rw [station_modStation s j f hj, hf]
    · rw [modStation, State.station, upd_out_of_range _ _ _ hj]
      rfl
  · rw [station_modStation_other s i j f h]

theorem heldOf_none_iff : s.heldOf i = none ↔ ∀ h ∈ s.screen.held, h.station ≠ i := by
  simp [heldOf, List.find?_eq_none]

/-! ### One order's work on its station -/

/-- An order of station `i` works on that station's orders, takes or frees the slot and shortens or keeps the list;
`stop` says whether it may close an outstanding order. -/
structure orderActs (i : Nat) (stop : Prop) (s t : State) : Prop where
  heard : ∀ j, (t.station j).heard = (s.station j).heard
  others : ∀ j, j ≠ i → t.station j = s.station j ∧ (s.holdsSlot j = false → t.holdsSlot j = false)
  held : (t.screen.held.map Held.key).Sublist (s.screen.held.map Held.key)
  dry : t.screen.dryAt = s.screen.dryAt ∧ t.screen.tripped = s.screen.tripped
  closing : ¬stop → ∀ j, (t.station j).lastClosing = (s.station j).lastClosing
  failed : ∀ j, j ≠ i → t.faults.active .pumpStartFailed j = s.faults.active .pumpStartFailed j

  entries : ∀ k x e, k ≠ FaultKind.pumpStartFailed → s.faults.entry k x = some e → t.faults.entry k x = some e

/-- A clearing leaves the other faults of its kind. -/
theorem active_clearFault_other (s : State) (k : FaultKind) {x y : Nat} (h : y ≠ x) :
    (s.clearFault k x).faults.active k y = s.faults.active k y := by
  unfold clearFault
  split
  · rfl
  next f n hf =>
    rw [active_withFaults, Faults.active_of_clear hf]
    simp [h]

/-- A clearing leaves the entries of other faults. -/
theorem entry_clearFault {k j : FaultKind} {x y : Nat} {e : FaultEntry} (h : ¬(j = k ∧ y = x))
    (he : s.faults.entry j y = some e) : (s.clearFault k x).faults.entry j y = some e := by
  unfold clearFault
  split
  · exact he
  next f n hf =>
    rw [entry_withFaults]
    unfold Faults.clear at hf
    dsimp only at hf
    split at hf
    · split at hf
      · cases hf
        rw [Faults.entry_mapEntry (g := fun e => { e with state := .clearedUnack }) (fun _ => rfl) (fun _ => rfl), if_neg h]
        exact he
      · cases hf
        have hkept : ((s.faults.removeMark k x).removeEntry k x).entry j y = some e := by
          rw [Faults.entry_removeEntry, if_neg h]
          exact he
        obtain hsame | ⟨hnone, _⟩ := ((s.faults.removeMark k x).removeEntry k x).entry_fillPlace j y
        · exact hsame.trans hkept
        · cases hkept.symm.trans hnone
      · cases hf
    · split at hf
      · cases hf
        exact he
      · cases hf

namespace orderActs
variable {stop : Prop}

theorem refl (s : State) : s.orderActs i stop s := ⟨fun _ => rfl, fun _ _ => ⟨rfl, id⟩, .refl _, ⟨rfl, rfl⟩,
  fun _ _ => rfl, fun _ _ => rfl, fun _ _ _ _ => id⟩

theorem trans (h : s.orderActs i stop t) (k : t.orderActs i stop u) : s.orderActs i stop u :=
  ⟨fun j => (k.heard j).trans (h.heard j),
    fun j hj => ⟨(k.others j hj).1.trans (h.others j hj).1, fun hs => (k.others j hj).2 ((h.others j hj).2 hs)⟩,
    k.held.trans h.held, ⟨k.dry.1.trans h.dry.1, k.dry.2.trans h.dry.2⟩,
    fun hn j => (k.closing hn j).trans (h.closing hn j), fun j hj => (k.failed j hj).trans (h.failed j hj),
    fun c x e hc he => k.entries c x e hc (h.entries c x e hc he)⟩

/-- What leaves stations, screen and faults alone. -/
theorem of_only {l : List Block} (h : s.onlyChanges l t) (hl : Block.stations ∉ l ∧ Block.screen ∉ l ∧ Block.faults ∉ l) :
    s.orderActs i stop t := by
  have hst := h.station hl.1
  have hsc := h.screen hl.2.1
  have hf := h.faults hl.2.2
  refine ⟨fun j => by rw [hst], fun j _ => ⟨hst j, fun hs => ?_⟩, by rw [hsc], by rw [hsc]; exact ⟨rfl, rfl⟩,
    fun _ j => by rw [hst], fun j _ => by rw [hf], fun c x e _ he => by rwa [hf]⟩
  unfold holdsSlot at *
  rwa [hsc]

/-- An update of the station's record that keeps what it heard. -/
theorem modStation {f : StationRec → StationRec} (hheard : ∀ r, (f r).heard = r.heard)
    (hclosing : ¬stop → ∀ r, (f r).lastClosing = r.lastClosing) : s.orderActs i stop (s.modStation i f) :=
  ⟨fun j => station_modStation_field StationRec.heard hheard s i j,
    fun j hj => ⟨station_modStation_other s i j f hj, id⟩, .refl _, ⟨rfl, rfl⟩,
    fun hn j => station_modStation_field StationRec.lastClosing (hclosing hn) s i j, fun _ _ => rfl,
    fun _ _ _ _ => id⟩

theorem dropHeld : s.orderActs i stop (s.dropHeld i) :=
  ⟨fun _ => rfl, fun _ _ => ⟨rfl, id⟩, List.Sublist.map _ List.filter_sublist, ⟨rfl, rfl⟩, fun _ _ => rfl,
    fun _ _ => rfl, fun _ _ _ _ => id⟩

theorem updateHeld (r : HoldReason) : s.orderActs i stop (s.updateHeld i r) := by
  refine ⟨fun _ => rfl, fun _ _ => ⟨rfl, id⟩, ?_, ⟨rfl, rfl⟩, fun _ _ => rfl, fun _ _ => rfl, fun _ _ _ _ => id⟩
  have h : (s.updateHeld i r).screen.held.map Held.key = s.screen.held.map Held.key := by
    unfold State.updateHeld
    rw [List.map_map]
    refine List.map_congr_left fun h _ => ?_
    dsimp only [Function.comp_apply]
    split <;> rfl
  rw [h]

theorem freeSlotOf : s.orderActs i stop (s.freeSlotOf i) := by
  unfold State.freeSlotOf
  split
  · exact ⟨fun _ => rfl, fun _ _ => ⟨rfl, fun _ => rfl⟩, .refl _, ⟨rfl, rfl⟩, fun _ _ => rfl, fun _ _ => rfl,
      fun _ _ _ _ => id⟩
  · exact refl s

theorem takeSlot (m : PumpMode) : s.orderActs i stop (s.takeSlot i m) := by
  unfold State.takeSlot
  extract_lets c
  have hc := clearFault_only ({ s with screen := { s.screen with slot := some c } } : State) .pumpStartFailed i
  have hst := hc.station (by decide)
  have hsc := hc.screen (by decide)
  refine ⟨fun j => by rw [hst]; rfl, fun j hj => ⟨hst j, fun _ => ?_⟩, by rw [hsc], by rw [hsc]; exact ⟨rfl, rfl⟩,
    fun _ j => by rw [hst]; rfl, fun j hj => active_clearFault_other _ .pumpStartFailed hj,
    fun c x e hk he => entry_clearFault (fun h => hk h.1) he⟩
  unfold holdsSlot
  rw [hsc]
  simpa [c] using Ne.symm hj

theorem openOutstanding (q : Byte) (ty : OrderType) (m v : Byte) (c : Option Byte) :
    s.orderActs i stop (s.openOutstanding i q ty m v c) := modStation (fun _ => rfl) fun _ _ => rfl

theorem closeOutstanding (hs : stop) (o : Outstanding) (c : Closing) : s.orderActs i stop (s.closeOutstanding i o c) := by
  have hmod : s.orderActs i stop (s.modStation i fun r => { r with outstanding := none, lastClosing := some c }) :=
    modStation (fun _ => rfl) fun hn => absurd hs hn
  unfold State.closeOutstanding
  dsimp only
  split
  · exact hmod.trans freeSlotOf
  · exact hmod

theorem supersedeOutstanding (hs : stop) : s.orderActs i stop (s.supersedeOutstanding i) := by
  unfold State.supersedeOutstanding
  split
  · exact (closeOutstanding hs _ _).trans (of_only (answerOutstanding_only _ _ _ _) (by decide))
  · exact refl s

theorem orderOffered (o : Order) (c : Option Byte) (hs : o.type = .pumpStop → stop) :
    s.orderActs i stop (s.orderOffered i o c) := by
  unfold State.orderOffered
  extract_lets a b
  have ha : s.orderActs i stop a := by
    dsimp only [a]
    split
    next h => exact (supersedeOutstanding (hs h)).trans freeSlotOf
    · exact refl s
  have hb : s.orderActs i stop b := ha.trans (openOutstanding _ _ _ _ _)
  split
  · exact hb.trans (takeSlot _)
  · exact hb

theorem forwardOrder (o : Order) (hs : o.type = .pumpStop → stop) : s.orderActs i stop (s.forwardOrder i o) := by
  have hsend := of_only (i := i) (stop := stop) (send_only s .field (s.orderTelegram i o.console o)) (by decide)
  unfold State.forwardOrder
  dsimp only
  split
  · exact hsend.trans (orderOffered o _ hs)
  · exact hsend.trans (of_only (syntheticAck_only _ _ _ _ _ _) (by decide))

theorem refuseOrder (o : Order) (c : Nat) : s.orderActs i stop (s.refuseOrder i o c) :=
  (modStation (f := fun r => { r with refused := satSucc r.refused }) (fun _ => rfl) fun _ _ => rfl).trans
    (of_only (syntheticAck_only _ _ _ _ _ _) (by decide))

theorem clamped_type (s : State) (o : Order) : (s.clamped o).type = o.type := by
  unfold clamped
  split <;> rfl

theorem scanEntry (s : State) (h : Held) : s.orderActs h.station (h.order.type = .pumpStop) (s.scanEntry h).1 := by
  unfold State.scanEntry
  split
  · exact dropHeld.trans (refuseOrder _ _)
  · exact updateHeld _
  · exact ((of_only (adviseClamp_only s _ _) (by decide)).trans dropHeld).trans
      (forwardOrder _ fun hs => by rwa [clamped_type] at hs)

end orderActs

/-! ### The re-examination (R145) -/

/-- A re-examination works on the orders of the stations that held an entry. -/
structure rescreened (s t : State) : Prop where
  heard : ∀ j, (t.station j).heard = (s.station j).heard
  unheld : ∀ j, s.heldOf j = none → t.station j = s.station j ∧ (s.holdsSlot j = false → t.holdsSlot j = false)
  held : (t.screen.held.map Held.key).Sublist (s.screen.held.map Held.key)
  dry : t.screen.dryAt = s.screen.dryAt ∧ t.screen.tripped = s.screen.tripped
  closing : (∀ h ∈ s.screen.held, h.order.type ≠ .pumpStop) → ∀ j, (t.station j).lastClosing = (s.station j).lastClosing
  failed : ∀ j, s.heldOf j = none → t.faults.active .pumpStartFailed j = s.faults.active .pumpStartFailed j
  entries : ∀ k x e, k ≠ FaultKind.pumpStartFailed → s.faults.entry k x = some e → t.faults.entry k x = some e

namespace rescreened

theorem refl (s : State) : s.rescreened s := ⟨fun _ => rfl, fun _ _ => ⟨rfl, id⟩, .refl _, ⟨rfl, rfl⟩,
  fun _ _ => rfl, fun _ _ => rfl, fun _ _ _ _ => id⟩

/-- Every entry of the list afterwards is, but for its reason, one of the list before. -/
theorem mem (h : s.rescreened t) {x : Held} (hx : x ∈ t.screen.held) : ∃ y ∈ s.screen.held, y.key = x.key := by
  have := h.held.subset (List.mem_map_of_mem hx)
  exact List.mem_map.1 this

theorem heldOf_none (h : s.rescreened t) (hj : s.heldOf j = none) : t.heldOf j = none := by
  refine heldOf_none_iff.2 fun x hx hst => ?_
  obtain ⟨y, hy, hk⟩ := h.mem hx
  exact heldOf_none_iff.1 hj y hy ((congrArg Held.station hk).trans hst)

theorem length_le (h : s.rescreened t) : t.screen.held.length ≤ s.screen.held.length := by
  simpa using h.held.length_le

theorem trans (h : s.rescreened t) (k : t.rescreened u) : s.rescreened u := by
  refine ⟨fun j => (k.heard j).trans (h.heard j), fun j hj => ?_, k.held.trans h.held,
    ⟨k.dry.1.trans h.dry.1, k.dry.2.trans h.dry.2⟩, fun hn j => (k.closing (fun x hx => ?_) j).trans (h.closing hn j),
    fun j hj => (k.failed j (h.heldOf_none hj)).trans (h.failed j hj),
    fun c x e hc he => k.entries c x e hc (h.entries c x e hc he)⟩
  · have hk := k.unheld j (h.heldOf_none hj)
    exact ⟨hk.1.trans (h.unheld j hj).1, fun hs => hk.2 ((h.unheld j hj).2 hs)⟩
  · obtain ⟨y, hy, hkey⟩ := h.mem hx
    have : y.key.order = x.key.order := congrArg Held.order hkey
    exact fun hstop => hn y hy ((congrArg Order.type this).trans hstop)

/-- One more order's work on a station that held an entry. -/
theorem andActs (h : s.rescreened t) {x : Held} (hx : x ∈ s.screen.held)
    (k : t.orderActs x.station (x.order.type = .pumpStop) u) : s.rescreened u := by
  refine ⟨fun j => (k.heard j).trans (h.heard j), fun j hj => ?_, k.held.trans h.held,
    ⟨k.dry.1.trans h.dry.1, k.dry.2.trans h.dry.2⟩, fun hn j => (k.closing (hn x hx) j).trans (h.closing hn j),
    fun j hj => (k.failed j (Ne.symm (heldOf_none_iff.1 hj x hx))).trans (h.failed j hj),
    fun c x e hc he => k.entries c x e hc (h.entries c x e hc he)⟩
  have hk := k.others j (Ne.symm (heldOf_none_iff.1 hj x hx))
  exact ⟨hk.1.trans (h.unheld j hj).1, fun hs => hk.2 ((h.unheld j hj).2 hs)⟩

theorem scan (s : State) : s.rescreened s.scan.1 := by
  have key : ∀ (hs : List Held), (∀ h ∈ hs, h ∈ s.screen.held) → ∀ a : State × Bool, s.rescreened a.1 →
      s.rescreened (hs.foldl (fun a h => let r := a.1.scanEntry h; (r.1, a.2 || r.2)) a).1 := by
    intro hs
    induction hs with
    | nil => exact fun _ _ ha => ha
    | cons h hs ih =>
      intro hmem a ha
      obtain ⟨hh, hmem⟩ := List.forall_mem_cons.1 hmem
      exact ih hmem _ (ha.andActs hh (orderActs.scanEntry a.1 h))
  exact key s.screen.held (fun _ => id) (s, false) (refl s)

theorem reexamineFrom (n : Nat) (s : State) : s.rescreened (reexamineFrom n s) := by
  induction n generalizing s with
  | zero => exact refl s
  | succ n ih =>
    unfold State.reexamineFrom
    split
    · exact (scan s).trans (ih _)
    · exact scan s

end rescreened

theorem rescreened_reexamine (s : State) : s.rescreened s.reexamine := rescreened.reexamineFrom _ s

/-! ### What follows a station's change: the dry runs are judged and the list re-examined -/

theorem judgeDry_screen (s : State) (l : Nat) :
    (s.judgeDry l).screen.held = s.screen.held ∧ (s.judgeDry l).screen.slot = s.screen.slot := by
  unfold judgeDry
  split
  · split <;> exact ⟨rfl, rfl⟩
  · exact ⟨rfl, rfl⟩

theorem judgeDryRuns_screen (s : State) :
    s.judgeDryRuns.screen.held = s.screen.held ∧ s.judgeDryRuns.screen.slot = s.screen.slot := by
  unfold judgeDryRuns
  exact forEach_keeps (f := fun l s => s.judgeDry l) (I := fun u => u.screen.held = s.screen.held ∧ u.screen.slot = s.screen.slot)
    (fun l u hu => ⟨(judgeDry_screen u l).1.trans hu.1, (judgeDry_screen u l).2.trans hu.2⟩) ⟨rfl, rfl⟩

theorem holdsSlot_of_slot (h : t.screen.slot = s.screen.slot) (i : Nat) : t.holdsSlot i = s.holdsSlot i := by
  unfold holdsSlot
  rw [h]

theorem heldOf_of_held (h : t.screen.held = s.screen.held) (i : Nat) : t.heldOf i = s.heldOf i := by
  unfold heldOf
  rw [h]

/-- What the judging of the dry runs and the re-examination keep. -/
structure settled (s t : State) : Prop where
  heard : ∀ j, (t.station j).heard = (s.station j).heard
  unheld : ∀ j, s.heldOf j = none → t.station j = s.station j ∧ t.heldOf j = none
      ∧ (s.holdsSlot j = false → t.holdsSlot j = false)
  closing : (∀ h ∈ s.screen.held, h.order.type ≠ .pumpStop) → ∀ j, (t.station j).lastClosing = (s.station j).lastClosing
  shrinks : t.screen.held.length ≤ s.screen.held.length

theorem rescreened.settled (h : s.rescreened t) : s.settled t :=
  ⟨h.heard, fun j hj => ⟨(h.unheld j hj).1, h.heldOf_none hj, (h.unheld j hj).2⟩, h.closing, h.length_le⟩

theorem settled_reexamine (s : State) : s.settled s.reexamine := (rescreened_reexamine s).settled

theorem settled_judged (s : State) : s.settled s.judgeDryRuns.reexamine := by
  have h := settled_reexamine s.judgeDryRuns
  have hst := (judgeDryRuns_only s).station (by decide)
  obtain ⟨hheld, hslot⟩ := judgeDryRuns_screen s
  refine ⟨fun j => by rw [h.heard, hst], fun j hj => ?_, fun hn j => ?_, by rw [← hheld]; exact h.shrinks⟩
  · have hu := h.unheld j ((heldOf_of_held hheld j).trans hj)
    exact ⟨hu.1.trans (hst j), hu.2.1, fun hs => hu.2.2 ((holdsSlot_of_slot hslot j).trans hs)⟩
  · rw [h.closing (by rwa [hheld]), hst]

theorem settled.presence (h : s.settled t) (j : Nat) : (t.station j).presence = (s.station j).presence :=
  show (t.station j).heard.presence = (s.station j).heard.presence by rw [h.heard]

theorem settled.presenceAt (h : s.settled t) (j : Nat) : (t.station j).presenceAt = (s.station j).presenceAt :=
  show (t.station j).heard.presenceAt = (s.station j).heard.presenceAt by rw [h.heard]

theorem settled.last (h : s.settled t) (j : Nat) : (t.station j).last = (s.station j).last :=
  show (t.station j).heard.last = (s.station j).heard.last by rw [h.heard]

theorem settled.lastTime (h : s.settled t) (j : Nat) : (t.station j).lastTime = (s.station j).lastTime :=
  show (t.station j).heard.lastTime = (s.station j).heard.lastTime by rw [h.heard]

theorem settled.recorded (h : s.settled t) (j : Nat) : (t.station j).recorded = (s.station j).recorded :=
  show (t.station j).heard.recorded = (s.station j).heard.recorded by rw [h.heard]

/-- A fault other than PUMP_START_FAILED is active as before. -/
theorem active_judged (s : State) {k : FaultKind} (hk : k ≠ .pumpStartFailed) (x : Nat) :
    s.judgeDryRuns.reexamine.faults.active k x = s.faults.active k x :=
  (reexamine_marks _ k x (by simpa using hk)).trans (((judgeDryRuns_only s).marksOnly []) k x (by simp))

theorem active_reexamine (s : State) {k : FaultKind} (hk : k ≠ .pumpStartFailed) (x : Nat) :
    s.reexamine.faults.active k x = s.faults.active k x := reexamine_marks s k x (by simpa using hk)

/-! ### Stations in and out of service (R129, Table 7-2) -/

/-- A station record out of service, its timer stopped. -/
def retired (s : State) (i : Nat) : State := s.modStation i fun r => { r with presence := .outOfService, presenceAt := none }

theorem serviceOut_again (h : (s.station i).presence = .outOfService) : s.serviceOut i = s := by
  unfold serviceOut
  rw [h]

theorem serviceOut_silent (h : (s.station i).presence = .silent) :
    s.serviceOut i = ((s.retired i).clearFault .stationSilent i).judgeDryRuns.reexamine := by
  unfold serviceOut
  rw [h]
  rfl

theorem serviceOut_heard (h : (s.station i).presence ≠ .outOfService) (hs : (s.station i).presence ≠ .silent) :
    s.serviceOut i = (s.retired i).judgeDryRuns.reexamine := by
  unfold serviceOut
  cases hp : (s.station i).presence
  case outOfService => exact absurd hp h
  case silent => exact absurd hp hs
  all_goals rfl

end State

end Sys2Proof.Machine
end
section
/-! PROOFS. The station table's requests, telegrams and timers (R119 to R129) and the order screen's deadlines (R147,
R149). -/

namespace Sys2Proof.Machine

namespace State
variable {s t u : State} {i j : Nat}

theorem lt_of_stationBound (h : s.stationBound i = true) : i < 64 := of_decide_eq_true (Bool.and_eq_true_iff.1 h).1

/-! ### SET_STATION_SERVICE (R129) -/

theorem presence_retired (hi : i < 64) : ((s.retired i).station i).presence = .outOfService
    ∧ ((s.retired i).station i).presenceAt = none := by
  rw [retired, station_modStation s i _ hi]
  exact ⟨rfl, rfl⟩

theorem presence_retired_other (h : j ≠ i) : (s.retired i).station j = s.station j := station_modStation_other s i j _ h

/-- OUT: the station is out of service, its timer stopped, its STATION_SILENT cleared, every other left alone. -/
theorem serviceOut_retires (hi : i < 64) :
    ((s.serviceOut i).station i).presence = .outOfService
      ∧ ((s.station i).presence ≠ .outOfService → ((s.serviceOut i).station i).presenceAt = none)
      ∧ (s.faults.sound → (s.station i).presence = .silent → (s.serviceOut i).faults.active .stationSilent i = false)
      ∧ ∀ j, j ≠ i → ((s.serviceOut i).station j).presence = (s.station j).presence := by
  by_cases hout : (s.station i).presence = .outOfService
  · rw [serviceOut_again hout]
    exact ⟨hout, fun h => absurd hout h, fun _ h => (by rw [hout] at h; cases h), fun _ _ => rfl⟩
  · obtain ⟨hp, hat⟩ := presence_retired (s := s) hi
    by_cases hsil : (s.station i).presence = .silent
    · have hc := clearFault_only (s.retired i) .stationSilent i
      have h := settled_judged ((s.retired i).clearFault .stationSilent i)
      have hst := hc.station (by decide)
      rw [serviceOut_silent hsil]
      refine ⟨by rw [h.presence, hst, hp], fun _ => by rw [h.presenceAt, hst, hat], fun hs _ => ?_,
        fun j hj => by rw [h.presence, hst, presence_retired_other hj]⟩
      rw [active_judged _ (by decide)]
      exact active_clearFault (s := s.retired i) hs .stationSilent i
    · have h := settled_judged (s.retired i)
      rw [serviceOut_heard hout hsil]
      exact ⟨by rw [h.presence, hp], fun _ => by rw [h.presenceAt, hat], fun _ h => absurd h hsil,
        fun j hj => by rw [h.presence, presence_retired_other hj]⟩

theorem serviceIn_other (h : (s.station i).presence ≠ .outOfService) : s.serviceIn i = s := if_neg h

/-- IN of a station out of service: UNKNOWN with its timer started, every other left alone. -/
theorem serviceIn_returns (hi : i < 64) (h : (s.station i).presence = .outOfService) :
    ((s.serviceIn i).station i).presence = .unknown
      ∧ ((s.serviceIn i).station i).presenceAt = some (s.now + s.bank.presenceTimeout)
      ∧ ∀ j, j ≠ i → ((s.serviceIn i).station j).presence = (s.station j).presence := by
  have heq : s.serviceIn i = (s.modStation i fun r => { r with presence := .unknown, presenceAt := some s.presenceDeadline }
      ).judgeDryRuns.reexamine := if_pos h
  have hi' := station_modStation s i (fun r => { r with presence := .unknown, presenceAt := some s.presenceDeadline }) hi
  have hj' := fun j => station_modStation_other s i j
    fun r => { r with presence := .unknown, presenceAt := some s.presenceDeadline }
  rw [heq]
  generalize s.modStation i (fun r => { r with presence := .unknown, presenceAt := some s.presenceDeadline }) = u at *
  have hs := settled_judged u
  exact ⟨by rw [hs.presence, hi'], by rw [hs.presenceAt, hi']; rfl, fun j hj => by rw [hs.presence, hj' j hj]⟩

theorem doSetStationService_out (hw : s.working = true) {i : Byte} (hb : s.stationBound i.toNat = true) :
    s.doSetStationService [i, 1] = (s.serviceOut i.toNat, .accepted
      (enc1 (s.station i.toNat).presence.code ++ enc1 ((s.serviceOut i.toNat).station i.toNat).presence.code)) := by
  unfold doSetStationService
  dsimp only
  rw [if_neg (by decide), if_neg (by simp [not_unconfigured_of_working hw]), if_pos hb, if_pos rfl]

theorem doSetStationService_in (hw : s.working = true) {i : Byte} (hb : s.stationBound i.toNat = true) :
    s.doSetStationService [i, 0] = (s.serviceIn i.toNat, .accepted
      (enc1 (s.station i.toNat).presence.code ++ enc1 ((s.serviceIn i.toNat).station i.toNat).presence.code)) := by
  unfold doSetStationService
  dsimp only
  rw [if_neg (by decide), if_neg (by simp [not_unconfigured_of_working hw]), if_pos hb, if_neg (by decide)]

/-! ### STATE telegrams (R119 to R123) -/

theorem lt_of_stationOf {b : ShipBank} {a : Byte} (h : b.stationOf a = some i) : i < 64 := by
  unfold ShipBank.stationOf at h
  split at h
  · split at h
    · cases h; omega
    · cases h
  · split at h
    · cases h; omega
    · cases h
  · cases h

/-- A telegram of an inspected kind on the field port: its inspection, and a telegram at most that goes on. -/
theorem exec_inspected {c : Instr} {x : Telegram} (h : s.inService) (hsrc : s.otherNode x.src) (hd : x.dst ≠ 0)
    (hl : x.payload.length ≤ 56) (hk : kindLengthOk x.kind x.payload = true) (ho : x.kind ≠ kindOrder)
    (hm : x.kind ≠ kindMgmt) (hc : exec c s = .next (act (State.receive · .field x) s)) :
    ∃ t, exec c s = .next t ∧ ((s.countAccepted .field).inspect x).1.onlyChanges [.out] t
      ∧ ∀ k, k ≠ .queueDrop → t.out.advised k = ((s.countAccepted .field).inspect x).1.out.advised k := by
  have hexec := exec_ready (f := (State.receive · .field x)) h.ready hc
  rw [receive_inspected h hsrc hd hl hk ho hm] at hexec
  exact ⟨_, hexec, onwardField_only _ x _, fun k hk => advised_onwardField _ x _ hk⟩

theorem statePayload_length (r : StateReport) : (statePayload r).length ≤ 56 := by
  cases r with
  | pump => exact (show 7 ≤ 56 by decide)
  | valve => exact (show 4 ≤ 56 by decide)

/-- The station's record once its STATE is recorded with its presence. -/
def heardFrom (s : State) (i : Nat) (x : LastState) : State := (((s.recordState i x).statePresence i).judgeTripped i).judgeSlot i

theorem takeState_recorded {p : List Byte} {x : LastState} (h : readState (decide (i < 8)) p = some x) :
    s.takeState i p = (s.heardFrom i x).judgeDryRuns.reexamine := by
  unfold takeState heardFrom
  rw [h]

theorem takeState_rejected {p : List Byte} (h : readState (decide (i < 8)) p = none) :
    s.takeState i p = (s.modStation i fun r => { r with rejected := satSucc r.rejected }).advise .badState i := by
  unfold takeState
  rw [h]

/-- A recorded STATE makes a station in service PRESENT and clears its STATION_SILENT. -/
theorem statePresence_present (hi : i < 64) (h : (s.station i).presence ≠ .outOfService) :
    (s.statePresence i).station i = { s.station i with presence := .present, presenceAt := some s.presenceDeadline }
      ∧ (s.faults.sound → (s.station i).presence = .silent →
          (s.statePresence i).faults.active .stationSilent i = false) := by
  have hp := station_modStation s i (fun r => { r with presence := .present, presenceAt := some s.presenceDeadline }) hi
  unfold statePresence
  dsimp only
  cases hpres : (s.station i).presence
  case outOfService => exact absurd hpres h
  case silent =>
    refine ⟨((clearFault_only _ .stationSilent i).station (by decide) i).trans hp, fun hs _ => ?_⟩
    exact active_clearFault (s := s.modStation i fun r => { r with presence := .present, presenceAt := some s.presenceDeadline })
      hs .stationSilent i
  all_goals exact ⟨hp, fun _ => nofun⟩

theorem statePresence_out (h : (s.station i).presence = .outOfService) : s.statePresence i = s := by
  unfold statePresence
  dsimp only
  rw [h]

theorem statePresence_other (h : j ≠ i) : (s.statePresence i).station j = s.station j := by
  have hp := station_modStation_other s i j (fun r => { r with presence := .present, presenceAt := some s.presenceDeadline }) h
  unfold statePresence
  dsimp only
  split
  · rfl
  · exact ((clearFault_only _ .stationSilent i).station (by decide) j).trans hp
  · exact hp
  · exact hp

theorem heardFrom_only_record (s : State) (i : Nat) (x : LastState) :
    ((s.recordState i x).statePresence i).onlyChanges [.screen, .faults, .out] (s.heardFrom i x) :=
  ((judgeTripped_only _ i).andThen (judgeSlot_only _ i)).mono (by decide)

/-- PUMP_TRIPPED and the start slot leave STATION_SILENT. -/
theorem heardFrom_marks (s : State) (i : Nat) (x : LastState) :
    (s.heardFrom i x).faults.active .stationSilent i = ((s.recordState i x).statePresence i).faults.active .stationSilent i := by
  have htripped : ∀ u : State, u.marksOnly [.pumpTripped] (u.judgeTripped i) := fun u => by
    unfold judgeTripped
    split
    · exact raiseFault_marks u _ i
    · exact clearFault_marks u _ i
    · exact clearFault_marks u _ i
    · exact marksOnly_refl _ u
  have hslot : ∀ u : State, u.marksOnly [.pumpStartFailed] (u.judgeSlot i) := fun u => by
    unfold judgeSlot
    split
    · exact ((freeSlotOf_only u i).marksOnly _).trans (clearFault_marks _ _ i)
    · exact (freeSlotOf_only u i).marksOnly _
    · exact marksOnly_refl _ u
  exact ((htripped _).andThen (hslot _)) .stationSilent i (by decide)

/-- A recorded STATE: the station's last STATE, its time, its counter and its presence; every other station's are kept. -/
theorem takeState_records {p : List Byte} {x : LastState} (hi : i < 64) (h : readState (decide (i < 8)) p = some x) :
    ((s.takeState i p).station i).last = some x ∧ ((s.takeState i p).station i).lastTime = some s.now
      ∧ ((s.takeState i p).station i).recorded = satSucc (s.station i).recorded
      ∧ ((s.station i).presence = .outOfService → ((s.takeState i p).station i).presence = .outOfService
          ∧ ((s.takeState i p).station i).presenceAt = (s.station i).presenceAt)
      ∧ ((s.station i).presence ≠ .outOfService → ((s.takeState i p).station i).presence = .present
          ∧ ((s.takeState i p).station i).presenceAt = some (s.now + s.bank.presenceTimeout))
      ∧ (s.faults.sound → (s.station i).presence = .silent → (s.takeState i p).faults.active .stationSilent i = false)
      ∧ ∀ j, j ≠ i → ((s.takeState i p).station j).last = (s.station j).last
          ∧ ((s.takeState i p).station j).presence = (s.station j).presence
          ∧ ((s.takeState i p).station j).presenceAt = (s.station j).presenceAt := by
  have hrec := station_modStation s i
    (fun r => { r with last := some x, lastTime := some s.now, recorded := satSucc r.recorded }) hi
  have hrecj := fun j (hj : j ≠ i) => station_modStation_other s i j
    (fun r => { r with last := some x, lastTime := some s.now, recorded := satSucc r.recorded }) hj
  change (s.recordState i x).station i = _ at hrec
  have hpres : ((s.recordState i x).station i).presence = (s.station i).presence := by rw [hrec]
  have hset := settled_judged (s.heardFrom i x)
  have hkeep := (heardFrom_only_record s i x).station (by decide)
  have hmarks := heardFrom_marks s i x
  have hactive := active_judged (s.heardFrom i x) (k := .stationSilent) (by decide) i
  have hfaults : (s.recordState i x).faults = s.faults := rfl
  have hdeadline : (s.recordState i x).presenceDeadline = s.now + s.bank.presenceTimeout := rfl
  rw [takeState_recorded h]
  generalize (s.heardFrom i x).judgeDryRuns.reexamine = t at *
  generalize s.heardFrom i x = v at *
  have hothers : ∀ j, j ≠ i → (t.station j).last = (s.station j).last ∧ (t.station j).presence = (s.station j).presence
      ∧ (t.station j).presenceAt = (s.station j).presenceAt := fun j hj => by
    have hj' : v.station j = s.station j := (hkeep j).trans ((statePresence_other hj).trans (hrecj j hj))
    exact ⟨by rw [hset.last, hj'], by rw [hset.presence, hj'], by rw [hset.presenceAt, hj']⟩
  by_cases hout : (s.station i).presence = .outOfService
  · have hv : v.station i = _ := (hkeep i).trans (by rw [statePresence_out (hpres.trans hout), hrec])
    exact ⟨by rw [hset.last, hv], by rw [hset.lastTime, hv], by rw [hset.recorded, hv],
      fun _ => ⟨by rw [hset.presence, hv]; exact hout, by rw [hset.presenceAt, hv]⟩, fun hne => absurd hout hne,
      fun _ hsil => (by rw [hout] at hsil; cases hsil), hothers⟩
  · obtain ⟨hrecord, hclear⟩ := statePresence_present (s := s.recordState i x) hi (by rw [hpres]; exact hout)
    have hv := (hkeep i).trans hrecord
    rw [hrec, hdeadline] at hv
    exact ⟨by rw [hset.last, hv], by rw [hset.lastTime, hv], by rw [hset.recorded, hv], fun he => absurd he hout,
      fun _ => ⟨by rw [hset.presence, hv], by rw [hset.presenceAt, hv]⟩,
      fun hs hsil => by rw [hactive, hmarks, hclear hs (hpres.trans hsil)], hothers⟩

theorem takeState_rejects {p : List Byte} (hi : i < 64) (h : readState (decide (i < 8)) p = none) :
    (s.takeState i p).station i = { s.station i with rejected := satSucc (s.station i).rejected }
      ∧ (∀ j, j ≠ i → (s.takeState i p).station j = s.station j)
      ∧ (s.takeState i p).out.advised .badState = satSucc (s.out.advised .badState)
      ∧ s.onlyChanges [.stations, .out] (s.takeState i p) := by
  have hadv := advise_only (s.modStation i fun r => { r with rejected := satSucc r.rejected }) .badState i
  rw [takeState_rejected h]
  exact ⟨(hadv.station (by decide) i).trans (station_modStation s i _ hi),
    fun j hj => (hadv.station (by decide) j).trans (station_modStation_other s i j _ hj),
    advised_advise (s.modStation i fun r => { r with rejected := satSucc r.rejected }) i (by decide),
    (modStation_only s i _).andThen hadv⟩

theorem inspect_state {a : State} {x : Telegram} (hk : x.kind = kindState) (hst : a.bank.stationOf x.src = some i) :
    a.inspect x = (a.takeState i x.payload, .taken) := by
  unfold inspect
  rw [hk, if_neg (by decide), if_neg (by decide), if_pos rfl, hst]

end State

/-- Settles O47: the presence record of the one station, and the loop over stations for the others. -/
theorem serviceRequestSetsThePresence : Obligations.ServiceRequestSetsThePresence := by
  intro s src seq i h hm hb
  have hi := State.lt_of_stationBound hb
  refine ⟨?_, ?_⟩
  · have hexec := State.exec_accepted (c := .setStationService src seq [i, 1]) (args := [i, 1]) h.inCircuit hm
      (show 2 ≤ 55 by decide) (State.serve_setStationService.trans
        (State.doSetStationService_out (s := s.countAccepted .console) h.working hb)) (by rfl)
    obtain ⟨hout, hat, hclear, hothers⟩ := State.serviceOut_retires (s := s.countAccepted .console) hi
    have honly := (State.countAccepted_only s .console).andThen (State.serviceOut_only _ i.toNat)
    generalize (s.countAccepted .console).serviceOut i.toNat = u at *
    generalize enc1 _ ++ enc1 _ = results at hexec
    have hsent := State.sendReply_only u src seq 18 0 0 results
    generalize u.sendReply src seq 18 0 0 results = t at *
    have hst := hsent.station (by decide)
    refine ⟨t, hexec, by rw [hst, hout], fun hp => by rw [hst, hat hp], fun hs hp => ?_,
      fun j hj => by rw [hst]; exact hothers j hj, (honly.andThen hsent).mono (by decide)⟩
    rw [hsent.faults (by decide)]
    exact hclear hs hp
  · have hexec := State.exec_accepted (c := .setStationService src seq [i, 0]) (args := [i, 0]) h.inCircuit hm
      (show 2 ≤ 55 by decide) (State.serve_setStationService.trans
        (State.doSetStationService_in (s := s.countAccepted .console) h.working hb)) (by rfl)
    have hreturns := State.serviceIn_returns (s := s.countAccepted .console) hi
    have hother := State.serviceIn_other (s := s.countAccepted .console) (i := i.toNat)
    have hcount := State.countAccepted_only s .console
    have honly := hcount.andThen (State.serviceIn_only _ i.toNat)
    generalize (s.countAccepted .console).serviceIn i.toNat = u at *
    generalize enc1 _ ++ enc1 _ = results at hexec
    have hsent := State.sendReply_only u src seq 18 0 0 results
    generalize u.sendReply src seq 18 0 0 results = t at *
    have hst := hsent.station (by decide)
    refine ⟨t, hexec, fun hp => ?_, fun hp => ?_, fun j hj => ?_, (honly.andThen hsent).mono (by decide)⟩
    · rw [hst]
      exact ⟨(hreturns hp).1, (hreturns hp).2.1⟩
    · rw [hother hp] at hsent
      exact ⟨(hcount.andThen hsent).stations (by decide), (hcount.andThen hsent).mono (by decide)⟩
    · rw [hst]
      by_cases hp : (s.station i.toNat).presence = .outOfService
      · exact (hreturns hp).2.2 j hj
      · rw [hother hp]
        rfl

/-- Settles O29: what is recorded stays through the judging of dry runs and held orders. -/
theorem stateTelegramIsRecordedOrCounted : Obligations.StateTelegramIsRecordedOrCounted := by
  intro s dst src seq report i h hsrc hd hst
  have hi := State.lt_of_stationOf hst
  obtain ⟨t, hexec, honly, hadv⟩ := State.exec_inspected (c := .state dst src seq report)
    (x := stateTelegram dst src seq report) h hsrc hd
    (State.statePayload_length report) (by cases report <;> rfl) (show kindState ≠ kindOrder by decide) (show kindState ≠ kindMgmt by decide) (by rfl)
  rw [State.inspect_state (a := s.countAccepted .field) (x := stateTelegram dst src seq report) rfl hst] at honly hadv
  dsimp only at honly hadv
  have hrecords := fun x => State.takeState_records (s := s.countAccepted .field) (p := statePayload report) (x := x) hi
  have hrejects := State.takeState_rejects (s := s.countAccepted .field) (p := statePayload report) hi
  have htake := (State.countAccepted_only s .field).andThen
    ((s.countAccepted .field).takeState_only i (statePayload report))
  have hcount := State.countAccepted_only s .field
  have hcounted := State.advised_countAccepted s .field .badState
  change State.onlyChanges _ ((s.countAccepted .field).takeState i (statePayload report)) t at honly
  change ∀ k, k ≠ Advisory.queueDrop
    → t.out.advised k = ((s.countAccepted .field).takeState i (statePayload report)).out.advised k at hadv
  generalize (s.countAccepted .field).takeState i (statePayload report) = u at *
  have hstation := honly.station (by decide)
  refine ⟨fun x hx => ?_, fun hnone => ?_⟩
  · obtain ⟨hlast, htime, hrec, hout, hin, hsilent, hothers⟩ := hrecords x hx
    refine ⟨t, hexec, by rw [hstation, hlast], by rw [hstation, htime]; rfl, by rw [hstation, hrec]; rfl,
      fun hp => by rw [hstation]; exact hout hp, fun hp => by rw [hstation]; exact hin hp, fun hs hp => ?_,
      fun j hj => by rw [hstation]; exact hothers j hj, (htake.andThen honly).mono (by decide)⟩
    rw [honly.faults (by decide)]
    exact hsilent hs hp
  · obtain ⟨hrej, hothers, hbad, hframe⟩ := hrejects hnone
    exact ⟨t, hexec, (hstation i).trans hrej, fun j hj => (hstation j).trans (hothers j hj),
      ((hadv .badState (by decide)).trans hbad).trans (congrArg satSucc hcounted),
      ((hcount.andThen hframe).andThen honly).mono (by decide)⟩

end Sys2Proof.Machine
end
section
/-! PROOFS. Outstanding orders that close (R125 to R128), presence (R121), and the deadlines of the order screen (R147,
R149). -/

namespace Sys2Proof.Machine

namespace State
variable {s t u : State} {i j : Nat}

theorem lt_of_outstanding {x : Outstanding} (h : (s.station i).outstanding = some x) : i < 64 := by
  by_contra hi
  have hr : s.station i = StationRec.reset none := by simp [State.station, nth, hi]
  rw [hr] at h
  cases h

theorem lt_of_presenceAt {d : Nat} (h : (s.station i).presenceAt = some d) : i < 64 := by
  by_contra hi
  have hr : s.station i = StationRec.reset none := by simp [State.station, nth, hi]
  rw [hr] at h
  cases h

/-! ### Closing an outstanding order (R125, R128) -/

theorem station_closeOutstanding (hi : i < 64) (o : Outstanding) (c : Closing) :
    (s.closeOutstanding i o c).station i = { s.station i with outstanding := none, lastClosing := some c } := by
  have h := station_modStation s i (fun r => { r with outstanding := none, lastClosing := some c }) hi
  unfold closeOutstanding
  dsimp only
  split
  · exact ((freeSlotOf_only _ i).station (by decide) i).trans h
  · exact h

theorem station_closeOutstanding_other (h : j ≠ i) (o : Outstanding) (c : Closing) :
    (s.closeOutstanding i o c).station j = s.station j := by
  have h := station_modStation_other s i j (fun r => { r with outstanding := none, lastClosing := some c }) h
  unfold closeOutstanding
  dsimp only
  split
  · exact ((freeSlotOf_only _ i).station (by decide) j).trans h
  · exact h

theorem holdsSlot_freeSlotOf (s : State) (i : Nat) : (s.freeSlotOf i).holdsSlot i = false := by
  unfold freeSlotOf
  split
  · rfl
  next h => exact Bool.eq_false_iff.2 h

/-- A start that does not close DONE frees the slot (R149). -/
theorem holdsSlot_closeOutstanding {o : Outstanding} {c : Closing} (ho : o.type = .pumpStart) (hc : c ≠ .done) :
    (s.closeOutstanding i o c).holdsSlot i = false := by
  unfold closeOutstanding
  dsimp only
  rw [if_pos ⟨ho, hc⟩]
  exact holdsSlot_freeSlotOf _ i

theorem held_closeOutstanding (s : State) (i : Nat) (o : Outstanding) (c : Closing) :
    (s.closeOutstanding i o c).screen.held = s.screen.held := by
  unfold closeOutstanding freeSlotOf freeSlot
  dsimp only
  split
  · split <;> rfl
  · rfl

/-! ### ACK telegrams (R125, R126) -/

/-- The closing of an ACK's outcome byte. -/
theorem closingOf_byte (o : Byte) :
    closingOf o.toNat = if o = 0 then .done else if o = 1 then .refusedLocal else .failed := by
  have h0 : o.toNat = 0 ↔ o = 0 := ⟨fun h => BitVec.eq_of_toNat_eq h, fun h => congrArg BitVec.toNat h⟩
  have h1 : o.toNat = 1 ↔ o = 1 := ⟨fun h => BitVec.eq_of_toNat_eq h, fun h => congrArg BitVec.toNat h⟩
  unfold closingOf
  simp only [h0, h1]

theorem takeAck_matched {st q o r : Byte} {x : Outstanding} (hx : (s.station i).outstanding = some x) (hq : x.seq = q) :
    s.takeAck i [st, q, o, r] = ((s.closeOutstanding i x (closingOf o.toNat)).clearFault .orderTimeout i).reexamine := by
  have hmatch : s.matchedOrder i [st, q, o, r] = some x := by
    unfold matchedOrder
    rw [hx]
    exact if_pos hq
  have ho : fieldAt [st, q, o, r] 2 1 = o.toNat := beNat_singleton o
  unfold takeAck
  rw [hmatch, ho]

theorem takeAck_late {st q o r : Byte} (hx : ∀ x, (s.station i).outstanding = some x → x.seq ≠ q) :
    s.takeAck i [st, q, o, r] = (s.modStation i fun r => { r with lateAcks := satSucc r.lateAcks }).advise .lateAck i := by
  have hmatch : s.matchedOrder i [st, q, o, r] = none := by
    unfold matchedOrder
    split
    next x h => exact if_neg (hx x h)
    · rfl
  unfold takeAck
  rw [hmatch]

theorem inspect_ack {a : State} {x : Telegram} (hk : x.kind = kindAck) (hst : a.bank.stationOf x.src = some i) :
    (a.inspect x).1 = a.takeAck i x.payload := by
  unfold inspect
  rw [hk, if_neg (by decide), if_neg (by decide), if_neg (by decide), if_pos rfl, hst]

/-- An order that closes, and what the re-examination then leaves of it. -/
theorem closed_reexamined {x : Outstanding} {c : Closing} {u : State} (hi : i < 64) (hheld : s.heldSound)
    (hu : (s.closeOutstanding i x c).onlyChanges [.faults, .out] u) :
    (u.reexamine.station i).lastClosing = some c
      ∧ (s.heldOf i = none → (u.reexamine.station i).outstanding = none
          ∧ (x.type = .pumpStart → c ≠ .done → u.reexamine.holdsSlot i = false)) := by
  have hset := settled_reexamine u
  have hst := hu.station (by decide)
  have hlist : u.screen.held = s.screen.held := by rw [hu.screen (by decide), held_closeOutstanding]
  have hnostop : ∀ h ∈ u.screen.held, h.order.type ≠ .pumpStop := by
    rw [hlist]
    exact hheld.2.2
  refine ⟨by rw [hset.closing hnostop, hst, station_closeOutstanding hi], fun hnone => ?_⟩
  obtain ⟨hsame, _, hslot⟩ := hset.unheld i ((heldOf_of_held hlist i).trans hnone)
  refine ⟨by rw [hsame, hst, station_closeOutstanding hi], fun ht hc => hslot ?_⟩
  rw [holdsSlot_of_slot (congrArg Screen.slot (hu.screen (by decide)))]
  exact holdsSlot_closeOutstanding ht hc

/-! ### Timers (R121, R127) -/

/-- The timed-out order's station before the re-examination. -/
def timedOut (s : State) (i : Nat) (x : Outstanding) : State :=
  (((s.closeOutstanding i x .timeout).modStation i fun r => { r with timeouts := satSucc r.timeouts }).raiseFault
    .orderTimeout i).answerOutstanding (s.boundAddress i) x outcomeTimeout

theorem ackTimedOut_eq {x : Outstanding} (hx : (s.station i).outstanding = some x) :
    s.ackTimedOut i = (s.timedOut i x).reexamine := by
  unfold ackTimedOut
  rw [hx]
  rfl

theorem timedOut_only (s : State) (i : Nat) (x : Outstanding) :
    ((s.closeOutstanding i x .timeout).modStation i fun r => { r with timeouts := satSucc r.timeouts }).onlyChanges
      [.faults, .out] (s.timedOut i x) :=
  ((raiseFault_keeps_mode _ i fun _ => rfl).andThen (answerOutstanding_only _ _ _ _)).mono (by decide)

theorem station_timedOut (hi : i < 64) (x : Outstanding) : (s.timedOut i x).station i = { s.station i with
    outstanding := none, lastClosing := some .timeout, timeouts := satSucc (s.station i).timeouts } := by
  rw [(timedOut_only s i x).station (by decide), station_modStation _ _ _ hi, station_closeOutstanding hi]

theorem active_timedOut (hs : s.faults.sound) (x : Outstanding) : (s.timedOut i x).faults.active .orderTimeout i = true := by
  have hclosed : (s.closeOutstanding i x .timeout).faults = s.faults := (closeOutstanding_only _ _ _ _).faults (by decide)
  have hsound : ((s.closeOutstanding i x .timeout).modStation i fun r =>
      { r with timeouts := satSucc r.timeouts }).faults.sound := hclosed.symm ▸ hs
  unfold timedOut
  rw [(answerOutstanding_only _ _ _ _).faults (by decide)]
  exact active_raiseFault hsound rfl i

theorem presenceTimedOut_eq (s : State) (i : Nat) : s.presenceTimedOut i
    = ((s.modStation i fun r => { r with presence := .silent, presenceAt := none }).raiseFault .stationSilent i
        ).judgeDryRuns.reexamine := rfl

/-! ### The screen's deadlines (R147, R149) -/

theorem holdExpired_eq {h : Held} (hh : s.heldOf i = some h) :
    s.holdExpired i = ((s.dropHeld i).refuseOrder i h.order h.reason.code).reexamine := by
  unfold holdExpired
  rw [hh]

theorem station_refuseOrder (hi : i < 64) (o : Order) (c : Nat) :
    (s.refuseOrder i o c).station i = { s.station i with refused := satSucc (s.station i).refused } := by
  unfold refuseOrder
  rw [(syntheticAck_only _ _ _ _ _ _).station (by decide), station_modStation _ _ _ hi]

theorem station_refuseOrder_other (h : j ≠ i) (o : Order) (c : Nat) : (s.refuseOrder i o c).station j = s.station j := by
  unfold refuseOrder
  rw [(syntheticAck_only _ _ _ _ _ _).station (by decide), station_modStation_other _ _ _ _ h]

theorem screen_refuseOrder (s : State) (i : Nat) (o : Order) (c : Nat) : (s.refuseOrder i o c).screen = s.screen :=
  (refuseOrder_only s i o c).screen (by decide)

theorem length_dropHeld {h : Held} (hh : s.heldOf i = some h) : (s.dropHeld i).screen.held.length < s.screen.held.length := by
  have hmem : h ∈ s.screen.held := List.mem_of_find?_eq_some hh
  have hst : h.station = i := by simpa using List.find?_some hh
  exact List.length_filter_lt_length_iff_exists.2 ⟨h, hmem, by simp [hst]⟩

theorem startLimitExpired_eq {c : Slot} (hc : s.screen.slot = some c) :
    s.startLimitExpired = (s.freeSlot.raiseFault .pumpStartFailed c.pump).reexamine := by
  unfold startLimitExpired
  rw [hc]

end State

/-- Settles O30: the closing of the order with the ACK's sequence; the re-examination keeps what it closed. -/
theorem ackClosesTheMatchingOrder : Obligations.AckClosesTheMatchingOrder := by
  intro s dst src seq st q o reason i h hsrc hd hst
  have hi := State.lt_of_stationOf hst
  obtain ⟨t, hexec, honly, hadv⟩ := State.exec_inspected (c := .ack dst src seq st q o reason)
    (x := ackTelegram dst src seq st q o reason) h hsrc hd (show 4 ≤ 56 by decide) (by rfl)
    (show kindAck ≠ kindOrder by decide) (show kindAck ≠ kindMgmt by decide) (by rfl)
  have hinspect := State.inspect_ack (a := s.countAccepted .field) (x := ackTelegram dst src seq st q o reason) rfl hst
  rw [hinspect] at honly hadv
  have htake := (State.countAccepted_only s .field).andThen ((s.countAccepted .field).takeAck_only i [st, q, o, reason])
  change State.onlyChanges _ ((s.countAccepted .field).takeAck i [st, q, o, reason]) t at honly
  have hstation := honly.station (by decide)
  refine ⟨fun x hx hq hheld => ?_, fun hlate => ?_⟩
  · have hclear := State.clearFault_only ((s.countAccepted .field).closeOutstanding i x (State.closingOf o.toNat)) .orderTimeout i
    obtain ⟨hclosing, hfree⟩ := State.closed_reexamined (s := s.countAccepted .field) hi hheld hclear
    rw [State.takeAck_matched (s := s.countAccepted .field) hx hq] at honly htake hstation
    refine ⟨t, hexec, by rw [hstation, hclosing, State.closingOf_byte], fun hnone => ?_, fun hs => ?_,
      (htake.andThen honly).mono (by decide)⟩
    · obtain ⟨hout, hslot⟩ := hfree hnone
      have hscreen : t.screen = _ := honly.screen (by decide)
      refine ⟨by rw [hstation, hout], fun hstart ho => ?_⟩
      rw [State.holdsSlot_of_slot (congrArg Screen.slot hscreen)]
      refine hslot hstart ?_
      rw [State.closingOf_byte, if_neg ho]
      split <;> decide
    · rw [honly.faults (by decide), State.active_reexamine _ (by decide)]
      refine State.active_clearFault ?_ .orderTimeout i
      rw [(State.closeOutstanding_only _ i x _).faults (by decide)]
      exact hs
  · have hmod := State.modStation_only (s.countAccepted .field) i fun r => { r with lateAcks := satSucc r.lateAcks }
    have hadvise := State.advise_only
      ((s.countAccepted .field).modStation i fun r => { r with lateAcks := satSucc r.lateAcks }) .lateAck i
    have hsame := State.station_modStation (s.countAccepted .field) i (fun r => { r with lateAcks := satSucc r.lateAcks }) hi
    have hother := fun j => State.station_modStation_other (s.countAccepted .field) i j
      fun r => { r with lateAcks := satSucc r.lateAcks }
    have hcounted := State.advised_advise
      ((s.countAccepted .field).modStation i fun r => { r with lateAcks := satSucc r.lateAcks }) (k := .lateAck) i (by decide)
    have hlast := hadv .lateAck (by decide)
    change _ = ((s.countAccepted .field).takeAck i [st, q, o, reason]).out.advised .lateAck at hlast
    rw [State.takeAck_late (s := s.countAccepted .field) hlate] at honly hstation hlast
    refine ⟨t, hexec, by rw [hstation, hadvise.station (by decide), hsame]; rfl,
      fun j hj => by rw [hstation, hadvise.station (by decide), hother j hj]; rfl, ?_,
      ((((State.countAccepted_only s .field).andThen hmod).andThen hadvise).andThen honly).mono (by decide)⟩
    exact (hlast.trans hcounted).trans (congrArg satSucc (State.advised_countAccepted s .field .lateAck))

/-- Settles O31: the closing as TIMEOUT, and the presence turned SILENT, each followed by a raised fault. -/
theorem stationTimersTimeOutOrdersAndPresence : Obligations.StationTimersTimeOutOrdersAndPresence := by
  refine ⟨fun s i x hr hw hheld hnone hx hd => ?_, fun s i d hr hw hp hd => ?_⟩
  · have hi := State.lt_of_outstanding hx
    have hdue : s.ackDue i = true := by simp [State.ackDue, hw, hx, hd]
    refine ⟨_, exec_due hr hdue rfl, ?_⟩
    have honly := s.ackTimedOut_only i
    have htimed := State.timedOut_only s i x
    have hset := State.settled_reexamine (s.timedOut i x)
    have hscreen : (s.timedOut i x).screen = (s.closeOutstanding i x .timeout).screen := htimed.screen (by decide)
    have hlist : (s.timedOut i x).screen.held = s.screen.held := by rw [hscreen, State.held_closeOutstanding]
    rw [State.ackTimedOut_eq hx] at honly ⊢
    obtain ⟨hsame, _, hslot⟩ := hset.unheld i ((State.heldOf_of_held hlist i).trans hnone)
    rw [hsame, State.station_timedOut hi]
    refine ⟨rfl, rfl, rfl, fun hstart => hslot ?_, fun hs => ?_, honly⟩
    · rw [State.holdsSlot_of_slot (congrArg Screen.slot hscreen)]
      exact State.holdsSlot_closeOutstanding hstart (by decide)
    · rw [State.active_reexamine _ (by decide)]
      exact State.active_timedOut hs x
  · have hi := State.lt_of_presenceAt hp
    have hdue : s.presenceDue i = true := by simp [State.presenceDue, hw, hp, hd]
    refine ⟨_, exec_due hr hdue rfl, ?_⟩
    have honly := s.presenceTimedOut_only i
    have hsame := State.station_modStation s i (fun r => { r with presence := .silent, presenceAt := none }) hi
    have hother := fun j => State.station_modStation_other s i j fun r => { r with presence := .silent, presenceAt := none }
    have hraised := fun hs => State.active_raiseFault
      (s := s.modStation i fun r => { r with presence := .silent, presenceAt := none }) (k := .stationSilent) hs rfl i
    have hraise := State.raiseFault_only (s.modStation i fun r => { r with presence := .silent, presenceAt := none })
      .stationSilent i
    have hset := State.settled_judged
      ((s.modStation i fun r => { r with presence := .silent, presenceAt := none }).raiseFault .stationSilent i)
    have hst := hraise.station (by decide)
    rw [State.presenceTimedOut_eq] at honly ⊢
    refine ⟨by rw [hset.presence, hst, hsame], by rw [hset.presenceAt, hst, hsame], by rw [hset.last, hst, hsame],
      fun j hj => by rw [hset.presence, hst, hother j hj], fun hs => ?_, honly⟩
    rw [State.active_judged _ (by decide)]
    exact hraised hs

/-- Settles O33: the dropped entry and its refusal, and the slot freed before the fault is raised. -/
theorem screenDeadlinesRefuseAndFree : Obligations.ScreenDeadlinesRefuseAndFree := by
  refine ⟨fun s i h hr hw hh hd hi => ?_, fun s c hr hw hc hd hnone => ?_⟩
  · have hdue : s.holdDue i = true := by simp [State.holdDue, hw, hh, hd]
    refine ⟨_, exec_due hr hdue rfl, ?_⟩
    have honly := s.holdExpired_only i
    have hset := State.settled_reexamine ((s.dropHeld i).refuseOrder i h.order h.reason.code)
    have hscreen := State.screen_refuseOrder (s.dropHeld i) i h.order h.reason.code
    have hlist := congrArg Screen.held hscreen
    have hgone := (State.heldOf_of_held hlist i).trans (State.heldOf_dropHeld s i)
    rw [State.holdExpired_eq hh] at honly ⊢
    obtain ⟨hsame, hheld, _⟩ := hset.unheld i hgone
    refine ⟨hheld, ?_, lt_of_le_of_lt hset.shrinks ?_, honly⟩
    · rw [hsame, State.station_refuseOrder hi]
      rfl
    · rw [hlist]
      exact State.length_dropHeld hh
  · have hdue : s.startLimitDue = true := by simp [State.startLimitDue, hw, hc, hd]
    refine ⟨_, exec_due hr hdue rfl, ?_⟩
    have honly := s.startLimitExpired_only
    have hraise := State.raiseFault_only s.freeSlot .pumpStartFailed c.pump
    have hset := State.settled_reexamine (s.freeSlot.raiseFault .pumpStartFailed c.pump)
    have hscreen : (s.freeSlot.raiseFault .pumpStartFailed c.pump).screen = s.freeSlot.screen := hraise.screen (by decide)
    rw [State.startLimitExpired_eq hc] at honly ⊢
    obtain ⟨hsame, _, hslot⟩ := hset.unheld c.pump ((State.heldOf_of_held (congrArg Screen.held hscreen) _).trans hnone)
    refine ⟨hslot ?_, fun hs => ?_, ?_, honly⟩
    · rw [State.holdsSlot_of_slot (congrArg Screen.slot hscreen)]
      rfl
    · rw [(State.rescreened_reexamine _).failed _ ((State.heldOf_of_held (congrArg Screen.held hscreen) _).trans hnone)]
      exact State.active_raiseFault (s := s.freeSlot) hs rfl c.pump
    · rw [hsame, hraise.station (by decide)]
      rfl

end Sys2Proof.Machine
end
section
/-! PROOFS. What sending leaves alone, by port: a port that was sending goes on, and the ports a telegram or an ALERT is
not for keep their state (R110, R111, R181). -/

namespace Sys2Proof.Machine

theorem PortState.sending_start {p : PortState} {e : QEntry} (h : p.sending = some e) : p.start.sending = some e := by
  rw [PortState.start_busy (by simp [h]), h]

theorem PortState.sending_offer {p : PortState} {e : QEntry} (h : p.sending = some e) (n : Nat) (x : QEntry) :
    (p.offer n x).port.sending = some e := by
  unfold PortState.offer
  split
  · exact sending_start h
  · split
    · exact h
    · split
      · exact sending_start h
      · exact h

namespace Out

/-- Ports outside `ps` keep their state, and a port that was sending goes on. -/
structure spares (ps : List Port) (o o' : Out) : Prop where
  others : ∀ p, p ∉ ps → o'.port p = o.port p
  sending : ∀ p e, (o.port p).sending = some e → (o'.port p).sending = some e

variable {ps : List Port} {o o' q : Out}

theorem spares.refl (ps : List Port) (o : Out) : o.spares ps o := ⟨fun _ _ => rfl, fun _ _ h => h⟩

theorem spares.trans (h : o.spares ps o') (k : o'.spares ps q) : o.spares ps q :=
  ⟨fun p hp => (k.others p hp).trans (h.others p hp), fun p e he => k.sending p e (h.sending p e he)⟩

theorem spares_setPort {p : Port} (hp : p ∈ ps) {x : PortState}
    (hx : ∀ e, (o.port p).sending = some e → x.sending = some e) : o.spares ps (o.setPort p x) := by
  refine ⟨fun q hq => port_setPort_other o x fun h => hq (h ▸ hp), fun q e he => ?_⟩
  by_cases h : q = p
  · subst h
    rw [port_setPort_same]
    exact hx e he
  · rwa [port_setPort_other o x h]

theorem spares_of_port (h : ∀ p, o'.port p = o.port p) : o.spares ps o' :=
  ⟨fun p _ => h p, fun p e he => by rwa [h p]⟩

theorem spares_offer {p : Port} (hp : p ∈ ps) (o : Out) (e : QEntry) : o.spares ps (o.offer p e).1 :=
  (spares_setPort hp fun _ h => PortState.sending_offer h _ _).trans (spares_of_port fun q => afterLoss_port _ p q _)

theorem spares_make {p : Port} (hp : p ∈ ps) (o : Out) (b : ShipBank) (k : Byte) (x : List Byte) :
    o.spares ps (o.make b p k x).2 := spares_setPort hp fun _ h => h

theorem spares_alertCopy {p : Port} (hp : p ∈ ps) (o : Out) (b : ShipBank) (t : Stamp) (a : Alert) :
    o.spares ps (o.alertCopy b t a p).1 := (spares_make hp o b _ _).trans (spares_offer hp _ _)

/-- The ports an ALERT may be for. -/
abbrev alertPorts (ps : List Port) : Prop := Port.console ∈ ps ∧ Port.shore ∈ ps

/-- The ports an ALERT of a severity is for under the escalation settings are among `ps` (R181). -/
def heardBy (b : ShipBank) (ps : List Port) (v : Severity) : Prop :=
  (b.alertConsole v = true → Port.console ∈ ps) ∧ (b.alertShore v = true → Port.shore ∈ ps)

theorem alertPorts.heardBy (h : alertPorts ps) (b : ShipBank) (v : Severity) : heardBy b ps v := ⟨fun _ => h.1, fun _ => h.2⟩

theorem spares_alertOnce (o : Out) (b : ShipBank) (t : Stamp) {a : Alert} (h : heardBy b ps a.severity) :
    o.spares ps (o.alertOnce b t a).1 := by
  have hc : o.spares ps (if b.alertConsole a.severity then o.alertCopy b t a .console else (o, [])).1 := by
    split
    next hs => exact spares_alertCopy (h.1 hs) o b t a
    · exact .refl ps o
  unfold alertOnce
  dsimp only
  split
  next hs => exact hc.trans (spares_alertCopy (h.2 hs) _ b t a)
  · exact hc

theorem spares_drops (b : ShipBank) (h : heardBy b ps .advisory) (t : Stamp) (n : Nat) (ls : List Loss) (o : Out) :
    o.spares ps (Out.drops b t n ls o) := by
  induction n generalizing ls o with
  | zero => exact .refl ps o
  | succ n ih =>
    cases ls with
    | nil => exact .refl ps o
    | cons l ls =>
      exact ((spares_of_port fun p => count_port o _ p).trans (spares_alertOnce _ b t h)).trans (ih _ _)

end Out

namespace State
variable {s t u : State} {ps : List Port} {i j : Nat}

/-- Ports outside `ps` keep their state, and a port that was sending goes on. -/
abbrev spares (ps : List Port) (s t : State) : Prop := s.out.spares ps t.out

theorem onlyChanges.spares {l : List Block} (h : s.onlyChanges l t) (ps : List Port) (n : Block.out ∉ l := by decide) :
    s.spares ps t := by
  unfold State.spares
  rw [h.out n]
  exact .refl _ _

theorem spares_offer (h : Out.heardBy s.bank ps .advisory) {p : Port} (hp : p ∈ ps) (e : QEntry) :
    s.spares ps (s.offer p e).1 := (Out.spares_offer hp s.out e).trans (Out.spares_drops _ h _ _ _ _)

theorem spares_send (h : Out.heardBy s.bank ps .advisory) {p : Port} (hp : p ∈ ps) (x : Telegram) :
    s.spares ps (s.send p x).1 := spares_offer h hp _

theorem spares_alert (h : Out.heardBy s.bank ps .advisory) {a : Alert} (ha : Out.heardBy s.bank ps a.severity) :
    s.spares ps (s.alert a) := (Out.spares_alertOnce s.out _ _ ha).trans (Out.spares_drops _ h _ _ _ _)

theorem spares_advise (h : Out.heardBy s.bank ps .advisory) (k : Advisory) (x : Nat) : s.spares ps (s.advise k x) :=
  (Out.spares_of_port fun p => Out.count_port s.out k p).trans
    (spares_alert (s := { s with out := s.out.count k }) (a := k.alert x) h h)

theorem spares_syntheticAck (h : Out.heardBy s.bank ps .advisory) (hp : Port.console ∈ ps) (c q st : Byte) (o r : Nat) :
    s.spares ps (s.syntheticAck c q st o r) := spares_send h hp _

theorem spares_withFaults (hps : Out.alertPorts ps) (s : State) (f : Faults) (k : FaultKind) (x tr c : Nat) :
    s.spares ps (s.withFaults f k x tr c) :=
  spares_alert (s := { s with faults := f }) (hps.heardBy _ _) (hps.heardBy _ _)

theorem spares_raiseFault (hps : Out.alertPorts ps) (s : State) (k : FaultKind) (x : Nat) :
    s.spares ps (s.raiseFault k x) := by
  unfold raiseFault
  split
  · exact .refl _ _
  · exact (spares_withFaults hps s _ k x _ _).trans ((enterSafeOn_only _ k).spares ps)

theorem spares_clearFault (hps : Out.alertPorts ps) (s : State) (k : FaultKind) (x : Nat) :
    s.spares ps (s.clearFault k x) := by
  unfold clearFault
  split
  · exact .refl _ _
  · exact spares_withFaults hps s _ k x _ _

/-! ### An order that finds no place (R110, R143) -/

/-- The class-2 and class-3 telegrams a full queue can lose are not there. -/
theorem takeNewest_none {c : Fin 4} {q : List QEntry} (h : ∀ e ∈ q, e.cls ≠ c) : takeNewest c q = none := by
  induction q with
  | nil => rfl
  | cons x xs ih =>
    obtain ⟨hx, hxs⟩ := List.forall_mem_cons.1 h
    rw [takeNewest, ih hxs]
    exact if_neg hx

/-- The port an offer is made at afterwards holds what the offer did to it. -/
theorem port_offer (s : State) (e : QEntry) :
    (s.offer .field e).1.out.field = (s.out.field.offer 32 e).port ∧ (s.offer .field e).2 = (s.out.field.offer 32 e).ok := by
  have hdrops : Out.spares [.console, .shore] (s.out.offer .field e).1 (s.offer .field e).1.out :=
    Out.spares_drops _ (Out.alertPorts.heardBy ⟨by decide, by decide⟩ _ _) _ _ _ _
  refine ⟨(hdrops.others .field (by decide)).trans ?_, rfl⟩
  exact (Out.afterLoss_port _ .field .field _).trans (Out.port_setPort_same _ _ _)

/-- An ORDER offered to a full field queue is dropped. -/
theorem offer_fieldFull {e : QEntry} (h : s.fieldFull) (hc : e.cls = s.bank.classOf 0x41) :
    (s.offer .field e).2 = false
      ∧ (s.offer .field e).1.out.field = PortState.countDrop (s.bank.classOf 0x41) s.out.field := by
  have hlost : s.out.field.offer 32 e = { port := s.out.field.countDrop e.cls, ok := false, lost := some e } := by
    obtain ⟨hfull, h2 | hlow⟩ := h
    · exact PortState.offer_dropped hfull (by rwa [hc])
    · by_cases h2 : 2 ≤ e.cls
      · exact PortState.offer_dropped hfull h2
      · have none_of {c : Fin 4} (hge : 2 ≤ c) : takeNewest c s.out.field.queue = none :=
          takeNewest_none fun x hx hcl => absurd (hlow x hx) (by rw [hcl]; exact not_lt.2 hge)
        refine PortState.offer_lost hfull (not_le.1 h2) ?_
        rw [none_of (c := 3) (by decide), none_of (c := 2) (by decide)]
        rfl
  obtain ⟨hport, hok⟩ := s.port_offer e
  rw [hport, hok, hlost, ← hc]
  exact ⟨rfl, rfl⟩

/-! ### A raised fault's entry (R179) -/

/-- A raised fault has an entry where the table is sound and has a place. -/
theorem entry_raiseFault (hs : s.faults.sound) (hroom : s.faults.entries.length < 32) (k : FaultKind) (x : Nat) :
    ∃ e, (s.raiseFault k x).faults.entry k x = some e := by
  have hmarked : ∀ (g : Faults) (z : Stamp) (w : Bool),
      (if k.ackCleared then g else g.addMark k x z w).entry k x = g.entry k x := by
    intro g z w
    split
    · rfl
    · unfold Faults.addMark
      split <;> rfl
  cases he : s.faults.entry k x with
  | some e =>
    unfold raiseFault
    split
    · exact ⟨e, he⟩
    next f n hf =>
      rw [enterSafeOn_faults, entry_withFaults]
      unfold Faults.raise at hf
      dsimp only at hf
      rw [he] at hf
      dsimp only at hf
      split at hf
      · cases hf
        rw [hmarked, Faults.entry_mapEntry (g := fun e => e.raiseAgain s.stamp _) (fun _ => rfl) (fun _ => rfl),
          if_pos ⟨rfl, rfl⟩, he]
        exact ⟨_, rfl⟩
      · cases hf
  | none =>
    have hinactive : s.faults.active k x = false := by
      refine Faults.active_false_iff.2 fun m hm ⟨hk, hx⟩ => ?_
      cases hw : m.waiting
      · obtain ⟨e, hmem, hek, hex, _⟩ := hs.entered m hm hw
        exact Faults.entry_none_iff.1 he e hmem ⟨hek.trans hk, hex.trans hx⟩
      · have := (hs.waits m hm hw).1
        omega
    have hmark : ¬(s.faults.mark k x).isSome = true := by
      rw [Faults.mark_isSome_iff, hinactive]
      decide
    have hplace : s.faults.makeRoom = some s.faults := if_pos hroom
    unfold raiseFault
    split
    next hf =>
      unfold Faults.raise at hf
      dsimp only at hf
      rw [he] at hf
      dsimp only at hf
      rw [if_neg hmark, hplace] at hf
      cases hf
    next f n hf =>
      rw [enterSafeOn_faults, entry_withFaults]
      unfold Faults.raise at hf
      dsimp only at hf
      rw [he] at hf
      dsimp only at hf
      rw [if_neg hmark, hplace] at hf
      cases hf
      rw [hmarked]
      unfold Faults.entry at he ⊢
      unfold Faults.addEntry
      dsimp only
      rw [List.find?_append, he]
      exact ⟨{ kind := k, subject := x, state := if k.ackCleared then .clearedUnack else .activeUnack, first := s.stamp
               last := s.stamp, count := 1 }, by simp [FaultEntry.isFor]⟩

end State

end Sys2Proof.Machine
end
section
/-! PROOFS. The dry-run trip (R151): the part's PUMP_STOP offered to the field queue. -/

namespace Sys2Proof.Machine

namespace State
variable {s t u : State} {i j l : Nat}

/-! ### A PUMP_STOP that is offered (R124, R136) -/

theorem orderOffered_stop {o : Order} (ho : o.type = .pumpStop) (c : Option Byte) : s.orderOffered i o c
    = ((s.supersedeOutstanding i).freeSlotOf i).openOutstanding i o.seq .pumpStop o.mode o.speed c := by
  unfold orderOffered
  rw [ho]
  rfl

theorem orderOffered_other {o : Order} (ho : o.type ≠ .pumpStop) (c : Option Byte) : s.orderOffered i o c
    = if o.type = .pumpStart then (s.openOutstanding i o.seq o.type o.mode o.speed c).takeSlot i (Order.startMode o)
      else s.openOutstanding i o.seq o.type o.mode o.speed c := by
  unfold orderOffered
  dsimp only
  rw [if_neg ho]

/-- The record of an order that becomes outstanding now (R124). -/
def openedAs (s : State) (q : Byte) (ty : OrderType) (m v : Byte) (c : Option Byte) : Outstanding :=
  { seq := q, type := ty, mode := m, setpoint := v, console := c, forwarded := s.now, deadline := s.now + s.bank.ackTimeout }

theorem station_openOutstanding (hi : i < 64) (q : Byte) (ty : OrderType) (m v : Byte) (c : Option Byte) :
    (s.openOutstanding i q ty m v c).station i = { s.station i with
      outstanding := some (s.openedAs q ty m v c), forwarded := satSucc (s.station i).forwarded } :=
  station_modStation s i _ hi

/-- A stop that is offered is the pump's outstanding order, and the pump has no slot. -/
theorem stop_offered (hi : i < 64) {o : Order} (ho : o.type = .pumpStop) (c : Option Byte) :
    ((s.orderOffered i o c).station i).outstanding = some (s.openedAs o.seq .pumpStop o.mode o.speed c)
      ∧ (s.orderOffered i o c).holdsSlot i = false := by
  have hbefore := (supersedeOutstanding_only s i).andThen (freeSlotOf_only _ i)
  rw [orderOffered_stop ho, station_openOutstanding hi]
  refine ⟨?_, holdsSlot_freeSlotOf (s.supersedeOutstanding i) i⟩
  unfold openedAs
  rw [hbefore.now (by decide), hbefore.bank (by decide)]

/-- The other records of the screen. -/
theorem supersedeHeld_station (s : State) (i j : Nat) : (s.supersedeHeld i).station j = s.station j :=
  (supersedeHeld_only s i).station (by decide) j

theorem supersedeHeld_slot (s : State) (i : Nat) : (s.supersedeHeld i).screen.slot = s.screen.slot := by
  unfold supersedeHeld
  split
  · rw [(syntheticAck_only _ _ _ _ _ _).screen (by decide)]
    rfl
  · rfl

/-! ### The trip (R151) -/

/-- What the trip's offer leaves: the part's stop is sent or dropped, with the sequence it was given. -/
def tripSent (s : State) (l : Nat) : State × Bool :=
  (s.modPort .field fun p => { p with seq := p.seq + 1 }).send .field (s.orderTelegram l s.bank.ownAddress s.partStop)

/-- The line after a trip whose stop was offered. -/
def tripped (s : State) (l : Nat) : State :=
  (((s.tripSent l).1.raiseFault .dryRunTrip l).orderOffered l s.partStop none |>.supersedeHeld l).setDry l none true

theorem dryTrip_offered (h : (s.tripSent l).2 = true) : (s.tripped l).rescreened (s.dryTrip l) := by
  unfold dryTrip
  dsimp only
  change (s.tripped l).rescreened (if (s.tripSent l).2 = true then _ else _)
  rw [if_pos h]
  split
  · exact rescreened_reexamine (s.tripped l)
  · exact .refl (s.tripped l)

theorem dryTrip_dropped (h : (s.tripSent l).2 = false) : s.dryTrip l
    = ((s.tripSent l).1.raiseFault .dryRunTrip l).setDry l (some (s.now + s.bank.dryRunDelay l))
        (nth s.screen.tripped l false) := by
  have hn : ¬(s.tripSent l).2 = true := by simp [h]
  exact if_neg hn

/-- The part's stop with room in the field queue. -/
theorem tripSent_room (h : s.out.field.queue.length < 32) :
    (s.tripSent l).2 = true ∧ s.onlyChanges [.out] (s.tripSent l).1 := by
  refine ⟨?_, ((only_out s _).trans (send_only _ _ _))⟩
  exact congrArg Prod.snd (offer_room (s := s.modPort .field fun p => { p with seq := p.seq + 1 }) (p := .field) h _)

/-- The part's stop with no place in the field queue. -/
theorem tripSent_full (h : s.fieldFull) : (s.tripSent l).2 = false ∧ s.onlyChanges [.out] (s.tripSent l).1
    ∧ (s.tripSent l).1.out.field.queue = s.out.field.queue
    ∧ nth (s.tripSent l).1.out.field.queueDrops (s.bank.classOf 0x41) 0
        = satSucc (nth s.out.field.queueDrops (s.bank.classOf 0x41) 0) := by
  obtain ⟨hok, hport⟩ := offer_fieldFull (s := s.modPort .field fun p => { p with seq := p.seq + 1 })
    (e := { tel := s.orderTelegram l s.bank.ownAddress s.partStop, cls := s.bank.classOf 0x41, resetReply := false }) h rfl
  refine ⟨hok, (only_out s _).trans (send_only _ _ _), ?_, ?_⟩
  · exact (congrArg PortState.queue hport).trans rfl
  · exact (congrArg (fun p => nth p.queueDrops (s.bank.classOf 0x41) 0) hport).trans
      (PortState.drops_countDrop { s.out.field with seq := s.out.field.seq + 1 } _)

/-- An element of a vector written back. -/
theorem upd_nth {α : Type} {n : Nat} (v : Vector α n) (i : Nat) (d : α) : upd v i (fun _ => nth v i d) = v := by
  unfold upd nth
  by_cases h : i < n
  · simp [h]
  · simp [h]

theorem lt_of_dryAt {d : Nat} (h : nth s.screen.dryAt l none = some d) : l < 8 := by
  by_contra hl
  simp [nth, hl] at h

end State

/-- Settles O34: the offer's outcome decides between the trip and a timer that runs again. -/
theorem dryRunTripStopsThePump : Obligations.DryRunTripStopsThePump := by
  intro s l d hr hw hl hd
  have hl8 := State.lt_of_dryAt hl
  have hdue : s.dryDue l = true := by simp [State.dryDue, hw, hl, hd]
  have honly := s.dryTrip_only l
  have hentry := fun (u : State) (hu : s.onlyChanges [.out] u) (hs : s.faults.sound) (hroom : s.faults.entries.length < 32) =>
    State.entry_raiseFault (s := u) (by rw [hu.faults (by decide)]; exact hs) (by rw [hu.faults (by decide)]; exact hroom)
      .dryRunTrip l
  refine ⟨fun hroom => ⟨_, exec_due hr hdue rfl, ?_⟩, fun hfull => ⟨_, exec_due hr hdue rfl, ?_⟩⟩
  · obtain ⟨hok, hsent⟩ := State.tripSent_room (s := s) (l := l) hroom
    have hraise := hsent.andThen (State.raiseFault_keeps_mode (s.tripSent l).1 (k := .dryRunTrip) l fun _ => rfl)
    have hent := hentry _ hsent
    have hscreened := State.dryTrip_offered hok
    unfold State.tripped at hscreened
    generalize s.dryTrip l = t at *
    generalize (s.tripSent l).1.raiseFault .dryRunTrip l = v at *
    obtain ⟨hout, hslot⟩ := State.stop_offered (s := v) (i := l) (by omega) (o := s.partStop) rfl none
    have hoffered := State.orderActs.orderOffered (s := v) (i := l) (stop := True) s.partStop none fun _ => trivial
    generalize v.orderOffered l s.partStop none = w at *
    have hheld := State.heldOf_supersedeHeld w l
    have hstation := w.supersedeHeld_station l
    have hwslot := w.supersedeHeld_slot l
    have hfaults := (w.supersedeHeld_only l).faults (by decide)
    generalize w.supersedeHeld l = x at *
    obtain ⟨hsame, hslot'⟩ := hscreened.unheld l hheld
    refine ⟨?_, ?_, ?_, hslot' ?_, hscreened.heldOf_none hheld, fun hs hn => ?_, honly⟩
    · rw [hsame]
      change (x.station l).outstanding = _
      rw [hstation, hout]
      unfold State.openedAs
      rw [hraise.now (by decide), hraise.bank (by decide)]
      rfl
    · rw [hscreened.dry.1]
      exact nth_upd_same _ _ _ _ hl8
    · rw [hscreened.dry.2]
      exact nth_upd_same _ _ _ _ hl8
    · exact (State.holdsSlot_of_slot hwslot l).trans hslot
    · obtain ⟨e, he⟩ := hent hs hn
      have hw' := hoffered.entries .dryRunTrip l e (by decide) he
      rw [hscreened.entries .dryRunTrip l e (by decide) (by rw [← hw', ← hfaults]; rfl)]
      rfl
  · obtain ⟨hok, hsent, hqueue, hdrops⟩ := State.tripSent_full (s := s) (l := l) hfull
    have hraise := State.raiseFault_keeps_mode (s.tripSent l).1 (k := .dryRunTrip) l fun _ => rfl
    have hfield := (State.spares_raiseFault (ps := [.console, .shore]) ⟨by decide, by decide⟩ (s.tripSent l).1 .dryRunTrip l).others
      .field (by decide)
    have hent := hentry _ hsent
    have hframe := hsent.andThen hraise
    rw [State.dryTrip_dropped hok]
    generalize (s.tripSent l).1 = u at *
    generalize u.raiseFault .dryRunTrip l = v at *
    change v.out.field = u.out.field at hfield
    refine ⟨?_, ?_, ?_, fun hs hn => ?_, (hframe.andThen (State.setDry_only v l _ _)).mono (by decide)⟩
    · have hscreen : v.screen = s.screen := hframe.screen (by decide)
      unfold State.setDry
      dsimp only
      rw [hscreen, State.upd_nth]
    · exact (congrArg PortState.queue hfield).trans hqueue
    · exact (congrArg (fun p => nth p.queueDrops (s.bank.classOf 0x41) 0) hfield).trans hdrops
    · obtain ⟨e, he⟩ := hent hs hn
      change (v.faults.entry .dryRunTrip l).isSome = true
      rw [he]
      rfl

end Sys2Proof.Machine
end
section
/-! PROOFS. An ORDER of a console (R133 to R136, R143, R144, R148): what each judgement makes of it. -/

namespace Sys2Proof.Machine

namespace State
variable {s t u : State} {i j : Nat} {o : Order}

/-! ### The order an ORDER telegram spells (R133) -/

/-- The fields of an order that was read off a console's ORDER. -/
theorem readOrder_fields {dst src seq ty m v : Byte} (h : readOrder i (consoleOrderTelegram dst src seq ty m v) = some o) :
    o.seq = seq ∧ o.mode = m ∧ o.console = src ∧ (o.type = .pumpStart → m.toNat ≤ 1) := by
  unfold readOrder at h
  dsimp only at h
  split at h
  · cases h
  next type _ =>
    split at h
    next hok =>
      cases h
      exact ⟨rfl, rfl, rfl, hok.2.1⟩
    · cases h

/-- The working mode a start's mode byte orders. -/
theorem startMode_eq {m : Byte} (hm : o.mode = m) (h : m.toNat ≤ 1) :
    Order.startMode o = if m = 0 then .ballast else .deballast := by
  have hz : m = 0 ↔ m.toNat = 0 := ⟨fun e => by rw [e]; rfl, fun e => BitVec.eq_of_toNat_eq e⟩
  unfold Order.startMode
  rw [hm]
  obtain h0 | h1 : m.toNat = 0 ∨ m.toNat = 1 := by omega
  · rw [if_pos (hz.2 h0), h0]
    rfl
  · rw [if_neg (fun e => by rw [hz.1 e] at h1; cases h1), h1]
    rfl

/-- An ORDER of a console for a station of another address reaches the order screen (R103). -/
theorem exec_order {dst src seq ty m v : Byte} (h : s.inService) (hsrc : s.otherNode src) (hr : s.bank.role src = .console)
    (h0 : dst ≠ 0) (hown : dst ≠ s.bank.ownAddress) :
    exec (.order dst src seq ty m v) s
      = .next ((s.countAccepted .console).dispatchOrder (consoleOrderTelegram dst src seq ty m v)) := by
  have hexec : exec (.order dst src seq ty m v) s
      = .next (s.receive .console (consoleOrderTelegram dst src seq ty m v)) :=
    exec_ready (f := (State.receive · .console (consoleOrderTelegram dst src seq ty m v))) h.ready rfl
  rw [receive_order h.working (Telegram.acceptable_of (t := consoleOrderTelegram dst src seq ty m v) (show 3 ≤ 56 by decide) hsrc.1 hsrc.2.1 h0 (by rfl)) hsrc.2.2 rfl hr
    hown] at hexec
  exact hexec

theorem dispatchOrder_station {x : Telegram} (hall : x.dst ≠ allNodes) (hst : s.bank.stationOf x.dst = some i) :
    s.dispatchOrder x = s.takeOrder i x := by
  unfold dispatchOrder
  rw [if_neg hall, hst]

/-! ### Judgement reads the stations, the slot and the settings alone -/

/-- Two states that the screen judges alike: they agree in all but the list of held orders and the ports. -/
structure judgedAlike (s t : State) : Prop where
  frame : s.onlyChanges [.screen, .out] t
  slot : t.screen.slot = s.screen.slot

/-- A state that differs in the screen and the ports only. -/
theorem onlyChanges.eq_screen_out (h : s.onlyChanges [.screen, .out] t) : t = { s with screen := t.screen, out := t.out } := by
  have hpending := h.pending (by decide)
  have hmode := h.mode (by decide)
  have hsession := h.sessionOpen (by decide)
  have hnumber := h.sessionNumber (by decide)
  obtain ⟨hpowered, hsettle, hreload, hcause, hlatch⟩ := h .supply (by decide)
  have hclock := h.clock (by decide)
  have hfaults := h.faults (by decide)
  have hship := h.shipGroup (by decide)
  have hplan := h.planGroup (by decide)
  obtain ⟨hstore, hstate, hwriting, hunstored⟩ := h .store (by decide)
  obtain ⟨hpos, hat⟩ := h .scrub (by decide)
  have htanks := h.tanks (by decide)
  have hshore := h.shore (by decide)
  have hengine := h.engine (by decide)
  have htracker := h.tracker (by decide)
  have hpacing := h.pacing (by decide)
  have hstations := h.stations (by decide)
  have hreports := h.reports (by decide)
  obtain ⟨_, ⟨⟩, _, _, _, ⟨⟩, _, _, _, _, _, _, _, _⟩ := s
  obtain ⟨_, ⟨⟩, _, _, _, ⟨⟩, _, _, _, _, _, _, _, _⟩ := t
  dsimp only at *
  subst_vars
  rfl

/-- What the screen judges by: everything but the held orders, the dry runs and the ports. -/
theorem judge_of_slot (s : State) (held : List Held) (dry : Vector (Option Nat) 8) (tripped : Vector Bool 8) (out : Out)
    (i : Nat) (o : Order) :
    ({ s with screen := { held := held, slot := s.screen.slot, dryAt := dry, tripped := tripped }, out := out } : State).judge i o
      = s.judge i o := rfl

theorem judgedAlike.judge (h : s.judgedAlike t) (i : Nat) (o : Order) : t.judge i o = s.judge i o := by
  have hslot := h.slot
  rw [h.frame.eq_screen_out]
  generalize t.screen = x at hslot ⊢
  obtain ⟨held, slot, dry, tripped⟩ := x
  subst hslot
  exact judge_of_slot s held dry tripped t.out i o

theorem judgedAlike.of_out (h : s.onlyChanges [.out] t) : s.judgedAlike t :=
  ⟨h.mono (by decide), congrArg Screen.slot (h.screen (by decide))⟩

theorem judgedAlike.trans (h : s.judgedAlike t) (k : t.judgedAlike u) : s.judgedAlike u :=
  ⟨h.frame.trans k.frame, k.slot.trans h.slot⟩

theorem judgedAlike_supersedeHeld (s : State) (i : Nat) : s.judgedAlike (s.supersedeHeld i) :=
  ⟨supersedeHeld_only s i, supersedeHeld_slot s i⟩

theorem judgedAlike.clamps (h : s.judgedAlike t) (o : Order) : t.clamps o = s.clamps o := by
  unfold State.clamps
  rw [h.frame.mode (by decide), h.frame.activePlan (by decide)]

theorem judgedAlike.clamped (h : s.judgedAlike t) (o : Order) : t.clamped o = s.clamped o := by
  unfold State.clamped
  rw [h.clamps, h.frame.activePlan (by decide)]

/-! ### Taking an order (R133 to R135) -/

theorem takeOrder_unheld {x : Telegram} (hread : readOrder i x = some o) (hnone : s.heldOf i = none) :
    s.takeOrder i x = if s.stopTakesEffect i o then (s.screenOrder i o).reexamine else s.screenOrder i o := by
  have hsame : s.supersedeHeld i = s := by
    unfold supersedeHeld
    rw [hnone]
  unfold takeOrder
  rw [hread]
  dsimp only
  rw [hsame, hnone]
  rfl

theorem takeOrder_held {x : Telegram} (hread : readOrder i x = some o) {old : Held} (hold : s.heldOf i = some old) :
    s.takeOrder i x = ((s.supersedeHeld i).screenOrder i o).reexamine := by
  unfold takeOrder
  rw [hread]
  dsimp only
  rw [hold]
  rfl

theorem takeOrder_bad {x : Telegram} (hread : readOrder i x = none) : s.takeOrder i x = s.advise .badOrder i := by
  unfold takeOrder
  rw [hread]

theorem stopTakesEffect_of_judge (h : s.judge i o ≠ .forward) : s.stopTakesEffect i o = false := by
  simp [stopTakesEffect, h]

theorem stopTakesEffect_of_type (h : o.type ≠ .pumpStop) : s.stopTakesEffect i o = false := by
  simp [stopTakesEffect, h]

theorem screenOrder_refuse {why : RefuseReason} (h : s.judge i o = .refuse why) :
    s.screenOrder i o = s.refuseOrder i o why.code := by
  unfold screenOrder
  rw [h]

theorem screenOrder_keep {why : HoldReason} (h : s.judge i o = .keep why) :
    s.screenOrder i o = (s.adviseClamp i o).holdOrder i (s.clamped o) why := by
  unfold screenOrder
  rw [h]

theorem screenOrder_forward (h : s.judge i o = .forward) :
    s.screenOrder i o = (s.adviseClamp i o).forwardOrder i (s.clamped o) := by
  unfold screenOrder
  rw [h]

/-- The entry of an order that is held now (R144). -/
def heldAs (s : State) (i : Nat) (o : Order) (why : HoldReason) : Held :=
  { order := o, station := i, reason := why, arrival := s.now, deadline := s.now + s.bank.holdTimeout }

theorem holdOrder_room (h : s.screen.held.length < 16) (o : Order) (why : HoldReason) :
    (s.holdOrder i o why).screen = { s.screen with held := s.screen.held ++ [s.heldAs i o why] }
      ∧ s.onlyChanges [.screen, .out] (s.holdOrder i o why) := by
  have hroom : s.screen.held.length < heldCapacity := h
  unfold holdOrder
  rw [if_pos hroom]
  exact ⟨(syntheticAck_only _ _ _ _ _ _).screen (by decide), (only_screen s _).andThen (syntheticAck_only _ _ _ _ _ _)⟩

theorem holdOrder_full (h : 16 ≤ s.screen.held.length) (o : Order) (why : HoldReason) :
    s.holdOrder i o why = s.refuseOrder i o RefuseReason.heldListFull.code := if_neg (not_lt.2 h)

theorem held_adviseClamp (s : State) (i : Nat) (o : Order) : (s.adviseClamp i o).screen = s.screen :=
  (adviseClamp_only s i o).screen (by decide)

theorem clamped_console (s : State) (o : Order) : (s.clamped o).console = o.console ∧ (s.clamped o).seq = o.seq
    ∧ (s.clamped o).mode = o.mode ∧ (s.clamped o).type = o.type := by
  unfold clamped
  split <;> exact ⟨rfl, rfl, rfl, rfl⟩

theorem spares_adviseClamp {ps : List Port} (h : Out.heardBy s.bank ps .advisory) (i : Nat) (o : Order) :
    s.spares ps (s.adviseClamp i o) := by
  unfold adviseClamp
  split
  · exact spares_advise h _ _
  · exact .refl _ _

/-- A forwarded order with room in the field queue is offered; the sending moves the ports alone. -/
theorem forward_room (hroom : s.out.field.queue.length < 32) (i : Nat) (o : Order) :
    ∃ u, s.onlyChanges [.out] u
      ∧ (s.adviseClamp i o).forwardOrder i (s.clamped o) = u.orderOffered i (s.clamped o) (some o.console) := by
  have hfield : (s.adviseClamp i o).out.field = s.out.field :=
    (spares_adviseClamp (ps := [.console, .shore]) (Out.alertPorts.heardBy ⟨by decide, by decide⟩ _ _) i o).others .field
      (by decide)
  have hclamp := adviseClamp_only s i o
  generalize s.adviseClamp i o = a at *
  have hsend := send_only a .field (a.orderTelegram i (s.clamped o).console (s.clamped o))
  have hok : (a.send .field (a.orderTelegram i (s.clamped o).console (s.clamped o))).2 = true :=
    congrArg Prod.snd (offer_room (s := a) (p := .field)
      (show a.out.field.queue.length < 32 by rw [hfield]; exact hroom) _)
  refine ⟨_, hclamp.trans hsend, ?_⟩
  unfold forwardOrder
  dsimp only
  rw [if_pos hok, (s.clamped_console o).1]

/-- An offered order that is no stop: its station's record and the slot. -/
theorem offered_other (hi : i < 64) (ho : o.type ≠ .pumpStop) (c : Option Byte) :
    (s.orderOffered i o c).station i = { s.station i with
        outstanding := some (s.openedAs o.seq o.type o.mode o.speed c), forwarded := satSucc (s.station i).forwarded }
      ∧ (∀ j, j ≠ i → (s.orderOffered i o c).station j = s.station j)
      ∧ (o.type = .pumpStart → (s.orderOffered i o c).screen = { s.screen with
          slot := some { pump := i, mode := Order.startMode o, taken := s.now, deadline := s.now + s.bank.startLimit i } })
      ∧ (o.type ≠ .pumpStart → (s.orderOffered i o c).screen = s.screen) := by
  have hopened := station_openOutstanding (s := s) hi o.seq o.type o.mode o.speed c
  have hothers := fun j (hj : j ≠ i) => (orderActs.openOutstanding (s := s) (i := i) (stop := True) o.seq o.type o.mode o.speed c
    |>.others j hj).1
  have hscreen : (s.openOutstanding i o.seq o.type o.mode o.speed c).screen = s.screen := rfl
  have hnow : (s.openOutstanding i o.seq o.type o.mode o.speed c).now = s.now := rfl
  have hbank : (s.openOutstanding i o.seq o.type o.mode o.speed c).bank = s.bank := rfl
  rw [orderOffered_other ho]
  generalize s.openOutstanding i o.seq o.type o.mode o.speed c = u at *
  split
  next hstart =>
    have htake := (takeSlot_only u i (Order.startMode o)).station (by decide)
    refine ⟨(htake i).trans hopened, fun j hj => (htake j).trans (hothers j hj), fun _ => ?_, fun h => absurd hstart h⟩
    unfold takeSlot
    rw [(clearFault_only _ .pumpStartFailed i).screen (by decide), ← hscreen, ← hnow, ← hbank]
  next hstart => exact ⟨hopened, hothers, fun h => absurd h hstart, fun _ => hscreen⟩

end State

end Sys2Proof.Machine
end
section
/-! PROOFS. The outcome of an ORDER (R133 to R136, R143, R144, R148), settled by its judgement. -/

namespace Sys2Proof.Machine

namespace State
variable {s t u : State} {i j : Nat} {o : Order} {x : Telegram}

/-! ### A station without a held entry -/

/-- A list whose entries are, but for the reason, among another's holds no entry of a station that other has none of. -/
theorem orderActs.heldOf_none {stop : Prop} (h : s.orderActs i stop t) (hj : s.heldOf j = none) : t.heldOf j = none := by
  refine heldOf_none_iff.2 fun y hy hst => ?_
  obtain ⟨z, hz, hk⟩ := List.mem_map.1 (h.held.subset (List.mem_map_of_mem hy))
  have hst' : z.key.station = y.key.station := congrArg Held.station hk
  exact heldOf_none_iff.1 hj z hz (hst'.trans hst)

theorem takeOrder_refused {why : RefuseReason} (hi : i < 64) (hread : readOrder i x = some o) (hnone : s.heldOf i = none)
    (hj : s.judge i o = .refuse why) :
    (s.takeOrder i x).station i = { s.station i with refused := satSucc (s.station i).refused }
      ∧ (∀ j, j ≠ i → (s.takeOrder i x).station j = s.station j) ∧ s.onlyChanges [.stations, .out] (s.takeOrder i x) := by
  rw [takeOrder_unheld hread hnone, stopTakesEffect_of_judge (by simp [hj]), screenOrder_refuse hj]
  exact ⟨station_refuseOrder hi _ _, fun j hne => station_refuseOrder_other hne _ _, refuseOrder_only s i o _⟩

theorem takeOrder_kept {why : HoldReason} (hread : readOrder i x = some o) (hnone : s.heldOf i = none)
    (hj : s.judge i o = .keep why) (hroom : s.screen.held.length < 16) :
    (s.takeOrder i x).screen = { s.screen with held := s.screen.held ++ [s.heldAs i (s.clamped o) why] }
      ∧ s.onlyChanges [.screen, .out] (s.takeOrder i x) := by
  have hclamp := adviseClamp_only s i o
  have hscreen := held_adviseClamp s i o
  obtain ⟨hheld, hframe⟩ := holdOrder_room (s := s.adviseClamp i o) (i := i) (by rwa [hscreen]) (s.clamped o) why
  rw [takeOrder_unheld hread hnone, stopTakesEffect_of_judge (by simp [hj]), screenOrder_keep hj]
  refine ⟨hheld.trans ?_, (hclamp.andThen hframe).mono (by decide)⟩
  unfold heldAs
  rw [hscreen, hclamp.now (by decide), hclamp.bank (by decide)]

theorem takeOrder_keptFull {why : HoldReason} (hi : i < 64) (hread : readOrder i x = some o) (hnone : s.heldOf i = none)
    (hj : s.judge i o = .keep why) (hfull : 16 ≤ s.screen.held.length) :
    (s.takeOrder i x).station i = { s.station i with refused := satSucc (s.station i).refused }
      ∧ s.onlyChanges [.stations, .out] (s.takeOrder i x) := by
  have hclamp := adviseClamp_only s i o
  rw [takeOrder_unheld hread hnone, stopTakesEffect_of_judge (by simp [hj]), screenOrder_keep hj,
    holdOrder_full (by rwa [held_adviseClamp])]
  refine ⟨?_, (hclamp.andThen (refuseOrder_only _ i _ _)).mono (by decide)⟩
  rw [if_neg (by decide), station_refuseOrder hi, hclamp.station (by decide)]

/-- The outstanding order that an order becomes when it is forwarded now, its setpoint clamped (R124, R137). -/
def sentAs (s : State) (o : Order) : Outstanding :=
  s.openedAs o.seq o.type o.mode (s.clamped o).speed (some o.console)

theorem openedAs_sent (h : s.onlyChanges [.out] u) (o : Order) :
    u.openedAs (s.clamped o).seq (s.clamped o).type (s.clamped o).mode (s.clamped o).speed (some o.console) = s.sentAs o := by
  obtain ⟨_, hseq, hmode, htype⟩ := s.clamped_console o
  unfold sentAs openedAs
  rw [h.now (by decide), h.bank (by decide), hseq, hmode, htype]

theorem takeOrder_forwarded (hi : i < 64) (hread : readOrder i x = some o) (hnone : s.heldOf i = none)
    (hj : s.judge i o = .forward) (hroom : s.out.field.queue.length < 32) (ho : o.type ≠ .pumpStop) :
    (s.takeOrder i x).station i
        = { s.station i with outstanding := some (s.sentAs o), forwarded := satSucc (s.station i).forwarded }
      ∧ (∀ j, j ≠ i → (s.takeOrder i x).station j = s.station j)
      ∧ (o.type = .pumpStart → (s.takeOrder i x).screen = { s.screen with
          slot := some { pump := i, mode := Order.startMode o, taken := s.now, deadline := s.now + s.bank.startLimit i } })
      ∧ (o.type ≠ .pumpStart → (s.takeOrder i x).screen = s.screen) := by
  obtain ⟨u, hu, hforward⟩ := forward_room hroom i o
  obtain ⟨_, _, hmode, htype⟩ := s.clamped_console o
  rw [takeOrder_unheld hread hnone, stopTakesEffect_of_type ho, screenOrder_forward hj, hforward]
  obtain ⟨hsame, hothers, hstart, hother⟩ := offered_other (s := u) hi (o := s.clamped o) (by rwa [htype]) (some o.console)
  have hst := hu.station (by decide)
  have hscreen := hu.screen (by decide)
  refine ⟨hsame.trans ?_, fun j hne => (hothers j hne).trans (hst j), fun h => (hstart (htype.trans h)).trans ?_,
    fun h => (hother (by rwa [htype])).trans hscreen⟩
  · rw [openedAs_sent hu, hst]
  · have hm : Order.startMode (s.clamped o) = Order.startMode o := by
      unfold Order.startMode
      rw [hmode]
    rw [hscreen, hm, hu.now (by decide), hu.bank (by decide)]

/-- Whatever is re-examined after an order of a station without an entry leaves that station alone. -/
theorem takeOrder_rescreened (hread : readOrder i x = some o) (hnone : s.heldOf i = none) :
    (s.screenOrder i o).rescreened (s.takeOrder i x) := by
  rw [takeOrder_unheld hread hnone]
  split
  · exact rescreened_reexamine _
  · exact .refl _

/-- A stop that is offered closes the order that was outstanding as SUPERSEDED (R128). -/
theorem stop_supersedes (hi : i < 64) (ho : o.type = .pumpStop) (c : Option Byte) (h : (s.station i).outstanding.isSome) :
    ((s.orderOffered i o c).station i).lastClosing = some .superseded := by
  obtain ⟨y, hy⟩ := Option.isSome_iff_exists.1 h
  rw [orderOffered_stop ho, station_openOutstanding hi]
  change (((s.supersedeOutstanding i).freeSlotOf i).station i).lastClosing = _
  rw [(freeSlotOf_only _ i).station (by decide)]
  unfold supersedeOutstanding
  rw [hy]
  dsimp only
  rw [(answerOutstanding_only _ _ _ _).station (by decide), station_closeOutstanding hi]

theorem takeOrder_stopped (hi : i < 64) (hread : readOrder i x = some o) (hnone : s.heldOf i = none)
    (hj : s.judge i o = .forward) (hroom : s.out.field.queue.length < 32) (ho : o.type = .pumpStop) :
    ((s.takeOrder i x).station i).outstanding = some (s.sentAs o) ∧ (s.takeOrder i x).holdsSlot i = false
      ∧ ((s.station i).outstanding.isSome → ((s.takeOrder i x).station i).lastClosing = some .superseded) := by
  obtain ⟨u, hu, hforward⟩ := forward_room hroom i o
  obtain ⟨_, _, hmode, htype⟩ := s.clamped_console o
  have hstop := htype.trans ho
  have hst := hu.station (by decide)
  have hscreened := takeOrder_rescreened hread hnone
  rw [screenOrder_forward hj, hforward] at hscreened
  have hacts := orderActs.orderOffered (s := u) (i := i) (stop := True) (s.clamped o) (some o.console) fun _ => trivial
  have hgone := hacts.heldOf_none (j := i) ((heldOf_of_held (congrArg Screen.held (hu.screen (by decide))) i).trans hnone)
  obtain ⟨hsame, hslot⟩ := hscreened.unheld i hgone
  obtain ⟨hout, hfree⟩ := stop_offered (s := u) hi hstop (some o.console)
  rw [hsame]
  refine ⟨hout.trans ?_, hslot hfree, fun h => stop_supersedes hi hstop _ (by rwa [hst])⟩
  rw [← openedAs_sent hu, hstop]

/-! ### Ports that go on sending -/

/-- All the ports. -/
abbrev allPorts : List Port := [.console, .field, .shore]

theorem heardBy_allPorts (b : ShipBank) (v : Severity) : Out.heardBy b allPorts v :=
  Out.alertPorts.heardBy ⟨by decide, by decide⟩ b v

theorem goesOn_send (s : State) (p : Port) (x : Telegram) : s.spares allPorts (s.send p x).1 :=
  spares_send (heardBy_allPorts _ _) (by cases p <;> decide) x

theorem goesOn_syntheticAck (s : State) (c q st : Byte) (n r : Nat) : s.spares allPorts (s.syntheticAck c q st n r) :=
  goesOn_send s _ _

theorem goesOn_clearFault (s : State) (k : FaultKind) (x : Nat) : s.spares allPorts (s.clearFault k x) :=
  spares_clearFault ⟨by decide, by decide⟩ s k x

theorem goesOn_adviseClamp (s : State) (i : Nat) (o : Order) : s.spares allPorts (s.adviseClamp i o) :=
  spares_adviseClamp (heardBy_allPorts _ _) i o

theorem goesOn_orderOffered (s : State) (i : Nat) (o : Order) (c : Option Byte) : s.spares allPorts (s.orderOffered i o c) := by
  have hsuper : s.spares allPorts (s.supersedeOutstanding i) := by
    unfold supersedeOutstanding
    split
    next y _ =>
      refine ((closeOutstanding_only s i y .superseded).spares allPorts).trans ?_
      unfold answerOutstanding
      split
      · exact goesOn_syntheticAck _ _ _ _ _ _
      · exact .refl _ _
    · exact .refl _ _
  have hopen := fun u : State => (openOutstanding_only u i o.seq o.type o.mode o.speed c).spares allPorts
  by_cases ho : o.type = .pumpStop
  · rw [orderOffered_stop ho, ← ho]
    exact (hsuper.trans ((freeSlotOf_only _ i).spares allPorts)).trans (hopen _)
  · rw [orderOffered_other ho]
    split
    · exact (hopen s).trans (((only_screen _ _).spares allPorts).trans (goesOn_clearFault _ _ _))
    · exact hopen s

theorem goesOn_forwardOrder (s : State) (i : Nat) (o : Order) : s.spares allPorts (s.forwardOrder i o) := by
  unfold forwardOrder
  dsimp only
  split
  · exact (goesOn_send s _ _).trans (goesOn_orderOffered _ i o _)
  · exact (goesOn_send s _ _).trans (goesOn_syntheticAck _ _ _ _ _ _)

theorem goesOn_refuseOrder (s : State) (i : Nat) (o : Order) (c : Nat) : s.spares allPorts (s.refuseOrder i o c) :=
  ((modStation_only s i fun r => { r with refused := satSucc r.refused }).spares allPorts).trans
    (goesOn_syntheticAck _ _ _ _ _ _)

theorem goesOn_holdOrder (s : State) (i : Nat) (o : Order) (why : HoldReason) : s.spares allPorts (s.holdOrder i o why) := by
  unfold holdOrder
  split
  · exact ((only_screen s _).spares allPorts).trans (goesOn_syntheticAck _ _ _ _ _ _)
  · exact goesOn_refuseOrder s i o _

theorem goesOn_screenOrder (s : State) (i : Nat) (o : Order) : s.spares allPorts (s.screenOrder i o) := by
  unfold screenOrder
  split
  · exact goesOn_refuseOrder s i o _
  · exact (goesOn_adviseClamp s i o).trans (goesOn_holdOrder _ i _ _)
  · exact (goesOn_adviseClamp s i o).trans (goesOn_forwardOrder _ i _)

theorem goesOn_scanEntry (s : State) (h : Held) : s.spares allPorts (s.scanEntry h).1 := by
  unfold scanEntry
  split
  · exact ((dropHeld_only s _).spares allPorts).trans (goesOn_refuseOrder _ _ _ _)
  · exact (updateHeld_only s _ _).spares allPorts
  · exact ((goesOn_adviseClamp s _ _).trans ((dropHeld_only _ _).spares allPorts)).trans (goesOn_forwardOrder _ _ _)

theorem goesOn_scan (s : State) : s.spares allPorts s.scan.1 := by
  have key : ∀ (hs : List Held) (a : State × Bool), s.spares allPorts a.1 →
      s.spares allPorts (hs.foldl (fun a h => let r := a.1.scanEntry h; (r.1, a.2 || r.2)) a).1 := by
    intro hs
    induction hs with
    | nil => exact fun _ ha => ha
    | cons h hs ih => exact fun a ha => ih _ (ha.trans (goesOn_scanEntry a.1 h))
  exact key _ (s, false) (.refl _ _)

theorem goesOn_reexamine (s : State) : s.spares allPorts s.reexamine := by
  have h : ∀ (n : Nat) (u : State), u.spares allPorts (reexamineFrom n u) := fun n => by
    induction n with
    | zero => exact fun u => .refl _ _
    | succ n ih =>
      intro u
      unfold reexamineFrom
      split
      · exact (goesOn_scan u).trans (ih _)
      · exact goesOn_scan u
  exact h _ s

/-- A synthetic ACK at an idle console port is transmitted at once. -/
theorem sending_syntheticAck (h : s.consoleIdle) (c q st : Byte) (n r : Nat) :
    (s.syntheticAck c q st n r).out.console.sending = some (s.ackEntry c st q n r) := by
  unfold syntheticAck send
  rw [offer_idle (p := .console) h]
  rfl

/-! ### A station with a held entry (R135) -/

/-- A superseded entry is answered at an idle console port (R135). -/
theorem sending_supersedeHeld (h : s.consoleIdle) {old : Held} (hold : s.heldOf i = some old) :
    (s.supersedeHeld i).out.console.sending
      = some (s.ackEntry old.order.console (s.boundAddress i) old.order.seq 18 0) := by
  unfold supersedeHeld
  rw [hold]
  exact sending_syntheticAck (s := s.dropHeld i) h _ _ _ _ _

theorem field_supersedeHeld (s : State) (i : Nat) : (s.supersedeHeld i).out.field = s.out.field := by
  unfold supersedeHeld
  split
  · exact (spares_syntheticAck (s := s.dropHeld i) (ps := [.console, .shore]) (Out.alertPorts.heardBy ⟨by decide, by decide⟩ _ _)
      (by decide) _ _ _ _ _).others .field (by decide)
  · rfl

/-- The entry an order leaves for its station is its own. -/
theorem held_screenOrder (hnone : s.heldOf i = none) {y : Held} (hy : y ∈ (s.screenOrder i o).screen.held)
    (hst : y.station = i) :
    y.order = s.clamped o ∧ y.arrival = s.now ∧ y.deadline = s.now + s.bank.holdTimeout := by
  have absent {u : State} (hu : u.heldOf i = none) (hyu : y ∈ u.screen.held) : False := heldOf_none_iff.1 hu y hyu hst
  cases hj : s.judge i o with
  | refuse why =>
    rw [screenOrder_refuse hj, screen_refuseOrder] at hy
    exact (absent hnone hy).elim
  | keep why =>
    have hclamp := adviseClamp_only s i o
    have hscreen := held_adviseClamp s i o
    rw [screenOrder_keep hj] at hy
    by_cases hroom : s.screen.held.length < 16
    · rw [(holdOrder_room (s := s.adviseClamp i o) (i := i) (by rwa [hscreen]) (s.clamped o) why).1, hscreen] at hy
      obtain hin | hnew := List.mem_append.1 hy
      · exact (absent hnone hin).elim
      · rw [List.mem_singleton.1 hnew]
        exact ⟨rfl, hclamp.now (by decide), by
          show (s.adviseClamp i o).now + (s.adviseClamp i o).bank.holdTimeout = _
          rw [hclamp.now (by decide), hclamp.bank (by decide)]⟩
    · rw [holdOrder_full (by rw [hscreen]; omega), screen_refuseOrder, hscreen] at hy
      exact (absent hnone hy).elim
  | forward =>
    rw [screenOrder_forward hj] at hy
    have hacts := (orderActs.of_only (i := i) (stop := True) (adviseClamp_only s i o) (by decide)).trans
      (orderActs.forwardOrder (s.clamped o) fun _ => trivial)
    exact (absent (hacts.heldOf_none hnone) hy).elim

/-- The judgement of an order is that of the order with its setpoint clamped: only LOADING clamps, and only SAFE looks
at a setpoint. -/
theorem judge_clamped (s : State) (i : Nat) (o : Order) : s.judge i (s.clamped o) = s.judge i o := by
  unfold clamped
  split
  next hc =>
    have hsafe : s.sys.mode ≠ .safe := fun h => by simp [clamps, h] at hc
    have hrefusal : s.refusal i { o with speed := byteOf s.plan.maxSpeed 0 } = s.refusal i o := by
      unfold refusal
      simp only [hsafe, false_and, if_false]
    unfold judge
    rw [hrefusal]
    rfl
  · rfl

/-- A single entry that is kept for the same reason stays as it is. -/
theorem reexamine_single {h : Held} (hh : s.screen.held = [h]) (hj : s.judge h.station h.order = .keep h.reason) :
    s.reexamine.screen.held = [h] := by
  have hentry : s.scanEntry h = (s.updateHeld h.station h.reason, false) := by
    unfold scanEntry
    rw [hj]
  have hscan : s.scan = (s.updateHeld h.station h.reason, false) := by
    unfold scan
    rw [hh, List.foldl_cons, List.foldl_nil, hentry]
    rfl
  unfold reexamine
  rw [hh]
  unfold reexamineFrom
  rw [hscan]
  unfold updateHeld
  rw [if_neg Bool.false_ne_true, hh]
  simp

end State

end Sys2Proof.Machine
end
section
/-! PROOFS. The outcome of an ORDER for a station with a held entry, at a full field queue, and with bad content (R133,
R135, R143). -/

namespace Sys2Proof.Machine

namespace State
variable {s t u : State} {i j : Nat} {o : Order} {x : Telegram}

theorem stationOf_lt {a : Byte} (h : s.bank.stationOf a = some i) : i < 64 := lt_of_stationOf h

/-- An order that is offered is outstanding. -/
theorem offered_outstanding (hi : i < 64) (o : Order) (c : Option Byte) :
    ((s.orderOffered i o c).station i).outstanding = some (s.openedAs o.seq o.type o.mode o.speed c) := by
  by_cases ho : o.type = .pumpStop
  · rw [(stop_offered hi ho c).1, ho]
  · rw [(offered_other hi ho c).1]

/-- The outstanding order of a console's ORDER that was read. -/
theorem sentAs_read {dst src seq ty m v : Byte} (h : readOrder i (consoleOrderTelegram dst src seq ty m v) = some o) :
    s.sentAs o = ⟨seq, o.type, m, (s.clamped o).speed, some src, s.now, s.now + s.bank.ackTimeout⟩ := by
  obtain ⟨hseq, hmode, hcons, _⟩ := readOrder_fields h
  unfold sentAs openedAs
  rw [hseq, hmode, hcons]

/-- The list without the entry of its only station. -/
theorem held_supersedeHeld {old : Held} (hheld : s.screen.held = [old]) (hold : s.heldOf i = some old) :
    (s.supersedeHeld i).screen.held = [] := by
  have hst : old.station = i := by simpa using List.find?_some hold
  unfold supersedeHeld
  rw [hold]
  dsimp only
  rw [(syntheticAck_only _ _ _ _ _ _).screen (by decide)]
  unfold dropHeld
  rw [hheld]
  simp [hst]

/-- An order for a station with a held entry: the entry is answered SUPERSEDED and leaves the list whatever the order
becomes (R135). -/
theorem takeOrder_superseding (hi : i < 64) (hread : readOrder i x = some o) {old : Held} (hold : s.heldOf i = some old)
    (hidle : s.consoleIdle) :
    (s.takeOrder i x).out.console.sending
        = some (s.ackEntry old.order.console (s.boundAddress i) old.order.seq 18 0)
      ∧ (∀ y, (s.takeOrder i x).heldOf i = some y →
          y.order = s.clamped o ∧ y.arrival = s.now ∧ y.deadline = s.now + s.bank.holdTimeout)
      ∧ (∀ why, s.judge i o = .refuse why → (s.takeOrder i x).heldOf i = none
          ∧ ((s.takeOrder i x).station i).refused = satSucc (s.station i).refused
          ∧ ((s.takeOrder i x).station i).outstanding = (s.station i).outstanding)
      ∧ (∀ why, s.judge i o = .keep why → s.screen.held = [old] →
          (s.takeOrder i x).screen.held = [s.heldAs i (s.clamped o) why])
      ∧ (s.judge i o = .forward → s.out.field.queue.length < 32 → (s.takeOrder i x).heldOf i = none
          ∧ ((s.takeOrder i x).station i).outstanding = some (s.sentAs o)) := by
  have halike := judgedAlike_supersedeHeld s i
  have hsuper := supersedeHeld_only s i
  have hgone := heldOf_supersedeHeld s i
  have hanswer := sending_supersedeHeld hidle hold
  have hfield := field_supersedeHeld s i
  have hempty := fun h => held_supersedeHeld (s := s) (i := i) h hold
  rw [takeOrder_held hread hold]
  generalize s.supersedeHeld i = a at *
  have hnow : a.now = s.now := hsuper.now (by decide)
  have hbank : a.bank = s.bank := hsuper.bank (by decide)
  have hst := hsuper.station (by decide)
  have hjudge := halike.judge i o
  have hclamped := halike.clamped o
  have hscreened := rescreened_reexamine (a.screenOrder i o)
  refine ⟨?_, fun y hy => ?_, fun why hj => ?_, fun why hj hheld => ?_, fun hj hroom => ?_⟩
  · exact ((goesOn_screenOrder a i o).trans (goesOn_reexamine _)).sending .console _ hanswer
  · obtain ⟨z, hz, hkey⟩ := hscreened.mem (List.mem_of_find?_eq_some hy)
    have hyst : y.station = i := by simpa using List.find?_some hy
    have hfields : z.key.order = y.key.order ∧ z.key.station = y.key.station ∧ z.key.arrival = y.key.arrival
        ∧ z.key.deadline = y.key.deadline := by rw [hkey]; exact ⟨rfl, rfl, rfl, rfl⟩
    obtain ⟨horder, hstation, harrival, hdeadline⟩ := hfields
    obtain ⟨h1, h2, h3⟩ := held_screenOrder hgone hz (hstation.trans hyst)
    exact ⟨(horder.symm.trans h1).trans hclamped, (harrival.symm.trans h2).trans hnow,
      (hdeadline.symm.trans h3).trans (by rw [hnow, hbank])⟩
  · have hb := screenOrder_refuse (hjudge.trans hj)
    have hnone : (a.screenOrder i o).heldOf i = none := by
      rw [hb, heldOf_of_held (congrArg Screen.held (screen_refuseOrder a i o why.code)), hgone]
    refine ⟨hscreened.heldOf_none hnone, ?_⟩
    rw [(hscreened.unheld i hnone).1, hb, station_refuseOrder hi, hst]
    exact ⟨rfl, rfl⟩
  · have hclamp := adviseClamp_only a i o
    have hscreen := held_adviseClamp a i o
    have hroom : (a.adviseClamp i o).screen.held.length < 16 := by
      rw [hscreen, hempty hheld]
      decide
    obtain ⟨hlist, hframe⟩ := holdOrder_room (i := i) hroom (a.clamped o) why
    have hentry : (a.adviseClamp i o).heldAs i (a.clamped o) why = s.heldAs i (s.clamped o) why := by
      unfold heldAs
      rw [hclamp.now (by decide), hclamp.bank (by decide), hnow, hbank, hclamped]
    rw [hscreen, hempty hheld, hentry] at hlist
    have hb := screenOrder_keep (hjudge.trans hj)
    rw [hb]
    have hkept := (halike.trans (.of_out hclamp)).trans ⟨hframe, by rw [hlist, hscreen]⟩
    refine reexamine_single (congrArg Screen.held hlist) ?_
    exact ((hkept.judge i (s.clamped o)).trans (judge_clamped s i o)).trans hj
  · obtain ⟨u, hu, hforward⟩ := forward_room (s := a) (by rwa [hfield]) i o
    have hb := (screenOrder_forward (hjudge.trans hj)).trans hforward
    have hacts := orderActs.orderOffered (s := u) (i := i) (stop := True) (a.clamped o) (some o.console) fun _ => trivial
    have hnone : (a.screenOrder i o).heldOf i = none := by
      rw [hb]
      exact hacts.heldOf_none ((heldOf_of_held (congrArg Screen.held (hu.screen (by decide))) i).trans hgone)
    refine ⟨hscreened.heldOf_none hnone, ?_⟩
    have hsent : a.sentAs o = s.sentAs o := by
      unfold sentAs openedAs
      rw [hclamped, hnow, hbank]
    rw [(hscreened.unheld i hnone).1, hb, offered_outstanding hi, openedAs_sent hu, hsent]

/-! ### A full field queue (R143) -/

/-- With no ALERT of a severity for the console its port is not concerned. -/
theorem heardBy_quiet {b : ShipBank} {ps : List Port} {v : Severity} (h : b.alertConsole v = false) (hp : Port.shore ∈ ps) :
    Out.heardBy b ps v := ⟨fun hc => absurd hc (by simp [h]), fun _ => hp⟩

/-- An order that finds no place is answered QUEUE_FULL, and nothing but the ports changes. -/
theorem takeOrder_full (hread : readOrder i x = some o) (hnone : s.heldOf i = none) (hfull : s.fieldFull)
    (hj : s.judge i o = .forward) :
    (s.takeOrder i x).out.field.queue = s.out.field.queue
      ∧ nth (s.takeOrder i x).out.field.queueDrops (s.bank.classOf 0x41) 0
          = satSucc (nth s.out.field.queueDrops (s.bank.classOf 0x41) 0)
      ∧ (s.consoleIdle → s.bank.alertConsole .advisory = false → (s.takeOrder i x).out.console.sending
          = some (s.ackEntry o.console (s.boundAddress i) o.seq 21 0))
      ∧ s.onlyChanges [.out] (s.takeOrder i x) := by
  have hsend := fun (u : State) (hu : u.fieldFull) (y : Order) =>
    offer_fieldFull (s := u) (e := { tel := u.orderTelegram i y.console y, cls := u.bank.classOf 0x41, resetReply := false }) hu rfl
  have hnostop : s.stopTakesEffect i o = false := by
    have h : (s.send .field (s.orderTelegram i o.console o)).2 = false := (hsend s hfull o).1
    unfold stopTakesEffect
    rw [h, Bool.and_false]
  rw [takeOrder_unheld hread hnone, hnostop, if_neg Bool.false_ne_true, screenOrder_forward hj]
  have hclamp := adviseClamp_only s i o
  have hboth : Out.heardBy s.bank [.console, .shore] .advisory := Out.alertPorts.heardBy ⟨by decide, by decide⟩ _ _
  have hfield : (s.adviseClamp i o).out.field = s.out.field := (spares_adviseClamp hboth i o).others .field (by decide)
  have hconsole : s.bank.alertConsole .advisory = false → (s.adviseClamp i o).out.console = s.out.console := fun h =>
    (spares_adviseClamp (ps := [.shore]) (heardBy_quiet h (by decide)) i o).others .console
      (by decide)
  obtain ⟨hcons, hseq, _, _⟩ := s.clamped_console o
  generalize s.clamped o = y at *
  generalize s.adviseClamp i o = a at *
  have hbank : a.bank = s.bank := hclamp.bank (by decide)
  have hafull : a.fieldFull := by
    unfold fieldFull
    rw [hfield, hbank]
    exact hfull
  obtain ⟨hok, hport⟩ := hsend a hafull y
  have hsent := send_only a .field (a.orderTelegram i y.console y)
  have hquiet : a.bank.alertConsole .advisory = false →
      (a.send .field (a.orderTelegram i y.console y)).1.out.console = a.out.console := fun h =>
    (spares_send (s := a) (ps := [.field, .shore]) (p := .field)
      (heardBy_quiet h (by decide)) (by decide) _).others .console (by decide)
  change (a.send .field (a.orderTelegram i y.console y)).2 = false at hok
  change (a.send .field (a.orderTelegram i y.console y)).1.out.field = _ at hport
  unfold forwardOrder
  dsimp only
  rw [if_neg (by rw [hok]; decide)]
  generalize (a.send .field (a.orderTelegram i y.console y)).1 = u at *
  have hubank : u.bank = s.bank := (hsent.bank (by decide)).trans hbank
  have hack : (u.syntheticAck y.console y.seq (a.boundAddress i) outcomeQueueFull 0).out.field = u.out.field :=
    (spares_syntheticAck (s := u) (ps := [.console, .shore]) (by rw [hubank]; exact hboth) (by decide) _ _ _ _ _).others .field
      (by decide)
  refine ⟨?_, ?_, fun hidle hno => ?_, (hclamp.trans hsent).trans (syntheticAck_only _ _ _ _ _ _)⟩
  · rw [hack, hport, hfield]
    rfl
  · rw [hack, hport, hfield, hbank]
    exact PortState.drops_countDrop _ _
  · have hidle' : u.consoleIdle := by
      unfold consoleIdle
      rw [hquiet (by rwa [hbank]), hconsole hno]
      exact hidle
    have haddr : a.boundAddress i = s.boundAddress i := by
      unfold boundAddress
      rw [hclamp.station (by decide)]
    rw [sending_syntheticAck hidle', hcons, hseq, haddr]
    unfold ackEntry
    rw [hubank]
    rfl

/-! ### Bad content (R133) -/

/-- BAD_ORDER is counted, and no console is answered. -/
theorem advise_badOrder (s : State) (n : Nat) :
    (s.advise .badOrder n).out.advised .badOrder = satSucc (s.out.advised .badOrder)
      ∧ (s.consoleIdle → s.bank.alertConsole .advisory = false → (s.advise .badOrder n).out.console.sending = none)
      ∧ s.onlyChanges [.out] (s.advise .badOrder n) := by
  refine ⟨advised_advise s n (by decide), fun hidle hno => ?_, advise_only s _ n⟩
  have h : (s.advise .badOrder n).out.console = s.out.console :=
    (spares_advise (s := s) (ps := [.shore]) (heardBy_quiet hno (by decide)) .badOrder n).others
      .console (by decide)
  rw [h]
  exact hidle.2

theorem readOrder_bad {dst src seq ty m v : Byte}
    (h : ty = 0 ∨ 5 < ty ∨ i < 8 ∧ 3 < ty ∨ 8 ≤ i ∧ ty < 4 ∨ ty = 1 ∧ 1 < m ∨ (ty = 1 ∨ ty = 3) ∧ 100 < v) :
    readOrder i (consoleOrderTelegram dst src seq ty m v) = none := by
  have htype : fieldAt (consoleOrderTelegram dst src seq ty m v).payload 0 1 = ty.toNat := beNat_singleton ty
  have hmode : byteAt (consoleOrderTelegram dst src seq ty m v).payload 1 = m := rfl
  have hspeed : byteAt (consoleOrderTelegram dst src seq ty m v).payload 2 = v := rfl
  simp only [BitVec.lt_def, BitVec.toNat_eq, show (0 : Byte).toNat = 0 from rfl, show (1 : Byte).toNat = 1 from rfl,
    show (3 : Byte).toNat = 3 from rfl, show (4 : Byte).toNat = 4 from rfl, show (5 : Byte).toNat = 5 from rfl,
    show (100 : Byte).toNat = 100 from rfl] at h
  unfold readOrder
  dsimp only
  rw [htype, hmode, hspeed]
  unfold orderTypeOf
  split_ifs
  case pos | pos | pos | pos | pos =>
    refine if_neg ?_
    rintro ⟨hpump, hm, hv⟩
    simp [OrderType.forPump] at hpump hm hv
    omega
  case neg => rfl

end State

/-- Settles O32: the four ways of an ORDER, each by its judgement. -/
theorem orderHasTheOutcomeOfItsJudgement : Obligations.OrderHasTheOutcomeOfItsJudgement := by
  refine ⟨fun s dst src seq ty m v i h hsrc hr h0 hall hown hst hnone o hread => ?_,
    fun s dst src seq ty m v i old h hsrc hr h0 hall hown hst hheld hold hidle o hread => ?_,
    fun s dst src seq ty m v i h hsrc hr h0 hall hown hst hnone hfull o hread hj => ?_,
    fun s dst src seq ty m v h hsrc hr h0 hown hbad => ?_⟩
  · have hi := State.lt_of_stationOf hst
    have hexec := State.exec_order (ty := ty) (m := m) (v := v) (seq := seq) h hsrc hr h0 hown
    rw [State.dispatchOrder_station (s := s.countAccepted .console) (x := consoleOrderTelegram dst src seq ty m v) hall hst]
      at hexec
    have hcount := State.countAccepted_only s .console
    obtain ⟨hseq, hmode, hcons, hstart⟩ := State.readOrder_fields hread
    have hsent := State.sentAs_read (s := s.countAccepted .console) hread
    refine ⟨fun why hj => ?_, fun why hj hroom => ?_, fun why hj hfull => ?_, fun hj hroom ho => ?_, fun hj hroom ho => ?_⟩
    · obtain ⟨hsame, hothers, honly⟩ := State.takeOrder_refused (s := s.countAccepted .console) hi hread hnone hj
      exact ⟨_, hexec, hsame, hothers, (hcount.andThen honly).mono (by decide)⟩
    · obtain ⟨hscreen, honly⟩ := State.takeOrder_kept (s := s.countAccepted .console) hread hnone hj hroom
      exact ⟨_, hexec, hscreen, (hcount.andThen honly).mono (by decide)⟩
    · obtain ⟨hsame, honly⟩ := State.takeOrder_keptFull (s := s.countAccepted .console) hi hread hnone hj hfull
      exact ⟨_, hexec, hsame, (hcount.andThen honly).mono (by decide)⟩
    · obtain ⟨hsame, hothers, hslot, hother⟩ :=
        State.takeOrder_forwarded (s := s.countAccepted .console) hi hread hnone hj hroom ho
      refine ⟨_, hexec, hsame.trans (by rw [hsent]; rfl), hothers, fun hs => ?_, hother,
        (hcount.andThen (State.takeOrder_only _ i _)).mono (by decide)⟩
      rw [hslot hs, State.startMode_eq hmode (hstart hs)]
      rfl
    · obtain ⟨hout, hfree, hclosing⟩ := State.takeOrder_stopped (s := s.countAccepted .console) hi hread hnone hj hroom ho
      exact ⟨_, hexec, hout.trans (by rw [hsent]; rfl), hfree, fun hr _ => hclosing hr,
        (hcount.andThen (State.takeOrder_only _ i _)).mono (by decide)⟩
  · have hi := State.lt_of_stationOf hst
    have hexec := State.exec_order (ty := ty) (m := m) (v := v) (seq := seq) h hsrc hr h0 hown
    rw [State.dispatchOrder_station (s := s.countAccepted .console) (x := consoleOrderTelegram dst src seq ty m v) hall hst]
      at hexec
    obtain ⟨hseq, hmode, hcons, _⟩ := State.readOrder_fields hread
    obtain ⟨hanswer, hentry, hrefuse, hkeep, hforward⟩ :=
      State.takeOrder_superseding (s := s.countAccepted .console) hi hread hold hidle
    have hsent := State.sentAs_read (s := s.countAccepted .console) hread
    refine ⟨_, hexec, hanswer, hentry, hrefuse, hkeep, fun hj hroom => ?_,
      ((State.countAccepted_only s .console).andThen (State.takeOrder_only _ i _)).mono (by decide)⟩
    obtain ⟨hgone, hout⟩ := hforward hj hroom
    exact ⟨hgone, hout.trans (by rw [hsent]; rfl)⟩
  · have hexec := State.exec_order (ty := ty) (m := m) (v := v) (seq := seq) h hsrc hr h0 hown
    rw [State.dispatchOrder_station (s := s.countAccepted .console) (x := consoleOrderTelegram dst src seq ty m v) hall hst]
      at hexec
    obtain ⟨hseq, _, hcons, _⟩ := State.readOrder_fields hread
    obtain ⟨hqueue, hdrops, hanswer, honly⟩ := State.takeOrder_full (s := s.countAccepted .console) hread hnone hfull hj
    refine ⟨_, hexec, hqueue, hdrops, fun hidle hno => ?_, (State.countAccepted_only s .console).trans honly⟩
    rw [hanswer hidle hno, hseq, hcons]
    rfl
  · have hexec := State.exec_order (ty := ty) (m := m) (v := v) (seq := seq) h hsrc hr h0 hown
    have hbadOrder : ∃ n, (s.countAccepted .console).dispatchOrder (consoleOrderTelegram dst src seq ty m v)
        = (s.countAccepted .console).advise .badOrder n := by
      obtain hall | ⟨i, hst, hcontent⟩ := hbad
      · exact ⟨_, if_pos hall⟩
      · by_cases hall : dst = allNodes
        · exact ⟨_, if_pos hall⟩
        · exact ⟨i, (State.dispatchOrder_station (s := s.countAccepted .console)
            (x := consoleOrderTelegram dst src seq ty m v) hall hst).trans
            (State.takeOrder_bad (State.readOrder_bad hcontent))⟩
    obtain ⟨n, hn⟩ := hbadOrder
    rw [hn] at hexec
    obtain ⟨hcounted, hquiet, honly⟩ := (s.countAccepted .console).advise_badOrder n
    exact ⟨_, hexec, hcounted.trans (congrArg satSucc (State.advised_countAccepted s .console .badOrder)), hquiet,
      (State.countAccepted_only s .console).trans honly⟩

end Sys2Proof.Machine
end
section
/-! PROOFS. Acceptance and the route table (R99 to R106): which frames are bad, which telegrams come from a foreign source,
and where the others go. -/

namespace Sys2Proof.Machine

/-! ### Acceptance (R99) -/

/-- A frame that is read is the frame of what is read. -/
theorem frame_of_parseFrame {bs : List Byte} {t : Telegram} (h : parseFrame bs = some t) :
    bs = t.frame ∧ t.payload.length ≤ 56 := by
  unfold parseFrame at h
  split at h
  next dst src kind seq len rest =>
    dsimp only at h
    split at h
    next hok =>
      obtain ⟨hlen, hrest, hcheck⟩ := hok
      have htake : (rest.take len.toNat).length = len.toNat := by rw [List.length_take]; omega
      have hbyte : byteOf len.toNat 0 = len := by simp [byteOf]
      obtain rfl := Option.some.inj h
      refine ⟨?_, htake.trans_le hlen⟩
      simp only [Telegram.frame, Telegram.header, Telegram.check, htake, hbyte, List.cons_append, List.nil_append]
      rw [← hcheck, List.take_append_drop]
    · cases h
  · cases h

/-- Check 5 of acceptance says the lengths of Table 6-5. -/
theorem kindLengthOk_iff {k : Byte} {p : List Byte} (hl : p.length ≤ 56) : kindLengthOk k p = true ↔ ¬wrongLength k p := by
  unfold kindLengthOk wrongLength
  dsimp only [kindSounding, kindDraft, kindState, kindAck, kindOrder, kindMgmt, kindMreply, kindAlert, kindReport, kindPour,
    kindPause, kindResume]
  by_cases h1 : k = 33#8
  · subst h1; simp
  by_cases h2 : k = 34#8
  · subst h2; simp
  by_cases h3 : k = 35#8
  · subst h3; simp [Decidable.or_iff_not_imp_left]
  by_cases h4 : k = 36#8
  · subst h4; simp
  by_cases h5 : k = 65#8
  · subst h5; simp
  by_cases h6 : k = 81#8 ∨ k = 82#8 ∨ k = 83#8
  · obtain rfl | rfl | rfl := h6 <;> simp [Nat.one_le_iff_ne_zero, hl]
  by_cases h7 : k = 84#8
  · subst h7; simp [hl]
  by_cases h8 : k = 97#8
  · subst h8; simp
  by_cases h9 : k = 98#8
  · subst h9; simp
  by_cases h10 : k = 99#8
  · subst h10; simp
  simp [*]

theorem acceptable_iff {t : Telegram} (hl : t.payload.length ≤ 56) :
    t.acceptable = true ↔ t.src ≠ 0 ∧ t.src ≠ 255 ∧ t.dst ≠ 0 ∧ ¬wrongLength t.kind t.payload := by
  simp only [Telegram.acceptable, decide_eq_true hl, Bool.true_and, Bool.and_eq_true, bne_iff_ne, kindLengthOk_iff hl]
  tauto

theorem Telegram.admitted.acceptable {t : Telegram} (h : t.admitted) : t.acceptable = true := (acceptable_iff h.1).2 h.2

/-! The fields of a frame at the places where the checks of R99 read them. -/

theorem length_frame (t : Telegram) : t.frame.length = t.payload.length + 7 := by
  simp [Telegram.frame, Telegram.header, enc2]

theorem lengthByte_frame {t : Telegram} (h : t.payload.length ≤ 56) : (byteAt t.frame 4).toNat = t.payload.length :=
  byteOf_toNat (by omega)

theorem checkWord_frame (t : Telegram) :
    beNat (t.frame.drop (t.frame.length - 2)) = (crc (t.frame.take (t.frame.length - 2))).toNat := by
  have hlen : t.frame.length - 2 = (t.header ++ t.payload).length := by
    rw [length_frame]; simp [Telegram.header]
  rw [hlen]
  unfold Telegram.frame
  rw [List.drop_left, List.take_left, beNat_enc2 t.check.isLt]
  rfl

theorem payload_frame (t : Telegram) : (t.frame.drop 5).take (t.frame.length - 7) = t.payload := by
  rw [length_frame]
  simp [Telegram.frame, Telegram.header]

namespace State
variable {s : State} {p : Port} {x : Telegram}

/-! ### Bad frames and foreign sources -/

theorem exec_receiveFrame (h : s.ready) (bs : List Byte) : exec (.frameReceive p bs) s = .next (s.receiveFrame p bs) :=
  exec_ready (f := (State.receiveFrame · p bs)) h rfl

/-- A frame that fails a check of acceptance. -/
theorem receiveFrame_bad (h : s.inCircuit) {bs : List Byte} (hbad : bs.length < 7 ∨ 63 < bs.length
      ∨ (byteAt bs 4).toNat + 7 ≠ bs.length ∨ beNat (bs.drop (bs.length - 2)) ≠ (crc (bs.take (bs.length - 2))).toNat
      ∨ byteAt bs 0 = 0 ∨ byteAt bs 1 = 0 ∨ byteAt bs 1 = 255
      ∨ wrongLength (byteAt bs 2) ((bs.drop 5).take (bs.length - 7))) :
    s.receiveFrame p bs = s.discardBad p := by
  unfold receiveFrame
  cases hread : parseFrame bs with
  | none => exact if_neg h.2
  | some t =>
    obtain ⟨rfl, hl⟩ := frame_of_parseFrame hread
    have hno : ¬t.acceptable = true := by
      rw [acceptable_iff hl]
      rintro ⟨h0, h255, hd, hw⟩
      rw [lengthByte_frame hl, payload_frame, length_frame] at hbad
      rcases hbad with hb | hb | hb | hb | hb | hb | hb | hb
      · omega
      · omega
      · exact hb rfl
      · exact hb (length_frame t ▸ checkWord_frame t)
      · exact hd hb
      · exact h0 hb
      · exact h255 hb
      · exact hw hb
    exact (if_neg h.2).trans (if_neg hno)

theorem port_modPort (s : State) (p : Port) (f : PortState → PortState) : (s.modPort p f).out.port p = f (s.out.port p) :=
  Out.port_setPort_same _ _ _

theorem discardBad_counts (s : State) (p : Port) :
    ((s.discardBad p).out.port p).badFrames = satSucc (s.out.port p).badFrames
      ∧ ((s.discardBad p).out.port p).accepted = (s.out.port p).accepted
      ∧ (s.discardBad p).out.advised .badCheck = satSucc (s.out.advised .badCheck) := by
  have hc := counters_advise (s.modPort p fun x => { x with badFrames := satSucc x.badFrames }) .badCheck (portCode p) p
  rw [port_modPort] at hc
  simp only [PortState.counters, List.cons.injEq] at hc
  obtain ⟨haccepted, hbad, -⟩ := hc
  refine ⟨hbad, haccepted, ?_⟩
  exact (advised_advise _ _ (by decide)).trans (congrArg satSucc (advised_modPort s p _ _))

/-- Whether R100 discards a telegram. -/
theorem foreign_iff (s : State) (p : Port) (x : Telegram) : s.foreign p x = true ↔ s.fromForeign p x := by
  unfold foreign fromForeign
  cases p <;> simp [kindOrder, kindMgmt, and_assoc]

theorem exec_arrival (h : s.inCircuit) (hx : x.admitted) :
    exec (.frameReceive p x.frame) s = .next ((s.countAccepted p).dispatch p x) := by
  rw [exec_receiveFrame h.1, receiveFrame_frame s p hx.1]
  exact congrArg _ ((if_neg h.2).trans (if_pos hx.acceptable))

theorem dispatch_foreign (h : s.fromForeign p x) : s.dispatch p x = s.discardForeign p :=
  if_pos ((foreign_iff s p x).2 h)

theorem discardForeign_counts (s : State) (p : Port) :
    ((s.discardForeign p).out.port p).accepted = (s.out.port p).accepted
      ∧ ((s.discardForeign p).out.port p).foreignSource = satSucc (s.out.port p).foreignSource
      ∧ (s.discardForeign p).out.advised .foreignSource = satSucc (s.out.advised .foreignSource) := by
  have hc := counters_advise (s.modPort p fun x => { x with foreignSource := satSucc x.foreignSource }) .foreignSource
    (portCode p) p
  rw [port_modPort] at hc
  simp only [PortState.counters, List.cons.injEq] at hc
  obtain ⟨haccepted, -, hforeign, -⟩ := hc
  refine ⟨haccepted, hforeign, ?_⟩
  exact (advised_advise _ _ (by decide)).trans (congrArg satSucc (advised_modPort s p _ _))

theorem foreignSource_countAccepted (s : State) (p : Port) :
    ((s.countAccepted p).out.port p).foreignSource = (s.out.port p).foreignSource := by
  rw [countAccepted, port_modPort]

theorem accepted_countAccepted (s : State) (p : Port) :
    ((s.countAccepted p).out.port p).accepted = satSucc (s.out.port p).accepted :=
  congrArg PortState.accepted (port_modPort s p _)

/-! ### Dispatch by port (R102, R103, R105, R106) -/

theorem dispatch_console (hw : s.working = true) (hf : ¬s.fromForeign .console x) :
    s.dispatch .console x = s.dispatchConsole x :=
  (if_neg (mt (foreign_iff s _ x).1 hf)).trans (if_pos hw)

theorem dispatch_field (hw : s.working = true) (hf : ¬s.fromForeign .field x) : s.dispatch .field x = s.dispatchField x :=
  (if_neg (mt (foreign_iff s _ x).1 hf)).trans (if_pos hw)

theorem dispatch_shore (hf : ¬s.fromForeign .shore x) : s.dispatch .shore x = s.dispatchShore x := by
  refine (if_neg (mt (foreign_iff s _ x).1 hf)).trans ?_
  split <;> rfl

theorem dispatch_unconfigured (hw : s.working = false) (hf : ¬s.fromForeign p x) : s.dispatch p x = s.dispatchDefault p x :=
  (if_neg (mt (foreign_iff s _ x).1 hf)).trans (if_neg (hw ▸ Bool.false_ne_true))

/-- In UNCONFIGURED only the part's own address is a foreign source. -/
theorem not_fromForeign (hw : s.working = false) (hsrc : x.src ≠ s.bank.ownAddress) : ¬s.fromForeign p x := by
  rintro (h | ⟨h, -⟩)
  · exact hsrc h
  · exact Bool.false_ne_true (hw.symm.trans h)

/-- A telegram of no inspected kind, or of no inspected source, is taken by no block (R102). -/
theorem inspect_uninspected (h : s.uninspected x) : s.inspect x = (s, .untaken) := by
  obtain ⟨hgauge, hdraft, hstation⟩ := h
  have hno (hk : x.kind = kindState ∨ x.kind = kindAck) : s.bank.stationOf x.src = none := by
    obtain ⟨hpump, hvalve⟩ := hstation hk
    unfold ShipBank.stationOf
    split
    next hr => exact absurd hr hpump
    next hr => exact absurd hr hvalve
    next => rfl
  unfold inspect
  split
  next hk => exact if_neg fun ⟨hr, _⟩ => hgauge hk hr
  next =>
    split
    next hk => exact if_neg (hdraft hk)
    next =>
      split
      next hk => rw [hno (.inl hk)]
      next =>
        split
        next hk => rw [hno (.inr hk)]
        next => rfl

theorem dispatchField_uninspected (h : s.uninspected x) : s.dispatchField x = s.onwardField x .untaken := by
  unfold dispatchField
  rw [inspect_uninspected h]

/-- With room in the queue nothing is lost, and the port is what the offer makes of it. -/
theorem port_offer_room (s : State) (p : Port) (e : QEntry) (hroom : (s.out.port p).queue.length < portCapacity p) :
    (s.offer p e).1.out.port p = ((s.out.port p).offer (portCapacity p) e).port := by
  have hlost : ((s.out.port p).offer (portCapacity p) e).lost = none := by rw [PortState.offer, if_pos hroom]
  have hout : s.out.offer p e = (s.out.setPort p ((s.out.port p).offer (portCapacity p) e).port,
      ((s.out.port p).offer (portCapacity p) e).ok, []) := by
    unfold Out.offer
    dsimp only
    rw [hlost]
    rfl
  change (Out.settleDrops s.bank s.stamp ((s.out.offer p e).1, (s.out.offer p e).2.2)).port p = _
  rw [hout, Out.settleDrops_nil]
  exact Out.port_setPort_same _ _ _

/-- A telegram that is sent to another port is passed on to it. -/
theorem passesOn_send (s : State) (p : Port) (x : Telegram) : s.passesOn (s.send p x).1 p x :=
  ⟨port_offer_room s p _, send_only s p x⟩

/-! ### Where a telegram goes that no block takes -/

theorem dispatch_misdirected (hf : ¬s.fromForeign p x)
    (h : p = .console ∧ s.working = true ∧ x.dst = s.bank.ownAddress ∧ x.kind ≠ 0x51
      ∨ p = .field ∧ x.dst = s.bank.ownAddress ∧ (s.working = false ∨ s.uninspected x)
      ∨ p = .shore ∧ x.dst ≠ s.bank.ownAddress ∧ x.dst ≠ 255) : s.dispatch p x = s.countMisdirected p := by
  obtain ⟨rfl, hw, hown, hkind⟩ | ⟨rfl, hown, hw⟩ | ⟨rfl, hown, hall⟩ := h
  · rw [dispatch_console hw hf]
    exact (if_pos hown).trans (if_neg hkind)
  · cases hmode : s.working with
    | false => rw [dispatch_unconfigured hmode hf]; exact if_pos hown
    | true =>
      have hun : s.uninspected x := hw.resolve_left fun h => Bool.false_ne_true (h.symm.trans hmode)
      rw [dispatch_field hmode hf, dispatchField_uninspected hun]
      exact (if_neg nofun).trans ((if_pos hown).trans (if_pos rfl))
  · rw [dispatch_shore hf]
    exact if_neg fun h => h.elim hown hall

/-- A telegram for another node that no block takes stays where it has reached its destination, and is routed else. -/
theorem dispatch_routed {q : Port} (hw : s.working = true) (hf : ¬s.fromForeign p x) (hown : x.dst ≠ s.bank.ownAddress)
    (h : p = .field ∧ q = .console ∧ s.uninspected x ∨ p = .console ∧ q = .field ∧ x.kind ≠ 0x41) :
    s.dispatch p x = if (s.bank.role x.dst).fieldSide = true ∧ p = .field ∨ s.bank.role x.dst = .console ∧ p = .console
      then s else s.applyAction (s.bank.action (if p = .field then x.src else x.dst)) p q x := by
  obtain ⟨rfl, rfl, hun⟩ | ⟨rfl, rfl, hkind⟩ := h
  · rw [dispatch_field hw hf, dispatchField_uninspected hun]
    refine (if_neg nofun).trans ((if_neg hown).trans ?_)
    simp
  · rw [dispatch_console hw hf]
    refine (if_neg hown).trans ((if_neg hkind).trans ?_)
    simp

/-- An ORDER for a node that is no station and no console is routed by its destination (R103). -/
theorem dispatch_unscreened (hw : s.working = true) (hsrc : s.bank.role x.src = .console) (hself : x.src ≠ s.bank.ownAddress)
    (hown : x.dst ≠ s.bank.ownAddress) (hk : x.kind = 0x41) (hall : x.dst ≠ 255)
    (hrole : s.bank.role x.dst = .none ∨ s.bank.role x.dst = .other ∨ s.bank.role x.dst = .gauge ∨ s.bank.role x.dst = .draft) :
    s.dispatch .console x = s.unscreenedOrder x := by
  have hf : ¬s.fromForeign .console x := by
    rintro (h | ⟨-, -, h | ⟨-, h⟩⟩)
    · exact hself h
    · cases h
    · exact h hsrc
  have hst : s.bank.stationOf x.dst = none := by
    unfold ShipBank.stationOf
    obtain h | h | h | h := hrole <;> rw [h]
  have hcon : s.bank.role x.dst ≠ .console := by
    obtain h | h | h | h := hrole <;> rw [h] <;> nofun
  rw [dispatch_console hw hf]
  refine (if_neg hown).trans ((if_pos hk).trans ((if_neg hall).trans ?_))
  rw [hst]
  exact if_neg hcon

/-- In UNCONFIGURED what is not management of the part and not for it is sent to the other deck-bus port (R106). -/
theorem dispatch_default {q : Port} (hw : s.working = false) (hsrc : x.src ≠ s.bank.ownAddress)
    (h : p = .console ∧ q = .field ∧ ¬(x.dst = s.bank.ownAddress ∧ x.kind = 0x51)
      ∨ p = .field ∧ q = .console ∧ x.dst ≠ s.bank.ownAddress) : s.dispatch p x = (s.send q x).1 := by
  rw [dispatch_unconfigured hw (not_fromForeign hw hsrc)]
  obtain ⟨rfl, rfl, h⟩ | ⟨rfl, rfl, h⟩ := h
  · exact if_neg h
  · exact if_neg h

theorem consoleIdle_modConsole {f : PortState → PortState} (h : s.consoleIdle)
    (hf : (f s.out.console).sending = s.out.console.sending ∧ (f s.out.console).queue = s.out.console.queue) :
    (s.modPort .console f).consoleIdle :=
  ⟨hf.2.trans h.1, hf.1.trans h.2⟩

theorem unscreenedOrder_trap (h : s.bank.action x.dst = .trap) :
    (s.unscreenedOrder x).out.console.trapped = satSucc s.out.console.trapped
      ∧ (s.consoleIdle → (s.unscreenedOrder x).out.console.sending = some (s.ackEntry x.src x.dst x.seq 17 23))
      ∧ s.onlyChanges [.out] (s.unscreenedOrder x) := by
  unfold unscreenedOrder
  rw [h]
  dsimp only
  rw [if_pos rfl]
  unfold applyAction
  dsimp only
  refine ⟨?_, fun hidle => ?_, ?_⟩
  · have hc := (quiet_syntheticAck (s.modPort .console fun p => { p with trapped := satSucc p.trapped }) x.src x.seq x.dst
      outcomeRefused RefuseReason.route.code).counters .console
    simp only [PortState.counters, List.cons.injEq] at hc
    obtain ⟨-, -, -, -, htrapped, -⟩ := hc
    exact htrapped
  · exact sending_syntheticAck (s := s.modPort .console fun p => { p with trapped := satSucc p.trapped })
      (consoleIdle_modConsole hidle ⟨rfl, rfl⟩) _ _ _ _ _
  · exact (modPort_only s _ _).trans (send_only _ _ _)

end State

open State in
/-- Settles O7: acceptance, the foreign source and then the branches of the dispatch of each port. -/
theorem badFramesAreCountedAndDiscarded : Obligations.BadFramesAreCountedAndDiscarded := by
  refine ⟨fun s p bs h hbad => ?_, fun s p x h hx hf => ?_, fun s p x h hx hf hmis => ?_,
    fun s p q x h hx hf hown hside => ?_, fun s x h hx hsrc hself hown hk hall hrole => ?_,
    fun s p q x h hw hx hsrc hside => ?_⟩
  · obtain ⟨hcount, haccepted, hadvised⟩ := discardBad_counts s p
    refine ⟨_, (exec_receiveFrame h.1 bs).trans (congrArg _ (receiveFrame_bad h hbad)), hcount, haccepted, hadvised,
      discardBad_only s p⟩
  · obtain ⟨haccepted, hcount, hadvised⟩ := discardForeign_counts (s.countAccepted p) p
    refine ⟨_, (exec_arrival h hx).trans (congrArg _ (dispatch_foreign hf)), haccepted.trans (accepted_countAccepted s p),
      hcount.trans ?_, hadvised.trans (congrArg satSucc (advised_countAccepted s p _)), ?_⟩
    · exact congrArg satSucc (foreignSource_countAccepted s p)
    · exact (countAccepted_only s p).trans (discardForeign_only _ p)
  · exact (exec_arrival h hx).trans (congrArg _ (dispatch_misdirected (s := s.countAccepted p) hf hmis))
  · have hexec := (exec_arrival h.inCircuit hx).trans
      (congrArg _ (dispatch_routed (s := s.countAccepted p) h.working hf hown hside))
    refine ⟨fun here => ?_, fun away ht => ?_, fun away hd => ?_, fun away hp => ?_⟩
    · exact hexec.trans (congrArg _ (if_pos here))
    · rw [hexec]
      exact congrArg _ ((if_neg away).trans (congrArg ((s.countAccepted p).applyAction · p q x) ht))
    · rw [hexec]
      exact congrArg _ ((if_neg away).trans (congrArg ((s.countAccepted p).applyAction · p q x) hd))
    · refine ⟨_, hexec.trans (congrArg _ (if_neg away)), ?_⟩
      rw [show (s.countAccepted p).bank.action _ = _ from hp]
      exact passesOn_send _ q x
  · have hexec := (exec_arrival h.inCircuit hx).trans
      (congrArg _ (dispatch_unscreened (s := s.countAccepted .console) h.working hsrc hself hown hk hall hrole))
    refine ⟨fun hp => ⟨_, hexec, ?_⟩, fun ht => ⟨_, hexec, ?_⟩, fun hd => ?_⟩
    · unfold unscreenedOrder
      rw [show (s.countAccepted .console).bank.action _ = _ from hp]
      exact passesOn_send _ _ x
    · obtain ⟨htrapped, hack, honly⟩ := unscreenedOrder_trap (s := s.countAccepted .console) ht
      exact ⟨htrapped, fun hidle => hack (consoleIdle_modConsole hidle ⟨rfl, rfl⟩), (countAccepted_only s _).trans honly⟩
    · rw [hexec]
      unfold unscreenedOrder
      rw [show (s.countAccepted .console).bank.action _ = _ from hd]
      rfl
  · refine ⟨_, (exec_arrival h hx).trans (congrArg _ (dispatch_default (s := s.countAccepted p) hw hsrc hside)), ?_⟩
    exact passesOn_send _ q x

end Sys2Proof.Machine
end
section
/-! PROOFS. The step advance (R66 to R69, R154, R160): one STEP record for each step whose target is met, in step order, up
to the first target that is not met or to the plan's end. -/

namespace Sys2Proof.Machine

/-! ### The records of an advance -/

/-- One more record beyond those of an advance so far. -/
theorem State.reportsAfterSteps_succ (s : State) (a : ActiveStep) (n : Nat) :
    (s.reportsAfterSteps a n).add (s.stepRecord a n) = s.reportsAfterSteps a (n + 1) := by
  have hlen : (s.reportsAfterSteps a n).records.length
      = s.reports.records.length + n - (s.reports.records.length + n - max 96 s.reports.records.length) := by
    simp [reportsAfterSteps]
  have hmap : s.reports.records ++ (List.range (n + 1)).map (s.stepRecord a)
      = (s.reports.records ++ (List.range n).map (s.stepRecord a)) ++ [s.stepRecord a n] := by
    rw [List.range_succ, List.map_append, List.append_assoc, List.map_singleton]
  have hbefore : (s.reports.records ++ (List.range n).map (s.stepRecord a)).length = s.reports.records.length + n := by simp
  unfold Reports.add
  by_cases hroom : s.reports.records.length + n < 96
  · have hnone : s.reports.records.length + (n + 1) - max 96 s.reports.records.length = 0 := by omega
    have hnone' : s.reports.records.length + n - max 96 s.reports.records.length = 0 := by omega
    have hr : (s.reportsAfterSteps a n).records.length < reportCapacity := by
      rw [hlen]; unfold reportCapacity; omega
    rw [if_pos hr, if_pos hr]
    unfold reportsAfterSteps
    dsimp only
    rw [hnone, hnone', hmap, List.drop_zero, List.drop_zero, Function.iterate_succ_apply']
  · have hone : s.reports.records.length + (n + 1) - max 96 s.reports.records.length
        = s.reports.records.length + n - max 96 s.reports.records.length + 1 := by omega
    have hfull : ¬(s.reportsAfterSteps a n).records.length < reportCapacity := by
      rw [hlen]; unfold reportCapacity; omega
    have hdrop := List.drop_append_of_le_length (l₁ := s.reports.records ++ (List.range n).map (s.stepRecord a))
      (l₂ := [s.stepRecord a n]) (i := s.reports.records.length + n - max 96 s.reports.records.length + 1)
      (by rw [hbefore]; omega)
    rw [if_neg hfull, if_neg hfull]
    unfold reportsAfterSteps
    dsimp only
    rw [hone, hmap, Function.iterate_succ_apply', Function.iterate_succ_apply', List.tail_drop, hdrop]

namespace State
variable {s t u : State} {a c : ActiveStep} {n : Nat}

theorem onlyChanges.totalBallast {l : List Block} (h : s.onlyChanges l t) (hs : Block.ship ∉ l) (ht : Block.tanks ∉ l) :
    t.totalBallast = s.totalBallast := by
  simp only [State.totalBallast, h.bank hs, h.tank ht]

/-! ### The steps of an advance -/

/-- The active step of an advance that has passed over `n` steps from `a`: `a` itself, or a fresh one. -/
def stepAfter (s : State) (a : ActiveStep) (n : Nat) (c : ActiveStep) : Prop :=
  c.k = a.k + n ∧ (n = 0 → c = a) ∧ (n ≠ 0 → c.peak = none ∧ c.pausedAt s.now = 0)

/-- What an advance has done when `n` steps from `a` are recorded. -/
structure recorded (s : State) (a : ActiveStep) (n : Nat) (t : State) : Prop where
  met : ∀ j, a.k ≤ j → j < a.k + n → s.targetOf j ≤ s.totalCargo
  done : t.tracker.stepsDone = s.tracker.stepsDone + n
  reports : t.reports = s.reportsAfterSteps a n

/-- An advance under way: `n` steps recorded, and one more active. -/
structure advanced (s : State) (a : ActiveStep) (n : Nat) (c : ActiveStep) (t : State) : Prop extends s.recorded a n t where
  tracking : t.tracker.tracking = .tracking c
  step : s.stepAfter a n c
  frame : s.onlyChanges [.tracker, .out, .reports] t

theorem advanced_refl (h : s.tracker.tracking = .tracking a) : s.advanced a 0 a s where
  met j h1 h2 := absurd h2 (not_lt.2 h1)
  done := rfl
  reports := by simp [reportsAfterSteps]
  tracking := h
  step := ⟨rfl, fun _ => rfl, fun h => absurd rfl h⟩
  frame := onlyChanges_refl _ s

/-- The body of the step record of the active step (R68). -/
def stepBody (s : State) (c : ActiveStep) : List Int :=
  [bodyQuantity c.k, s.bodyTime s.now, bodyQuantity s.totalCargo, bodyQuantity s.totalBallast,
    bodyQuantity (s.totalBallast - s.ballastOf c.k), bodyOpt (c.peak.map Peak.value),
    bodyOpt (c.peak.map fun p => (p.station : Int)), bodyOpt (c.peak.map fun p => (p.quantity.code : Int)),
    bodyQuantity (c.pausedAt s.now)]

theorem reports_recordStep (s : State) (c : ActiveStep) :
    (s.recordStep c).reports = s.reports.add (s.recordOf .step false false (s.stepBody c)) := reports_makeRecord s _ _ _ _

theorem stepsDone_recordStep (s : State) (c : ActiveStep) : (s.recordStep c).tracker.stepsDone = s.tracker.stepsDone + 1 :=
  congrArg (fun x : Tracker => x.stepsDone + 1) ((makeRecord_only s .step false false (s.stepBody c)).tracker (by decide))

/-- The record of the active step is the next one of the advance. -/
theorem reports_advanced (h : s.advanced a n c u) : (u.recordStep c).reports = s.reportsAfterSteps a (n + 1) := by
  obtain ⟨hk, hfirst, hlater⟩ := h.step
  rw [reports_recordStep, ← reportsAfterSteps_succ, h.reports]
  congr 1
  unfold recordOf stepRecord stepBody bodyTime clockSeconds ballastOf
  rw [h.reports, h.frame.stamp (by decide), h.frame.now (by decide), h.frame.clock (by decide), h.frame.totalCargo (by decide),
    h.frame.totalBallast (by decide) (by decide), h.frame.activePlan (by decide), hk]
  by_cases hn : n = 0
  · subst hn
    rw [hfirst rfl]
    rfl
  · obtain ⟨hpeak, hpaused⟩ := hlater hn
    rw [hpeak, hpaused, if_neg hn]
    rfl

theorem met_succ (h : s.advanced a n c u) (hmet : u.targetOf c.k ≤ u.totalCargo) :
    ∀ j, a.k ≤ j → j < a.k + (n + 1) → s.targetOf j ≤ s.totalCargo := by
  intro j hj hlt
  by_cases hlast : j < a.k + n
  · exact h.met j hj hlast
  · have hjk : j = c.k := by rw [h.step.1]; omega
    unfold targetOf at hmet
    rw [h.frame.activePlan (by decide), h.frame.totalCargo (by decide), ← hjk] at hmet
    exact hmet

theorem stepsDone_advanced (h : s.advanced a n c u) : (u.recordStep c).tracker.stepsDone = s.tracker.stepsDone + (n + 1) := by
  rw [stepsDone_recordStep, h.done]
  rfl

/-- A met target that is not the plan's last makes the next step active (R66). -/
theorem advanced_next (h : s.advanced a n c u) (hmet : u.targetOf c.k ≤ u.totalCargo) :
    ∃ d, s.advanced a (n + 1) d ((u.recordStep c).nextStep c) := by
  have hnow : (u.recordStep c).now = s.now :=
    ((recordStep_only u c).now (by decide)).trans (h.frame.now (by decide))
  refine ⟨_, ⟨met_succ h hmet, stepsDone_advanced h, reports_advanced h⟩, rfl, ⟨?_, fun h => absurd h (Nat.succ_ne_zero n),
    fun _ => ⟨rfl, ?_⟩⟩, ?_⟩
  · exact congrArg (· + 1) h.step.1
  · rw [← hnow]
    unfold ActiveStep.pausedAt ActiveStep.fresh
    cases c.pausedSince <;> simp
  · exact ((h.frame.andThen (recordStep_only u c)).andThen (nextStep_only _ c)).mono (by decide)

/-- What an advance from step `a` ends in: an active step whose target is not met, or the plan complete. -/
inductive advanceEnd (s : State) (a : ActiveStep) (t : State) : Prop
  | unmet (n : Nat) (c : ActiveStep) (h : s.advanced a n c t) (hu : s.totalCargo < s.targetOf c.k)
  | complete (n : Nat) (h : s.recorded a (n + 1) t) (hk : a.k + n = max a.k s.plan.stepCount)
      (ht : t.tracker.tracking = .complete)
      (hr : s.sys.sessionOpen = true → ∀ l < 4, (t.pause l).reasons.has .planComplete = true)

theorem advanceEnd_complete (h : s.advanced a n c u) (hmet : u.targetOf c.k ≤ u.totalCargo)
    (hk : a.k + n = max a.k s.plan.stepCount) : s.advanceEnd a (u.recordStep c).completePlan := by
  have honly : (u.recordStep c).onlyChanges [.tracker, .pacing] (u.recordStep c).completePlan := completePlan_only _
  have hpacing : ((u.recordStep c).setTracking .complete).onlyChanges [.pacing] (u.recordStep c).completePlan :=
    addReasonAll_only _ _
  have htracker := hpacing.tracker (by decide)
  refine .complete n ⟨met_succ h hmet, ?_, ?_⟩ hk (congrArg Tracker.tracking htracker) fun hopen l hl => ?_
  · exact (congrArg Tracker.stepsDone htracker).trans (stepsDone_advanced h)
  · exact (honly.reports (by decide)).trans (reports_advanced h)
  · have hsession : ((u.recordStep c).setTracking .complete).sys.sessionOpen = true :=
      ((recordStep_only u c).sessionOpen (by decide)).trans ((h.frame.sessionOpen (by decide)).trans hopen)
    unfold completePlan
    rw [pause_addReasonAll _ _ hl, has_withReason]
    exact Bool.or_eq_true_iff.2 (.inr (decide_eq_true ⟨rfl, .inr hsession⟩))

theorem advanceFrom_end (m : Nat) : ∀ {n : Nat} {c : ActiveStep} {u : State}, s.advanced a n c u → s.plan.stepCount < m + (a.k + n) →
    (n = 0 ∨ a.k + n ≤ s.plan.stepCount) → 0 < m → s.advanceEnd a (advanceFrom m u) := by
  induction m with
  | zero => exact fun _ _ _ h0 => absurd h0 (Nat.lt_irrefl 0)
  | succ m ih =>
    intro n c u h hfuel hrange _
    have hcargo : u.totalCargo = s.totalCargo := h.frame.totalCargo (by decide)
    have hplan : u.plan = s.plan := h.frame.activePlan (by decide)
    unfold advanceFrom
    rw [h.tracking]
    dsimp only
    split
    case isTrue hmet =>
      split
      case isTrue hlast =>
        rw [hplan, h.step.1] at hlast
        exact advanceEnd_complete h hmet (by omega)
      case isFalse hlast =>
        rw [hplan, h.step.1] at hlast
        obtain ⟨d, hnext⟩ := advanced_next h hmet
        exact ih hnext (by omega) (.inr (by omega)) (by omega)
    case isFalse hunmet =>
      refine .unmet n c h ?_
      unfold targetOf at hunmet ⊢
      rw [hcargo, hplan] at hunmet
      exact not_le.1 hunmet

theorem stepCountFrom_le (b : PlanBank) (n j : Nat) : b.stepCountFrom n j ≤ n := by
  induction n generalizing j with
  | zero => exact Nat.le_refl 0
  | succ n ih =>
    unfold PlanBank.stepCountFrom
    split
    · exact Nat.zero_le _
    · exact Nat.succ_le_succ (ih _)

/-- The fuel of an advance suffices: a plan has at most 64 steps. -/
theorem advance_end (h : s.tracker.tracking = .tracking a) : s.advanceEnd a s.advance :=
  advanceFrom_end 65 (advanced_refl h) (Nat.lt_of_le_of_lt (stepCountFrom_le s.plan 64 0) (by omega)) (.inl rfl) (by omega)

theorem advance_unmet (h : s.tracker.tracking = .tracking a) (hu : s.totalCargo < s.targetOf a.k) : s.advance = s := by
  unfold advance advanceFrom
  rw [h]
  exact if_neg (not_le.2 hu)

theorem advance_inactive (h : ∀ a, s.tracker.tracking ≠ .tracking a) : s.advance = s := by
  unfold advance advanceFrom
  split
  next a ha => exact absurd ha (h a)
  next => rfl

end State

open State in
/-- Settles O26: an advance passes over met targets alone, by induction on its fuel. -/
theorem advanceStopsAtAnUnmetTarget : Obligations.AdvanceStopsAtAnUnmetTarget := by
  refine fun s => ⟨fun a ha => ⟨fun b hb => ?_, fun hc => ?_, advance_unmet ha⟩, advance_inactive, advanceFrom_only 65 s⟩
  · cases advance_end ha with
    | unmet n c h hu =>
      obtain rfl : c = b := Tracking.tracking.inj (h.tracking.symm.trans hb)
      have hk := h.step.1
      have hn : c.k - a.k = n := by omega
      exact ⟨by omega, fun j h1 h2 => h.met j h1 (hk ▸ h2), hu, hn ▸ h.done, hn ▸ h.reports⟩
    | complete n h hk ht hr => exact absurd (hb.symm.trans ht) nofun
  · cases advance_end ha with
    | unmet n c h hu => exact absurd (h.tracking.symm.trans hc) nofun
    | complete n h hk ht hr =>
      have hn : max a.k s.plan.stepCount - a.k = n := by omega
      exact ⟨fun j h1 h2 => h.met j h1 (by omega), hn ▸ h.done, hn ▸ h.reports, hr⟩

end Sys2Proof.Machine
end
section
/-! PROOFS. What the events around a POUR's off-plan test leave alone (R72, R78): the place of the plan's cursor, and the
off-plan flag, reason and fault of every loader. -/

namespace Sys2Proof.Machine

/-- The place of a plan's cursor: no session, an active step, or the plan complete. -/
def Tracking.place : Tracking → Option (Option Nat)
  | .noSession => none
  | .tracking a => some (some a.k)
  | .complete => some none

namespace State
variable {s t u : State} {bs : List Block} {l : Nat}

/-! ### The plan's cursor and flags -/

/-- The cursor keeps its place and every loader its off-plan flag. -/
structure tracksAlike (s t : State) : Prop where
  place : t.tracker.tracking.place = s.tracker.tracking.place
  flags : t.tracker.offPlan = s.tracker.offPlan

/-- The current assignment is that of the cursor's place on the plan. -/
theorem tracksAlike.assignment (h : s.tracksAlike t) (hp : t.plan = s.plan) (l : Nat) : t.assignment l = s.assignment l := by
  have hplace := h.place
  unfold State.assignment
  cases ht : t.tracker.tracking <;> cases hs : s.tracker.tracking <;> simp_all [Tracking.place]

namespace tracksAlike

theorem refl (s : State) : s.tracksAlike s := ⟨rfl, rfl⟩

theorem trans (h : s.tracksAlike t) (k : t.tracksAlike u) : s.tracksAlike u :=
  ⟨k.place.trans h.place, k.flags.trans h.flags⟩

theorem of_only (h : s.onlyChanges bs t) (n : Block.tracker ∉ bs) : s.tracksAlike t := by
  have e := h.tracker n
  exact ⟨by rw [e], by rw [e]⟩

theorem modStep {f : ActiveStep → ActiveStep} (hf : ∀ a, (f a).k = a.k) : s.tracksAlike (s.modStep f) := by
  unfold State.modStep
  split
  next a ha =>
    refine ⟨?_, rfl⟩
    rw [ha]
    exact congrArg (fun k => some (some k)) (hf a)
  next => exact refl s

theorem tellFree (s : State) : s.tracksAlike s.tellFree := modStep fun a => by split <;> rfl

theorem openEpisode (s : State) (l : Nat) : s.tracksAlike (s.openEpisode l) := by
  unfold State.openEpisode
  extract_lets ep timer o
  have ho : s.tracksAlike o := of_only ((modPause_only s l _).andThen (sendPause_only _ l)) (by decide)
  split
  · exact ho.trans (modStep fun _ => rfl)
  · exact ho

theorem release (s : State) (l : Nat) : s.tracksAlike (s.release l) := by
  unfold State.release
  extract_lets a b c d
  have hc : s.tracksAlike c := of_only ((((originate_only s _ _ _).andThen (modPause_only _ l _)).andThen
    (clearFault_only _ _ _)).andThen (clearFault_only _ _ _)) (by decide)
  have hd : s.tracksAlike d := by
    dsimp only [d]
    split
    · exact hc.trans (of_only (closeEpisode_only c l _) (by decide))
    · exact hc
  split
  · exact hd.trans (tellFree d)
  · exact hd

theorem actLoader (s : State) (l : Nat) (b : ReasonSet) (f : Bool) : s.tracksAlike (s.actLoader l b f) := by
  unfold State.actLoader
  dsimp only
  split
  · split
    · exact refl s
    · exact openEpisode s l
  · split
    · exact release s l
    · split
      · exact refl s
      · exact of_only ((modPause_only s l _).andThen (sendPause_only _ l)) (by decide)

theorem actOn (s : State) (b : Nat → ReasonSet) (f : Option Nat) : s.tracksAlike (s.actOn b f) :=
  forEach_keeps (I := s.tracksAlike) (fun i u hu => hu.trans (actLoader u i _ _)) (refl s)

end tracksAlike

/-! ### The off-plan records -/

/-- The off-plan flag, reason and fault of every loader are as they were. -/
structure offPlanKept (s t : State) : Prop where
  flags : t.tracker.offPlan = s.tracker.offPlan
  reason : ∀ m < 4, (t.pause m).reasons.has .offPlan = (s.pause m).reasons.has .offPlan
  active : ∀ x, t.faults.active .offPlan x = s.faults.active .offPlan x

namespace offPlanKept

theorem refl (s : State) : s.offPlanKept s := ⟨rfl, fun _ _ => rfl, fun _ => rfl⟩

theorem trans (h : s.offPlanKept t) (k : t.offPlanKept u) : s.offPlanKept u :=
  ⟨k.flags.trans h.flags, fun m hm => (k.reason m hm).trans (h.reason m hm), fun x => (k.active x).trans (h.active x)⟩

theorem ite {p : Prop} [Decidable p] (h : s.offPlanKept t) (k : s.offPlanKept u) : s.offPlanKept (if p then t else u) := by
  split <;> assumption

/-- An operation off the tracker and the pause records that touches other faults alone. -/
theorem frame {ks : List FaultKind} (k : s.onlyChanges bs t) (m : s.marksOnly ks t) (hk : .offPlan ∉ ks)
    (htracker : Block.tracker ∉ bs) (hpacing : Block.pacing ∉ bs) : s.offPlanKept t :=
  ⟨by rw [k.tracker htracker], fun i _ => by rw [k.pause hpacing i], fun x => m .offPlan x hk⟩

/-- An operation off the tracker, the pause records and the faults. -/
theorem still (k : s.onlyChanges bs t) (htracker : Block.tracker ∉ bs) (hpacing : Block.pacing ∉ bs)
    (hfaults : Block.faults ∉ bs) : s.offPlanKept t :=
  frame (ks := []) k (k.marksOnly [] hfaults) (by decide) htracker hpacing

/-- Pause records changed without their OFF_PLAN reason. -/
theorem paced (k : s.onlyChanges [.pacing] t)
    (hr : ∀ m < 4, (t.pause m).reasons.has .offPlan = (s.pause m).reasons.has .offPlan) : s.offPlanKept t :=
  ⟨by rw [k.tracker (by decide)], hr, fun x => by rw [k.faults (by decide)]⟩

theorem addReasonAll (s : State) {r : Reason} (hr : r ≠ .offPlan) : s.offPlanKept (s.addReasonAll r) := by
  refine paced (addReasonAll_only s r) fun m hm => ?_
  rw [pause_addReasonAll s r hm, has_withReason]
  simp [hr.symm]

theorem removeReasonAll (s : State) {r : Reason} (hr : r ≠ .offPlan) : s.offPlanKept (s.removeReasonAll r) := by
  refine paced (removeReasonAll_only s r) fun m hm => ?_
  rw [pause_removeReasonAll s r hm, ReasonSet.has_remove]
  simp [hr.symm]

theorem mapEpisode (s : State) (l : Nat) (f : Episode → Episode) :
    s.offPlanKept (s.modPause l fun p => p.mapEpisode f) := by
  refine paced (modPause_only s l _) fun m hm => ?_
  by_cases h : m = l
  · subst h
    rw [pause_modPause s m _ hm]
    rfl
  · rw [pause_modPause_other s l m _ h]

theorem raiseFault (s : State) {k : FaultKind} (x : Nat) (hk : k ≠ .offPlan) : s.offPlanKept (s.raiseFault k x) :=
  frame (raiseFault_only s k x) (raiseFault_marks s k x) (fun h => hk (List.mem_singleton.1 h).symm) (by decide) (by decide)

theorem clearFault (s : State) {k : FaultKind} (x : Nat) (hk : k ≠ .offPlan) : s.offPlanKept (s.clearFault k x) :=
  frame (clearFault_only s k x) (clearFault_marks s k x) (fun h => hk (List.mem_singleton.1 h).symm) (by decide) (by decide)

theorem setTracking (s : State) (x : Tracking) : s.offPlanKept (s.setTracking x) :=
  ⟨rfl, fun _ _ => rfl, fun _ => rfl⟩

theorem modStep (s : State) (f : ActiveStep → ActiveStep) : s.offPlanKept (s.modStep f) := by
  unfold State.modStep
  split
  · exact setTracking s _
  · exact refl s

theorem actOn (s : State) (b : Nat → ReasonSet) (f : Option Nat) : s.offPlanKept (s.actOn b f) :=
  ⟨(tracksAlike.actOn s b f).flags, fun m hm => by rw [reasons_actOn s b f hm], fun x => actOn_marks s b f .offPlan x (by decide)⟩

/-! #### Around a POUR -/

theorem clearSilent (s : State) : s.offPlanKept s.clearSilent :=
  ((clearFault s _ (by decide)).trans (removeReasonAll _ (by decide))).trans (actOn _ _ _)

theorem signOfLife (s : State) : s.offPlanKept s.signOfLife := by
  have hw : s.offPlanKept s.watchShore := still (watchShore_only s) (by decide) (by decide) (by decide)
  unfold State.signOfLife
  split
  · exact hw.trans (clearSilent _)
  · exact hw
  · exact hw

theorem completePlan (s : State) : s.offPlanKept s.completePlan :=
  (setTracking s _).trans (addReasonAll _ (by decide))

theorem recordStep (s : State) (a : ActiveStep) : s.offPlanKept (s.recordStep a) :=
  (still (makeRecord_only s .step false false (s.stepBody a)) (by decide) (by decide) (by decide)).trans
    ⟨rfl, fun _ _ => rfl, fun _ => rfl⟩

theorem advanceFrom (n : Nat) (s : State) : s.offPlanKept (advanceFrom n s) := by
  induction n generalizing s with
  | zero => exact refl s
  | succ n ih =>
    unfold State.advanceFrom
    split
    · exact ite (ite ((recordStep s _).trans (completePlan _))
        (((recordStep s _).trans (setTracking _ _)).trans (ih _))) (refl s)
    · exact refl s

theorem rebase (s : State) : s.offPlanKept s.rebase := by
  have hcursor : s.offPlanKept s.rebaseCursor := by
    unfold rebaseCursor
    split
    · exact ite ((setTracking s _).trans (removeReasonAll _ (by decide))) (setTracking s _)
    · exact ite (refl s) (completePlan s)
  exact (hcursor.trans (actOn _ _ _)).trans (modStep _ _)

theorem switchPlan (s : State) : s.offPlanKept s.switchPlan := by
  have hplan : s.offPlanKept s.switchedPlan := still (switchedPlan_only s) (by decide) (by decide) (by decide)
  exact ite ((hplan.trans (still (relatchReports_only _) (by decide) (by decide) (by decide))).trans (rebase _)) hplan

theorem reexamine (s : State) : s.offPlanKept s.reexamine :=
  frame (reexamine_only s) (reexamine_marks s) (by decide) (by decide) (by decide)

theorem judgeOverpour (s : State) (l : Nat) : s.offPlanKept (s.judgeOverpour l) := by
  unfold State.judgeOverpour
  split
  · exact refl s
  · split
    · exact refl s
    · exact ite (ite ((mapEpisode s l _).trans (raiseFault _ l (by decide))) (mapEpisode s l _)) (refl s)

theorem followSafe (s : State) (m : Mode) : s.offPlanKept (s.followSafe m) := ite (addReasonAll s (by decide)) (refl s)

theorem applyBelt (s : State) (l : Nat) (b : Belt) : s.offPlanKept (s.applyBelt l b) := by
  have hpaused (f : PauseRec → PauseRec) (hf : ∀ p, (f p).reasons = p.reasons) : s.offPlanKept (s.modPause l f) := by
    refine paced (modPause_only s l f) fun m hm => ?_
    by_cases h : m = l
    · subst h
      rw [pause_modPause s m _ hm, hf]
    · rw [pause_modPause_other s l m _ h]
  unfold State.applyBelt
  extract_lets now timer
  split
  · refine (hpaused _ ?_).trans (clearFault _ (k := .pauseUnconfirmed) _ (by decide))
    exact fun _ => rfl
  · refine (hpaused _ ?_).trans (clearFault _ (k := .pauseUnconfirmed) _ (by decide))
    exact fun _ => rfl
  · refine hpaused _ ?_
    exact fun _ => rfl
  · exact refl s

theorem pacePour (s : State) (b : Nat → ReasonSet) (l : Nat) (z : Bool) (x : Belt) : s.offPlanKept (s.pacePour b l z x) := by
  unfold State.pacePour
  extract_lets fills a c
  have ha : s.offPlanKept a := ite (mapEpisode s l _) (refl s)
  exact (((ha.trans (judgeOverpour a l)).trans (followSafe _ _)).trans (actOn _ _ _)).trans (applyBelt _ _ _)

theorem tellModeIf (s : State) (m : Mode) : s.offPlanKept (s.tellModeIf m) :=
  ite (refl s) ((still (sendBeacon_only s) (by decide) (by decide) (by decide)).trans (reexamine _))

end offPlanKept

namespace tracksAlike

theorem pacePour (s : State) (b : Nat → ReasonSet) (l : Nat) (z : Bool) (x : Belt) : s.tracksAlike (s.pacePour b l z x) := by
  have hover (u : State) : u.tracksAlike (u.judgeOverpour l) := by
    unfold State.judgeOverpour
    split
    · exact refl u
    · split
      · exact refl u
      · exact of_only (bs := [.pacing, .faults, .out, .mode]) (onlyChanges_ite (onlyChanges_ite
          ((modPause_only u l _).andThen (raiseFault_only _ _ _)) ((modPause_only u l _).mono (by decide)))
          (onlyChanges_refl _ u)) (by decide)
  have hbelt (u : State) : u.tracksAlike (u.applyBelt l x) := by
    unfold State.applyBelt
    extract_lets now timer
    split
    · exact of_only ((modPause_only u l _).andThen (clearFault_only _ _ _)) (by decide)
    · exact of_only ((modPause_only u l _).andThen (clearFault_only _ _ _)) (by decide)
    · exact of_only (modPause_only u l _) (by decide)
    · exact refl u
  have hfill : s.onlyChanges [.pacing] (if s.fillsGrace l z then s.fillGrace l else s) :=
    onlyChanges_ite (modPause_only s l _) (onlyChanges_refl _ s)
  unfold State.pacePour
  extract_lets fills a c
  exact ((((of_only hfill (by decide)).trans (hover a)).trans (of_only (followSafe_only _ _) (by decide))).trans
    (actOn _ _ _)).trans (hbelt _)

end tracksAlike

end State

end Sys2Proof.Machine
end
section
/-! PROOFS. A POUR (R22 to R28, R72, R89): its account, its off-plan test and its overpour test. -/

namespace Sys2Proof.Machine

/-- The fields of a POUR that are in range are read (R23). -/
theorem readPour_payload {l h b : Byte} {c : Word32} {rate : Word16} {belt : Belt} (hl : l.toNat < 4)
    (hc : c.toNat ≤ 4000000000) (hb : beltOf b.toNat = some belt) (hh : h.toNat < 10 ∨ h.toNat = 15) :
    readPour (pourPayload l h c b rate)
      = some { loader := l.toNat, spout := if h.toNat < 10 then some h.toNat else none, cumulative := c.toNat, belt := belt } := by
  have hloader : fieldAt (pourPayload l h c b rate) 0 1 = l.toNat := beNat_singleton l
  have hhold : fieldAt (pourPayload l h c b rate) 1 1 = h.toNat := beNat_singleton h
  have hcum : fieldAt (pourPayload l h c b rate) 2 4 = c.toNat := beNat_enc4 c.isLt
  have hbelt : fieldAt (pourPayload l h c b rate) 6 1 = b.toNat := beNat_singleton b
  unfold readPour
  dsimp only
  rw [hloader, hhold, hcum, hbelt, hb]
  exact if_pos ⟨hl, hc, hh⟩

/-- A POUR with a field out of range is not read. -/
theorem readPour_bad {l h b : Byte} {c : Word32} {rate : Word16}
    (hbad : ¬(l.toNat < 4 ∧ c.toNat ≤ 4000000000 ∧ (h.toNat < 10 ∨ h.toNat = 15) ∧ b.toNat ≤ 2)) :
    readPour (pourPayload l h c b rate) = none := by
  have hloader : fieldAt (pourPayload l h c b rate) 0 1 = l.toNat := beNat_singleton l
  have hhold : fieldAt (pourPayload l h c b rate) 1 1 = h.toNat := beNat_singleton h
  have hcum : fieldAt (pourPayload l h c b rate) 2 4 = c.toNat := beNat_enc4 c.isLt
  have hbelt : fieldAt (pourPayload l h c b rate) 6 1 = b.toNat := beNat_singleton b
  unfold readPour
  dsimp only
  rw [hloader, hhold, hcum, hbelt]
  split
  · rfl
  next belt hb =>
    refine if_neg fun ⟨hl, hc, hh⟩ => hbad ⟨hl, hc, hh, ?_⟩
    by_contra hlt
    unfold beltOf at hb
    rw [if_neg (by omega), if_neg (by omega), if_neg (by omega)] at hb
    cases hb

namespace State
variable {s t u : State} {l : Nat} {spout : Option Nat} {belt : Belt}

/-! ### The off-plan test (R72) -/

theorem offPlan_setOffPlan (s : State) (hl : l < 4) (v : Bool) : nth (s.setOffPlan l v).tracker.offPlan l false = v :=
  nth_upd_same _ _ _ _ hl

/-- A POUR that the off-plan test finds astray. -/
def astray (s : State) (l : Nat) (spout : Option Nat) (belt : Belt) : Prop :=
  belt = .running ∧ (s.assignment l = none ∨ s.assignment l ≠ spout)

theorem offPlanTest_off (h : s.astray l spout belt) (hf : nth s.tracker.offPlan l false = false) :
    s.offPlanTest l spout belt = ((s.setOffPlan l true).addReason l .offPlan).raiseFault .offPlan l := by
  unfold offPlanTest
  dsimp only
  exact (if_pos h).trans (if_neg (by rw [hf]; nofun))

theorem offPlanTest_back (h : ¬s.astray l spout belt) (hs : spout = s.assignment l) (hf : nth s.tracker.offPlan l false = true) :
    s.offPlanTest l spout belt = ((s.setOffPlan l false).removeReason l .offPlan).clearFault .offPlan l := by
  unfold offPlanTest
  dsimp only
  exact (if_neg h).trans (if_pos ⟨hs, hf⟩)

theorem offPlanTest_same (h : s.astray l spout belt ∧ nth s.tracker.offPlan l false = true
      ∨ ¬s.astray l spout belt ∧ ¬(spout = s.assignment l ∧ nth s.tracker.offPlan l false = true)) :
    s.offPlanTest l spout belt = s := by
  unfold offPlanTest
  dsimp only
  obtain ⟨ha, hf⟩ | ⟨ha, hf⟩ := h
  · exact (if_pos ha).trans (if_pos hf)
  · exact (if_neg ha).trans (if_neg hf)

theorem assignment_offPlanTest (s : State) (m l : Nat) (spout : Option Nat) (belt : Belt) :
    (s.offPlanTest l spout belt).assignment m = s.assignment m := by
  have hset (v : Bool) : (s.setOffPlan l v).assignment m = s.assignment m := rfl
  have later {u : State} {bs : List Block} (h : (s.setOffPlan l (!nth s.tracker.offPlan l false)).onlyChanges bs u)
      (ht : Block.tracker ∉ bs) (hp : Block.plan ∉ bs) : u.assignment m = s.assignment m :=
    ((tracksAlike.of_only h ht).assignment (h.activePlan hp) m).trans (hset _)
  by_cases ha : s.astray l spout belt
  · cases hf : nth s.tracker.offPlan l false with
    | true => rw [offPlanTest_same (.inl ⟨ha, hf⟩)]
    | false =>
      rw [offPlanTest_off ha hf]
      rw [hf] at later
      exact later ((addReason_only _ _ _).andThen (raiseFault_only _ _ _)) (by decide) (by decide)
  · by_cases hb : spout = s.assignment l ∧ nth s.tracker.offPlan l false = true
    · rw [offPlanTest_back ha hb.1 hb.2]
      rw [hb.2] at later
      exact later ((removeReason_only _ _ _).andThen (clearFault_only _ _ _)) (by decide) (by decide)
    · rw [offPlanTest_same (.inr ⟨ha, hb⟩)]

/-- The off-plan test sets and clears flag, reason and fault as R72 says. -/
theorem offPlanTest_judged (hl : l < 4) (hs : s.faults.sound) (ho : s.sys.sessionOpen = true) :
    s.offPlanJudged (s.offPlanTest l spout belt) l spout belt := by
  have hassign := s.assignment_offPlanTest l l spout belt
  unfold offPlanJudged
  dsimp only
  rw [hassign]
  refine ⟨fun ha => ?_, fun ha hb hf => ?_, fun h => ?_⟩
  · cases hf : nth s.tracker.offPlan l false with
    | true =>
      rw [offPlanTest_same (.inl ⟨ha, hf⟩)]
      exact ⟨hf, nofun⟩
    | false =>
      rw [offPlanTest_off ha hf]
      have hadd := addReason_only (s.setOffPlan l true) l .offPlan
      have hraise := raiseFault_only ((s.setOffPlan l true).addReason l .offPlan) .offPlan l
      refine ⟨?_, fun _ => ⟨?_, ?_⟩⟩
      · rw [hraise.tracker (by decide), hadd.tracker (by decide)]
        exact offPlan_setOffPlan s hl true
      · have hadm : (s.setOffPlan l true).admits .offPlan := .inr ho
        rw [hraise.pause (by decide), pause_addReason hl, withReason, if_pos hadm]
        exact (ReasonSet.has_add _ _ _).trans (Bool.or_eq_true_iff.2 (.inr (decide_eq_true rfl)))
      · exact active_raiseFault (by rw [hadd.faults (by decide)]; exact hs) rfl l
  · rw [offPlanTest_back ha hb hf]
    have hremove := removeReason_only (s.setOffPlan l false) l .offPlan
    have hclear := clearFault_only ((s.setOffPlan l false).removeReason l .offPlan) .offPlan l
    refine ⟨?_, ?_, ?_⟩
    · rw [hclear.tracker (by decide), hremove.tracker (by decide)]
      exact offPlan_setOffPlan s hl false
    · rw [hclear.pause (by decide), pause_removeReason hl]
      exact (ReasonSet.has_remove _ _ _).trans (by simp)
    · exact active_clearFault (by rw [hremove.faults (by decide)]; exact hs) _ l
  · rw [offPlanTest_same h]
    exact ⟨rfl, rfl, rfl⟩

/-- The judgement of the test is that of all that goes on around it. -/
theorem offPlanJudged.around {v : State} (h : u.offPlanJudged v l spout belt) (hl : l < 4) (before : s.offPlanKept u)
    (after : v.offPlanKept t) (ha : t.assignment l = v.assignment l) : s.offPlanJudged t l spout belt := by
  unfold offPlanJudged at h ⊢
  dsimp only at h ⊢
  rw [ha, after.flags, after.reason l hl, after.active, ← before.flags, ← before.reason l hl, ← before.active]
  exact h

/-! ### A POUR as a whole (R27) -/

variable {f : PourFields}

/-- The part once a POUR is in the account and has been tested against the deadband. -/
def charged (s : State) (f : PourFields) : State := (s.accountPour f).deadbandTest (s.chargedHold f)

/-- What a POUR changes after its charge, but for the beacon timer. -/
abbrev afterCharge : List Block := [.tracker, .pacing, .out, .reports, .faults, .mode, .shore, .screen, .stations]

theorem processPour_eq (s : State) (f : PourFields) : s.processPour f
    = (((s.charged f).trackPour f.loader f.spout f.belt).pacePour (s.charged f).reasonSets f.loader
        (!(s.loader f.loader).baselineSeen) f.belt).tellModeIf (s.charged f).sys.mode := rfl

theorem processPour_only (s : State) (f : PourFields) : (s.charged f).onlyChanges afterCharge (s.processPour f) := by
  rw [processPour_eq]
  exact (((trackPour_only _ _ _ _).andThen (pacePour_only _ _ _ _ _)).andThen (tellModeIf_only _ _)).mono (by decide)

theorem shore_tellModeIf (s : State) (m : Mode) :
    (s.tellModeIf m).shore = { s.shore with beaconAt := (s.tellModeIf m).shore.beaconAt } := by
  unfold tellModeIf
  split
  · rfl
  · have h : s.tellMode.shore = s.sendBeacon.shore := (reexamine_only _).shore (by decide)
    rw [h, shore_sendBeacon]

/-- The account after a POUR is that of its charge. -/
theorem shore_processPour (s : State) (f : PourFields) :
    (s.processPour f).shore = { (s.charged f).shore with beaconAt := (s.processPour f).shore.beaconAt } := by
  rw [processPour_eq, shore_tellModeIf,
    ((trackPour_only (s.charged f) f.loader f.spout f.belt).andThen (pacePour_only _ _ _ _ _)).shore (by decide)]

theorem loader_processPour (s : State) (f : PourFields) (m : Nat) : (s.processPour f).loader m = (s.charged f).loader m := by
  unfold loader
  rw [shore_processPour]

theorem hold_processPour (s : State) (f : PourFields) (k : Nat) : (s.processPour f).hold k = (s.charged f).hold k := by
  unfold hold
  rw [shore_processPour]

/-- A POUR is tested for off-plan under the assignment after the step advance (R72). -/
theorem offPlanJudged_processPour (hl : f.loader < 4) (hs : s.faults.sound) (ho : (s.charged f).sys.sessionOpen = true)
    (before : s.offPlanKept (s.charged f)) : s.offPlanJudged (s.processPour f) f.loader f.spout f.belt := by
  have hcharged : (s.charged f).faults.sound := ((keeps.refl s).accountPour.deadbandTest).faults hs
  have hadvance : (s.charged f).advance.faults.sound := ((keeps.refl (s.charged f)).advanceFrom).faults hcharged
  have hopen : (s.charged f).advance.sys.sessionOpen = true := ((advanceFrom_only 65 _).sessionOpen (by decide)).trans ho
  have hpace := pacePour_only ((s.charged f).trackPour f.loader f.spout f.belt) (s.charged f).reasonSets f.loader
    (!(s.loader f.loader).baselineSeen) f.belt
  refine (offPlanTest_judged (s := (s.charged f).advance) hl hadvance hopen).around hl
    (before.trans (.advanceFrom 65 _)) ((offPlanKept.pacePour _ _ _ _ _).trans (offPlanKept.tellModeIf _ _)) ?_
  refine ((tracksAlike.pacePour _ _ _ _ _).trans (.of_only (tellModeIf_only _ _) (by decide))).assignment ?_ _
  exact ((tellModeIf_only _ _).activePlan (by decide)).trans (hpace.activePlan (by decide))

/-! ### The account of a POUR (R24 to R27) -/

theorem offPlanKept_accountPour (s : State) (f : PourFields) : s.offPlanKept (s.accountPour f) := by
  have hmod (u : State) (l : Nat) (g : LoaderRec → LoaderRec) : u.offPlanKept (u.modLoader l g) :=
    .still (modLoader_only u l g) (by decide) (by decide) (by decide)
  have hnone (d : Nat) : s.offPlanKept (s.chargeNone f.loader d) :=
    ((hmod s _ _).trans (.still (bs := [.shore]) (only_shore _ _) (by decide) (by decide) (by decide))).trans
      (.raiseFault _ (k := .pourUnattributed) _ (by decide))
  have hcharge : s.offPlanKept (s.charge f.loader f.cumulative) := by
    obtain hs | ⟨h, hs⟩ := s.spout_cases f.loader
    · rw [charge_none hs]
      exact (offPlanKept.ite (.refl s) (hnone _)).trans (hmod _ _ _)
    · rw [charge_some hs]
      exact (offPlanKept.still (modHold_only s h _) (by decide) (by decide) (by decide)).trans (hmod _ _ _)
  exact (offPlanKept.ite hcharge (hmod s _ _)).trans (hmod _ _ _)

/-- The first POUR of a loader sets its baseline. -/
theorem loader_firstPour (hl : f.loader < 4) (h : (s.loader f.loader).baselineSeen = false) :
    (s.accountPour f).loader f.loader = { s.loader f.loader with
      baselineSeen := true, baseline := f.cumulative, lastCum := f.cumulative, sessionTonnage := 0
      spout := f.spout, belt := f.belt, lastPour := some s.now } := by
  unfold accountPour
  rw [if_neg (by rw [h]; nofun), recordPour, loader_modLoader _ _ _ hl, setBaseline, loader_modLoader _ _ _ hl]
  rfl

theorem accountPour_other (s : State) {m : Nat} (h : m ≠ f.loader) : (s.accountPour f).loader m = s.loader m := by
  unfold accountPour
  refine (loader_modLoader_other _ _ _ _ h).trans ?_
  split
  · exact loader_charge_other h _
  · exact loader_modLoader_other _ _ _ _ h

/-- The first POUR of a loader charges no hold. -/
theorem shore_firstPour (h : (s.loader f.loader).baselineSeen = false) :
    (s.accountPour f).shore = { s.shore with loaders := (s.accountPour f).shore.loaders } := by
  unfold accountPour
  rw [if_neg (by rw [h]; nofun)]
  rfl

theorem chargedHold_first (h : (s.loader f.loader).baselineSeen = false) : s.chargedHold f = none :=
  if_neg fun ⟨hseen, _⟩ => Bool.false_ne_true (h.symm.trans hseen)

/-! ### A POUR that arrives (R22, R23) -/

theorem takePour_processed {p : List Byte} (hread : readPour p = some f)
    (hr : ¬((s.loader f.loader).baselineSeen = true ∧ f.cumulative < (s.loader f.loader).lastCum))
    (hf : ∀ h, f.spout = some h → s.bank.holdFitted h = true) : s.takePour p = s.processPour f := by
  unfold takePour
  rw [hread]
  dsimp only
  rw [if_neg hr]
  refine if_pos ?_
  split
  next h hs => exact hf h hs
  next => rfl

/-- The spout hold of a POUR over a fitted hold or none. -/
theorem fitted_spout {b : ShipBank} {h : Byte} (hfit : h.toNat = 15 ∨ b.holdFitted h.toNat = true) :
    (h.toNat < 10 ∨ h.toNat = 15) ∧ ∀ k, (if h.toNat < 10 then some h.toNat else none) = some k → b.holdFitted k = true := by
  constructor
  · refine hfit.symm.imp_left fun hf => ?_
    exact of_decide_eq_true (Bool.and_eq_true_iff.1 hf).1
  · intro k hk
    split at hk
    · obtain rfl := Option.some.inj hk
      exact hfit.resolve_left (by omega)
    · cases hk

variable {dst src seq h b : Byte} {c : Word32} {rate : Word16}

/-- The part when a POUR has been counted and taken as a sign of life. -/
def poured (s : State) : State := (s.countAccepted .shore).signOfLife

theorem exec_pour (hs : s.inService) (hsrc : s.otherNode src) (hd : dst ≠ 0) (hdst : dst = s.bank.ownAddress ∨ dst = allNodes)
    {l : Byte} : exec (.pour dst src seq l h c b rate) s
      = .next ((s.countAccepted .shore).takeShore (pourTelegram dst src seq l h c b rate)) := by
  have hrecv := receive_taken (t := pourTelegram dst src seq l h c b rate) hs hsrc hd hdst (show 9 ≤ 56 by decide) (by rfl)
  exact (exec_ready (f := (State.receive · .shore (pourTelegram dst src seq l h c b rate))) hs.ready rfl).trans
    (congrArg _ hrecv)

theorem takeShore_pour (ho : s.sys.sessionOpen = true) {l : Byte} :
    (s.countAccepted .shore).takeShore (pourTelegram dst src seq l h c b rate) = s.poured.takePour (pourPayload l h c b rate) :=
  if_pos ⟨rfl, ho⟩

theorem takeShore_closed (ho : s.sys.sessionOpen = false) {l : Byte} :
    (s.countAccepted .shore).takeShore (pourTelegram dst src seq l h c b rate) = s.poured :=
  if_neg fun ⟨_, h⟩ => Bool.false_ne_true (ho.symm.trans h)

theorem poured_only (s : State) : s.onlyChanges [.shore, .pacing, .out, .faults, .tracker, .reports] s.poured :=
  ((countAccepted_only s .shore).andThen (signOfLife_only _)).mono (by decide)

theorem shore_poured (s : State) : s.poured.shore = { s.shore with silence := .watching (s.now + s.bank.silenceTimeout) } :=
  signOfLife_shore _

theorem loader_poured (s : State) (m : Nat) : s.poured.loader m = s.loader m := by
  unfold loader
  rw [shore_poured]

theorem hold_poured (s : State) (k : Nat) : s.poured.hold k = s.hold k := by
  unfold hold
  rw [shore_poured]

theorem offPlanKept_poured (s : State) : s.offPlanKept s.poured :=
  (offPlanKept.still (countAccepted_only s .shore) (by decide) (by decide) (by decide)).trans (.signOfLife _)

theorem poured_watching (h : s.shore.silence ≠ .silent) : s.onlyChanges [.shore, .out] s.poured := by
  unfold poured
  rw [signOfLife_watching (s := s.countAccepted .shore) h]
  exact ((countAccepted_only s .shore).andThen (watchShore_only _)).mono (by decide)

end State

open State in
/-- Settles O14: the account, the tracker and the pacing block of a first POUR, one after the other. -/
theorem firstPourSetsTheBaseline : Obligations.FirstPourSetsTheBaseline := by
  intro s dst src seq l h c b rate belt hs ho hsrc hd hdst hl hc hb hfit hseen
  obtain ⟨hrange, hspout⟩ := fitted_spout hfit
  have hread := readPour_payload (rate := rate) hl hc hb hrange
  have hexec := exec_pour (seq := seq) (h := h) (c := c) (b := b) (rate := rate) (l := l) hs hsrc hd hdst
  have honly := s.poured_only
  have hseen' : (s.poured.loader l.toNat).baselineSeen = false := by rw [loader_poured]; exact hseen
  rw [takeShore_pour ho, takePour_processed hread (fun hr => Bool.false_ne_true (hseen'.symm.trans hr.1))
    (fun k hk => by rw [honly.bank (by decide)]; exact hspout k hk)] at hexec
  generalize hf : (⟨l.toNat, if h.toNat < 10 then some h.toNat else none, c.toNat, belt⟩ : PourFields) = f at hexec hread
  have hloader : f.loader = l.toNat := by rw [← hf]
  rw [← hloader] at hl hseen'
  have hcharged : s.poured.charged f = s.poured.accountPour f := by unfold charged; rw [chargedHold_first hseen']; rfl
  have hshore : (s.poured.charged f).shore = { s.poured.shore with loaders := (s.poured.charged f).shore.loaders } := by
    rw [hcharged]; exact shore_firstPour hseen'
  have hafter := processPour_only s.poured f
  refine ⟨_, hexec, ?_, fun m hm => ?_, fun k => ?_, ?_, ?_, fun hsound => ?_, ?_⟩
  · rw [loader_processPour, hcharged, ← hloader, loader_firstPour hl hseen', loader_poured, honly.now (by decide), ← hf]
  · rw [loader_processPour, hcharged, accountPour_other _ (hloader ▸ hm), loader_poured]
  · rw [hold_processPour, ← hold_poured s]
    unfold hold
    rw [hshore]
  · rw [shore_processPour, hshore, shore_poured]
  · rw [shore_processPour, hshore, shore_poured]
  · have hopen : (s.poured.charged f).sys.sessionOpen = true := by
      rw [hcharged, (accountPour_only _ f).sessionOpen (by decide), honly.sessionOpen (by decide), ho]
    have hj := offPlanJudged_processPour (s := s.poured) hl ((keeps.refl s).countAccepted.signOfLife.faults hsound) hopen
      (hcharged ▸ offPlanKept_accountPour _ f)
    subst hf
    exact hj.around hl (offPlanKept_poured s) (.refl _) rfl
  · rw [hcharged] at hafter
    exact ((honly.andThen (accountPour_only _ f)).andThen hafter).mono (by decide)

end Sys2Proof.Machine
end
section
/-! PROOFS. A later POUR of a loader (R25, R26), its overpour test (R89), and a POUR that is rejected (R22, R23). -/

namespace Sys2Proof.Machine

namespace State
variable {s t u : State} {bs : List Block} {l : Nat} {f : PourFields}

/-! ### The deadband test of a POUR with no ship group sealed (R28, R37) -/

theorem switchSealed_unsealed (h : s.mgmt.ship.isSealed = false) :
    s.switchSealed = if s.mgmt.plan.isSealed then s.switchPlan else s := by
  have hship : ¬s.mgmt.ship.isSealed = true := by rw [h]; nofun
  unfold switchSealed
  rw [if_neg hship]

/-- What a request can change while no ship group is sealed. -/
abbrev planStart : List Block := [.engine, .plan, .tanks, .pacing, .out, .faults, .tracker, .reports, .screen, .stations]

theorem beginEvaluation_unsealed (h : s.mgmt.ship.isSealed = false) :
    s.onlyChanges planStart s.beginEvaluation ∧ s.offPlanKept s.beginEvaluation := by
  have hstart : s.onlyChanges [.engine] s.engineStarts := only_engine s _
  have hsw : s.engineStarts.switchSealed = if s.mgmt.plan.isSealed then s.engineStarts.switchPlan else s.engineStarts :=
    switchSealed_unsealed h
  have hswitch : s.engineStarts.onlyChanges ([.plan] ++ pacingBlocks) s.engineStarts.switchSealed :=
    hsw ▸ onlyChanges_ite (switchPlan_only _) (onlyChanges_refl _ _)
  have hkept : s.engineStarts.offPlanKept s.engineStarts.switchSealed := hsw ▸ .ite (.switchPlan _) (.refl _)
  have hsnap (u : State) : u.onlyChanges [.engine] u.engineSnapshots := only_engine u _
  have hbegun := (((hstart.andThen hswitch).andThen (growUncertainty_only _)).andThen (hsnap _)).mono
    (m := planStart) (by decide)
  have hbegun' := (((offPlanKept.still hstart (by decide) (by decide) (by decide)).trans hkept).trans
    (.still (growUncertainty_only _) (by decide) (by decide) (by decide))).trans
    (.still (hsnap _) (by decide) (by decide) (by decide))
  unfold beginEvaluation
  dsimp only
  split
  · exact ⟨(hbegun.andThen (reexamine_only _)).mono (by decide), hbegun'.trans (.reexamine _)⟩
  · exact ⟨hbegun, hbegun'⟩

theorem deadbandTest_unsealed (h : s.mgmt.ship.isSealed = false) (k : Option Nat) :
    s.onlyChanges planStart (s.deadbandTest k) ∧ s.offPlanKept (s.deadbandTest k) := by
  have hsame : s.onlyChanges planStart s ∧ s.offPlanKept s := ⟨onlyChanges_refl _ s, .refl s⟩
  unfold deadbandTest
  split
  · exact hsame
  · split
    · unfold requestEvaluation
      split
      · exact hsame
      · split
        · exact ⟨(only_engine s _).mono (by decide), .still (only_engine s _) (by decide) (by decide) (by decide)⟩
        · exact beginEvaluation_unsealed h
    · exact hsame

/-- With neither group sealed an evaluation start touches the engine and the uncertainties alone. -/
theorem deadbandTest_calm (h : s.mgmt.ship.isSealed = false) (hp : s.mgmt.plan.isSealed = false) (k : Option Nat) :
    s.onlyChanges [.engine, .tanks] (s.deadbandTest k) := by
  have hsw : s.engineStarts.switchSealed = s.engineStarts :=
    (switchSealed_unsealed (s := s.engineStarts) h).trans (if_neg (by rw [show s.engineStarts.mgmt.plan.isSealed = _ from hp]; nofun))
  have hstart : s.onlyChanges [.engine] s.engineStarts := only_engine s _
  have hsnap (u : State) : u.onlyChanges [.engine] u.engineSnapshots := only_engine u _
  have hbegin : s.onlyChanges [.engine, .tanks] s.beginEvaluation := by
    unfold beginEvaluation
    rw [h, hp, hsw]
    exact ((hstart.andThen (growUncertainty_only _)).andThen (hsnap _)).mono (by decide)
  unfold deadbandTest
  split
  · exact onlyChanges_refl _ s
  · refine onlyChanges_ite ?_ (onlyChanges_refl _ s)
    exact onlyChanges_ite (onlyChanges_refl _ s) (onlyChanges_ite ((only_engine s _).mono (by decide)) hbegin)

/-! ### The account of a later POUR (R25, R26) -/

theorem loader_laterPour (hl : f.loader < 4) (h : (s.loader f.loader).baselineSeen = true)
    (hc : (s.loader f.loader).lastCum ≤ f.cumulative) :
    (s.accountPour f).loader f.loader = { s.loader f.loader with
      lastCum := f.cumulative, sessionTonnage := (f.cumulative : Int) - ((s.loader f.loader).baseline : Int)
      spout := f.spout, belt := f.belt, lastPour := some s.now
      unattributed := if (s.loader f.loader).spout = none
        then (s.loader f.loader).unattributed + ((f.cumulative : Int) - ((s.loader f.loader).lastCum : Int))
        else (s.loader f.loader).unattributed } := by
  have hnow : (s.charge f.loader f.cumulative).now = s.now := (charge_only s _ _).now (by decide)
  unfold accountPour
  rw [if_pos h, recordPour, loader_modLoader _ _ _ hl, loader_charge hl, hnow, loose]
  split
  · rw [Nat.cast_sub hc]
  · rw [add_zero]

theorem hold_laterPour (h : (s.loader f.loader).baselineSeen = true) (hc : (s.loader f.loader).lastCum ≤ f.cumulative)
    {k : Nat} (hk : k < 10) (hs : (s.loader f.loader).spout = some k) :
    (s.accountPour f).hold k = { s.hold k with
      attributed := (s.hold k).attributed + ((f.cumulative : Int) - ((s.loader f.loader).lastCum : Int))
      mass := (s.hold k).mass + ((f.cumulative : Int) - ((s.loader f.loader).lastCum : Int)) } := by
  have hcharge := hold_charge s f.loader f.cumulative hk
  rw [brought_same hs, Nat.cast_sub hc] at hcharge
  unfold accountPour
  rw [if_pos h]
  exact hcharge

theorem hold_laterPour_other (h : (s.loader f.loader).baselineSeen = true) {k : Nat} (hs : (s.loader f.loader).spout ≠ some k) :
    (s.accountPour f).hold k = s.hold k := by
  have hcharge : (s.charge f.loader f.cumulative).hold k = s.hold k := by
    obtain hnone | ⟨j, hj⟩ := s.spout_cases f.loader
    · rw [charge_none hnone]
      split
      · rfl
      · unfold hold setCumulative
        rw [modLoader_shore, shore_chargeNone]
    · rw [charge_some hj]
      exact hold_modHold_other s j k _ fun e => hs (e ▸ hj)
  unfold accountPour
  rw [if_pos h]
  exact hcharge

theorem unattributed_laterPour (h : (s.loader f.loader).baselineSeen = true) (hc : (s.loader f.loader).lastCum ≤ f.cumulative) :
    (s.accountPour f).shore.unattributed = if (s.loader f.loader).spout = none
      then s.shore.unattributed + ((f.cumulative : Int) - ((s.loader f.loader).lastCum : Int)) else s.shore.unattributed := by
  have hcharge := unattributed_charge s f.loader f.cumulative
  unfold loose at hcharge
  rw [Nat.cast_sub hc] at hcharge
  unfold accountPour
  rw [if_pos h]
  refine hcharge.trans ?_
  split
  · rfl
  · exact add_zero _

/-! ### The episode and OVERPOUR of one loader (R89) -/

/-- One loader's episode figure, its OVERPOUR and the mode are as they were. -/
structure overpourKept (l : Nat) (s t : State) : Prop where
  figure : (t.pause l).state.episode.bind Episode.overpour = (s.pause l).state.episode.bind Episode.overpour
  active : t.faults.active .overpour l = s.faults.active .overpour l
  mode : t.sys.mode = s.sys.mode

/-- One loader's pause state and its OVERPOUR are as they were. -/
structure stateKept (l : Nat) (s t : State) : Prop where
  state : (t.pause l).state = (s.pause l).state
  active : t.faults.active .overpour l = s.faults.active .overpour l

namespace overpourKept

theorem trans (h : overpourKept l s t) (k : overpourKept l t u) : overpourKept l s u :=
  ⟨k.figure.trans h.figure, k.active.trans h.active, k.mode.trans h.mode⟩

theorem of_stateKept (h : stateKept l s t) (hm : t.sys.mode = s.sys.mode) : overpourKept l s t :=
  ⟨by rw [h.state], h.active, hm⟩

end overpourKept

namespace stateKept

theorem refl (s : State) : stateKept l s s := ⟨rfl, rfl⟩

theorem trans (h : stateKept l s t) (k : stateKept l t u) : stateKept l s u :=
  ⟨k.state.trans h.state, k.active.trans h.active⟩

theorem ite {p : Prop} [Decidable p] (h : stateKept l s t) (k : stateKept l s u) : stateKept l s (if p then t else u) := by
  split <;> assumption

theorem frame {ks : List FaultKind} (k : s.onlyChanges bs t) (m : s.marksOnly ks t) (hk : .overpour ∉ ks)
    (hp : Block.pacing ∉ bs) : stateKept l s t := ⟨by rw [k.pause hp], m .overpour l hk⟩

theorem still (k : s.onlyChanges bs t) (hp : Block.pacing ∉ bs) (hf : Block.faults ∉ bs) : stateKept l s t :=
  frame (ks := []) k (k.marksOnly [] hf) (by decide) hp

theorem addReasonAll (s : State) (r : Reason) (hl : l < 4) : stateKept l s (s.addReasonAll r) := by
  refine ⟨?_, by rw [(addReasonAll_only s r).faults (by decide)]⟩
  rw [pause_addReasonAll s r hl, withReason]
  split <;> rfl

theorem addReason (s : State) (r : Reason) (hl : l < 4) : stateKept l s (s.addReason l r) := by
  refine ⟨?_, by rw [(addReason_only s l r).faults (by decide)]⟩
  rw [pause_addReason hl, withReason]
  split <;> rfl

theorem removeReason (s : State) (r : Reason) (hl : l < 4) : stateKept l s (s.removeReason l r) := by
  refine ⟨?_, by rw [(removeReason_only s l r).faults (by decide)]⟩
  rw [pause_removeReason hl]

theorem completePlan (s : State) (hl : l < 4) : stateKept l s s.completePlan :=
  (still (setTracking_only s _) (by decide) (by decide)).trans (addReasonAll _ _ hl)

theorem advanceFrom (hl : l < 4) (n : Nat) (s : State) : stateKept l s (advanceFrom n s) := by
  have hrecord (s : State) (a : ActiveStep) : stateKept l s (s.recordStep a) :=
    still (recordStep_only s a) (by decide) (by decide)
  induction n generalizing s with
  | zero => exact refl s
  | succ n ih =>
    unfold State.advanceFrom
    split
    · exact ite (ite ((hrecord s _).trans (completePlan _ hl))
        (((hrecord s _).trans (still (nextStep_only _ _) (by decide) (by decide))).trans (ih _))) (refl s)
    · exact refl s

theorem offPlanTest (s : State) (spout : Option Nat) (b : Belt) (hl : l < 4) : stateKept l s (s.offPlanTest l spout b) := by
  have hset (v : Bool) : stateKept l s (s.setOffPlan l v) := still (setOffPlan_only s l v) (by decide) (by decide)
  have hraise (u : State) : stateKept l u (u.raiseFault .offPlan l) :=
    frame (raiseFault_only u _ l) (raiseFault_marks u _ l) (by decide) (by decide)
  have hclear (u : State) : stateKept l u (u.clearFault .offPlan l) :=
    frame (clearFault_only u _ l) (clearFault_marks u _ l) (by decide) (by decide)
  exact ite (ite (refl s) (((hset _).trans (addReason _ _ hl)).trans (hraise _)))
    (ite (((hset _).trans (removeReason _ _ hl)).trans (hclear _)) (refl s))

theorem followSafe (s : State) (m : Mode) (hl : l < 4) : stateKept l s (s.followSafe m) := ite (addReasonAll s _ hl) (refl s)

/-- The account of a POUR raises POUR_UNATTRIBUTED at most. -/
theorem accountPour (s : State) (f : PourFields) : stateKept l s (s.accountPour f) := by
  have hmod (u : State) (m : Nat) (g : LoaderRec → LoaderRec) : stateKept l u (u.modLoader m g) :=
    still (modLoader_only u m g) (by decide) (by decide)
  have hraise (u : State) (m : Nat) : stateKept l u (u.raiseFault .pourUnattributed m) :=
    frame (raiseFault_only u _ m) (raiseFault_marks u _ m) (by decide) (by decide)
  have hnone (d : Nat) : stateKept l s (s.chargeNone f.loader d) :=
    ((hmod s _ _).trans (still (bs := [.shore]) (only_shore _ _) (by decide) (by decide))).trans (hraise _ _)
  have hcharge : stateKept l s (s.charge f.loader f.cumulative) := by
    obtain hs | ⟨h, hs⟩ := s.spout_cases f.loader
    · rw [charge_none hs]
      exact (ite (refl s) (hnone _)).trans (hmod _ _ _)
    · rw [charge_some hs]
      exact (still (modHold_only s h _) (by decide) (by decide)).trans (hmod _ _ _)
  exact (ite hcharge (hmod s _ _)).trans (hmod _ _ _)

end stateKept

end State

end Sys2Proof.Machine
end
section
/-! PROOFS. The overpour test of a POUR among the events around it (R89, R173), and the POURs that are rejected (R23). -/

namespace Sys2Proof.Machine

namespace State
variable {s t u : State} {l : Nat} {f : PourFields}

/-! ### A loader that stays filled (R78, R84) -/

theorem mode_clearFault (s : State) (k : FaultKind) (x : Nat) : (s.clearFault k x).sys.mode = s.sys.mode :=
  (clearFault_only s k x).mode (by decide)

/-- A release ends the overpour of its own loader alone (R90). -/
theorem active_release_other (s : State) {i : Nat} (h : l ≠ i) :
    (s.release i).faults.active .overpour l = s.faults.active .overpour l := by
  unfold release
  extract_lets a b c d
  have hb : b.faults.active .overpour l = s.faults.active .overpour l := by
    rw [((originate_only s .shore _ _).andThen (modPause_only a i _)).faults (by decide)]
  have hc : c.faults.active .overpour l = s.faults.active .overpour l :=
    (active_clearFault_other _ _ h).trans ((clearFault_marks b .pauseUnconfirmed i .overpour l (by decide)).trans hb)
  have hd : d.faults.active .overpour l = s.faults.active .overpour l := by
    dsimp only [d]
    split
    · rw [(closeEpisode_only c i _).faults (by decide), hc]
    · exact hc
  split
  · exact (congrArg (Faults.active · .overpour l) ((modStep_only d _).faults (by decide))).trans hd
  · exact hd

theorem active_actLoader_stays (s : State) (i : Nat) (b : ReasonSet) (o : Bool) (hr : (s.pause l).reasons ≠ 0) :
    (s.actLoader i b o).faults.active .overpour l = s.faults.active .overpour l := by
  have hrepeat : (s.repeatPause i).faults = s.faults := ((modPause_only s i _).andThen (sendPause_only _ i)).faults (by decide)
  have hopen : (s.openEpisode i).faults.active .overpour l = s.faults.active .overpour l :=
    openEpisode_marks s i .overpour l (by decide)
  unfold actLoader
  dsimp only
  split
  · split
    · rfl
    · exact hopen
  · split
    next hempty => exact active_release_other s fun e => hr (e ▸ hempty)
    next =>
      split
      · rfl
      · rw [hrepeat]

/-- A loader whose set is filled before and after an event keeps its episode's figure and its OVERPOUR. -/
theorem overpourKept_actOn {b : Nat → ReasonSet} (o : Option Nat) (hl : l < 4) (hb : b l ≠ 0) (hr : (s.pause l).reasons ≠ 0) :
    overpourKept l s (s.actOn b o) := by
  have hboth : (s.actOn b o).faults.active .overpour l = s.faults.active .overpour l ∧ ((s.actOn b o).pause l).reasons ≠ 0 := by
    refine forEach_keeps (I := fun u => u.faults.active .overpour l = s.faults.active .overpour l ∧ (u.pause l).reasons ≠ 0)
      (fun i u hu => ⟨(active_actLoader_stays u i _ _ hu.2).trans hu.1, ?_⟩) ⟨rfl, hr⟩
    by_cases hi : i = l
    · subst hi
      rw [reasons_actLoader hl]
      exact hu.2
    · rw [pause_actLoader_other (Ne.symm hi)]
      exact hu.2
  refine ⟨?_, hboth.1, (actOn_only s b o).mode (by decide)⟩
  rw [pause_actOn s b o hl]
  unfold actedPause
  rw [if_neg hb, if_neg hr]
  split
  · rfl
  · unfold PauseRec.mapEpisode
    cases (s.pause l).state <;> rfl

theorem overpourKept_applyBelt (s : State) (hl : l < 4) (b : Belt) : overpourKept l s (s.applyBelt l b) := by
  have hclear (u : State) : overpourKept l u (u.clearFault .pauseUnconfirmed l) :=
    .of_stateKept (.frame (clearFault_only u _ l) (clearFault_marks u _ l) (by decide) (by decide)) (mode_clearFault u _ l)
  have hmod (g : PauseRec → PauseRec)
      (hg : (g (s.pause l)).state.episode.bind Episode.overpour = (s.pause l).state.episode.bind Episode.overpour) :
      overpourKept l s (s.modPause l g) := ⟨by rw [pause_modPause s l _ hl]; exact hg, rfl, rfl⟩
  unfold applyBelt
  extract_lets now timer
  split
  next e hs => exact (hmod _ (by rw [hs]; rfl)).trans (hclear _)
  next e hs => exact (hmod _ (by rw [hs]; rfl)).trans (hclear _)
  next e hs => exact hmod _ (by rw [hs]; rfl)
  next => exact ⟨rfl, rfl, rfl⟩

theorem reasons_applyBelt (s : State) (hl : l < 4) (b : Belt) : ((s.applyBelt l b).pause l).reasons = (s.pause l).reasons := by
  have hmod (g : PauseRec → PauseRec) (hg : ∀ p, (g p).reasons = p.reasons) :
      ((s.modPause l g).pause l).reasons = (s.pause l).reasons := by rw [pause_modPause s l _ hl, hg]
  unfold applyBelt
  extract_lets now timer
  split
  · rw [(clearFault_only _ _ _).pause (by decide)]
    exact hmod _ fun _ => rfl
  · rw [(clearFault_only _ _ _).pause (by decide)]
    exact hmod _ fun _ => rfl
  · exact hmod _ fun _ => rfl
  · rfl

theorem overpourKept_tellModeIf (s : State) (m : Mode) : overpourKept l s (s.tellModeIf m) := by
  refine .of_stateKept (.ite (.refl s) ?_) ((tellModeIf_only s m).mode (by decide))
  exact (stateKept.still (sendBeacon_only s) (by decide) (by decide)).trans
    (.frame (reexamine_only _) (reexamine_marks _) (by decide) (by decide))

/-! ### The overpour test (R89) -/

/-- Beyond the grace mark the episode takes the figure, and the first time OVERPOUR is raised. -/
theorem judgeOverpour_over {e : Episode} {g : Nat} (hl : l < 4) (hs : s.faults.sound) (hw : s.working = true)
    (ho : s.sys.sessionOpen = true) (he : (s.pause l).state.episode = some e) (hg : e.grace = some g)
    (hc : g < (s.loader l).lastCum) :
    ((s.judgeOverpour l).pause l).state.episode.bind Episode.overpour = some (max (s.loader l).lastCum (e.overpour.getD 0))
      ∧ (e.overpour = none → (s.judgeOverpour l).faults.active .overpour l = true
        ∧ (s.faults.active .overpour l = false → s.bank.safeOverpour = true → (s.judgeOverpour l).sys.mode = .safe)) := by
  generalize ha : (s.modPause l fun p => p.mapEpisode fun e =>
    { e with overpour := some (max (s.loader l).lastCum (e.overpour.getD 0)) }) = a
  have hfigure : (a.pause l).state.episode.bind Episode.overpour = some (max (s.loader l).lastCum (e.overpour.getD 0)) := by
    rw [← ha, pause_modPause s l _ hl]
    unfold PauseRec.mapEpisode
    cases hst : (s.pause l).state with
    | free => rw [hst] at he; cases he
    | pauseSent x => rw [hst] at he; obtain rfl := Option.some.inj he; rfl
    | paused x => rw [hst] at he; obtain rfl := Option.some.inj he; rfl
  have hframe : s.onlyChanges [.pacing] a := ha ▸ modPause_only s l _
  have hj : s.judgeOverpour l = if e.overpour.isNone then a.raiseFault .overpour l else a := by
    unfold judgeOverpour
    rw [he]
    dsimp only
    rw [hg]
    dsimp only
    rw [if_pos ⟨ho, hc⟩, ha]
  rw [hj]
  by_cases hn : e.overpour = none
  · have hsa : a.faults.sound := hframe.faults (by decide) ▸ hs
    rw [if_pos (by rw [hn]; rfl), (raiseFault_only a _ l).pause (by decide)]
    refine ⟨hfigure, fun _ => ⟨active_raiseFault hsa rfl l, fun hoff hesc => ?_⟩⟩
    refine mode_raiseFault hsa ((hframe.working (by decide)).trans hw) ?_ ?_
    · rw [hframe.bank (by decide)]
      exact hesc
    · rw [hframe.faults (by decide)]
      exact hoff
  · rw [if_neg fun h => hn (Option.isNone_iff_eq_none.1 h)]
    exact ⟨hfigure, fun h => absurd h hn⟩

/-- At or below the grace mark the overpour test does nothing. -/
theorem judgeOverpour_within {e : Episode} {g : Nat} (he : (s.pause l).state.episode = some e) (hg : e.grace = some g)
    (hc : (s.loader l).lastCum ≤ g) : s.judgeOverpour l = s := by
  unfold judgeOverpour
  rw [he]
  dsimp only
  rw [hg]
  exact if_neg fun h => absurd h.2 (not_lt.2 hc)

/-- The judgement of the test is that of all that goes on around it. -/
theorem overpourJudged_around {v w : State} {c : Nat} {e : Episode} (hl : l < 4) (hs : v.faults.sound) (hw : v.working = true)
    (ho : v.sys.sessionOpen = true) (hc : (v.loader l).lastCum = c) (hbank : v.bank = s.bank)
    (before : stateKept l s v) (hv : w = v.judgeOverpour l) (after : overpourKept l w t)
    (he : (s.pause l).state.episode = some e) : s.overpourJudged t l c e := by
  have he' : (v.pause l).state.episode = some e := by rw [before.state]; exact he
  intro g hg
  subst hv
  refine ⟨fun hgc => ?_, fun hcg => ?_⟩
  · obtain ⟨hfigure, hraised⟩ := judgeOverpour_over hl hs hw ho he' hg (hc ▸ hgc)
    rw [hc] at hfigure
    refine ⟨after.figure.trans hfigure, fun hn => ?_⟩
    obtain ⟨hactive, hsafe⟩ := hraised hn
    refine ⟨after.active.trans hactive, fun hoff hesc => after.mode.trans (hsafe (before.active.trans hoff) (hbank ▸ hesc))⟩
  · have hsame := judgeOverpour_within he' hg (hc ▸ hcg)
    rw [hsame] at after
    refine ⟨after.figure.trans ?_, after.active.trans before.active⟩
    rw [he']
    rfl

/-! ### A rejected POUR (R22, R23) -/

theorem quiet_signOfLife (s : State) : s.quiet s.signOfLife := by
  have hwatch : s.quiet s.watchShore := (watchShore_only s).quiet (by decide)
  unfold signOfLife
  split
  · exact (hwatch.trans (quiet_clearFault _ _ _)).trans (quiet_pacingEvent _ _ (removeReasonAll_only _ _))
  · exact hwatch
  · exact hwatch

/-- A sign of life and an advisory are all there is to a POUR that is rejected. -/
theorem pourRejected_advise (s : State) {k : Advisory} (x : Nat) (hk : k ≠ .queueDrop) :
    s.pourRejected (s.poured.advise k x) k where
  signOfLife := ((advise_only s.poured k x).shore (by decide)).trans (shore_poured s)
  counted := by
    refine (advised_advise s.poured x hk).trans (congrArg satSucc ?_)
    exact ((quiet_signOfLife (s.countAccepted .shore)).advised k hk).trans (advised_countAccepted s .shore k)
  quiet h := ((poured_watching h).andThen (advise_only _ _ _)).mono (by decide)
  frame := ((poured_only s).andThen (advise_only _ _ _)).mono (by decide)

theorem takePour_unread {p : List Byte} (h : readPour p = none) : s.takePour p = s.advise .badPour (badPourSubject p) := by
  unfold takePour
  rw [h]

theorem takePour_regresses {p : List Byte} (hread : readPour p = some f)
    (hr : (s.loader f.loader).baselineSeen = true ∧ f.cumulative < (s.loader f.loader).lastCum) :
    s.takePour p = s.advise .pourRegression f.loader := by
  unfold takePour
  rw [hread]
  exact if_pos hr

theorem takePour_unfitted {p : List Byte} {h : Nat} (hread : readPour p = some f)
    (hr : ¬((s.loader f.loader).baselineSeen = true ∧ f.cumulative < (s.loader f.loader).lastCum))
    (hs : f.spout = some h) (hf : s.bank.holdFitted h = false) : s.takePour p = s.advise .badPour f.loader := by
  unfold takePour
  rw [hread]
  dsimp only
  rw [if_neg hr, hs]
  exact if_neg fun h => Bool.false_ne_true (hf.symm.trans h)

end State

end Sys2Proof.Machine
end
section
/-! PROOFS. A later POUR of a loader, and a POUR that is rejected (O15). -/

namespace Sys2Proof.Machine

namespace State
variable {s t : State} {l : Nat} {f : PourFields}

/-- With no ship group sealed a POUR's charge leaves the deadband test off the shore unit. -/
theorem charged_unsealed (s : State) (f : PourFields) (h : s.mgmt.ship.isSealed = false) :
    (s.accountPour f).onlyChanges planStart (s.charged f) ∧ s.offPlanKept (s.charged f) := by
  have haccount := accountPour_only s f
  obtain ⟨honly, hkept⟩ := deadbandTest_unsealed (s := s.accountPour f)
    (by rw [haccount.shipGroup (by decide)]; exact h) (s.chargedHold f)
  exact ⟨honly, (offPlanKept_accountPour s f).trans hkept⟩

/-- The pacing of a POUR of a loader that has its baseline. -/
theorem processPour_later (h : (s.loader f.loader).baselineSeen = true) : s.processPour f
    = (((((s.charged f).trackPour f.loader f.spout f.belt).judgeOverpour f.loader).followSafe
        ((s.charged f).trackPour f.loader f.spout f.belt).sys.mode).actOn (s.charged f).reasonSets none
        |>.applyBelt f.loader f.belt).tellModeIf (s.charged f).sys.mode := by
  rw [processPour_eq, h]
  rfl

/-- A later POUR of a loader that stays paused is tested for overpour (R89), where no sealed group switches with it. -/
theorem overpourJudged_processPour (hl : f.loader < 4) (hseen : (s.loader f.loader).baselineSeen = true)
    (hc : (s.loader f.loader).lastCum ≤ f.cumulative) (hs : s.faults.sound) (hw : s.working = true)
    (ho : s.sys.sessionOpen = true) (hship : s.mgmt.ship.isSealed = false) (hplan : s.mgmt.plan.isSealed = false) {e : Episode}
    (he : (s.pause f.loader).state.episode = some e) (hr : (s.pause f.loader).reasons ≠ 0)
    (ht : ((s.processPour f).pause f.loader).reasons ≠ 0) : s.overpourJudged (s.processPour f) f.loader f.cumulative e := by
  have haccount := accountPour_only s f
  have hcalm : (s.accountPour f).onlyChanges [.engine, .tanks] (s.charged f) :=
    deadbandTest_calm (by rw [haccount.shipGroup (by decide)]; exact hship)
      (by rw [haccount.planGroup (by decide)]; exact hplan) (s.chargedHold f)
  have hcharged := haccount.andThen hcalm
  have htrack := hcharged.andThen (trackPour_only (s.charged f) f.loader f.spout f.belt)
  have hbefore : stateKept f.loader s ((s.charged f).trackPour f.loader f.spout f.belt) :=
    (((stateKept.accountPour s f).trans (.still hcalm (by decide) (by decide))).trans
      (.advanceFrom hl 65 _)).trans (.offPlanTest _ _ _ hl)
  have hsound : ((s.charged f).trackPour f.loader f.spout f.belt).faults.sound :=
    ((keeps.refl s).accountPour.deadbandTest.trackPour).faults hs
  have hcum : (((s.charged f).trackPour f.loader f.spout f.belt).loader f.loader).lastCum = f.cumulative := by
    rw [(hcalm.andThen (trackPour_only (s.charged f) f.loader f.spout f.belt)).loader (by decide), loader_laterPour hl hseen hc]
  have hb : (s.charged f).reasonSets f.loader ≠ 0 := by
    unfold reasonSets
    rw [hcharged.pause (by decide)]
    exact hr
  rw [processPour_later hseen] at ht ⊢
  rw [(tellModeIf_only _ _).pause (by decide), reasons_applyBelt _ hl, reasons_actOn _ _ _ hl] at ht
  refine overpourJudged_around hl hsound ((htrack.working (by decide)).trans hw) ((htrack.sessionOpen (by decide)).trans ho)
    hcum (htrack.bank (by decide)) hbefore rfl ?_ he
  have hsafe := followSafe_only (((s.charged f).trackPour f.loader f.spout f.belt).judgeOverpour f.loader)
    ((s.charged f).trackPour f.loader f.spout f.belt).sys.mode
  exact (((overpourKept.of_stateKept (.followSafe _ _ hl) (hsafe.mode (by decide))).trans (overpourKept_actOn none hl hb ht)).trans
    (overpourKept_applyBelt _ hl _)).trans (overpourKept_tellModeIf _ _)

/-- A belt code in range is read. -/
theorem beltOf_some {n : Nat} (h : n ≤ 2) : ∃ x, beltOf n = some x := by
  interval_cases n
  · exact ⟨_, rfl⟩
  · exact ⟨_, rfl⟩
  · exact ⟨_, rfl⟩

end State

open State in
/-- Settles O15: the charge, the off-plan test and the overpour test of a later POUR, and the checks in their order. -/
theorem laterPourChargesThePreviousSpout : Obligations.LaterPourChargesThePreviousSpout := by
  constructor
  · intro s dst src seq l h c b rate belt hs ho hship hsrc hd hdst hl hc hb hfit hseen
    dsimp only
    intro hle
    obtain ⟨hrange, hspout⟩ := fitted_spout hfit
    have hread := readPour_payload (rate := rate) hl hc hb hrange
    have hexec := exec_pour (seq := seq) (h := h) (c := c) (b := b) (rate := rate) (l := l) hs hsrc hd hdst
    have honly := s.poured_only
    have hseen' : (s.poured.loader l.toNat).baselineSeen = true := by rw [loader_poured]; exact hseen
    have hle' : (s.poured.loader l.toNat).lastCum ≤ c.toNat := by rw [loader_poured]; exact hle
    rw [takeShore_pour ho, takePour_processed hread (fun hr => absurd hr.2 (not_lt.2 hle'))
      (fun k hk => by rw [honly.bank (by decide)]; exact hspout k hk)] at hexec
    generalize hf : (⟨l.toNat, if h.toNat < 10 then some h.toNat else none, c.toNat, belt⟩ : PourFields) = f at hexec hread
    have hloader : f.loader = l.toNat := by rw [← hf]
    have hcum : f.cumulative = c.toNat := by rw [← hf]
    have hship' : s.poured.mgmt.ship.isSealed = false := by rw [honly.shipGroup (by decide)]; exact hship
    rw [← hloader] at hl hseen'
    rw [← hloader, ← hcum] at hle'
    obtain ⟨hcharged, hkept⟩ := charged_unsealed s.poured f hship'
    have hafter := processPour_only s.poured f
    have hsound (hsound : s.faults.sound) : s.poured.faults.sound := (keeps.refl s).countAccepted.signOfLife.faults hsound
    refine ⟨_, hexec, ?_, fun m hm => ?_, fun k hk hr => ?_, fun k hr => ?_, ?_, fun hsnd => ?_, fun hsnd hplan hsil => ?_, ?_⟩
    · rw [loader_processPour, hcharged.loader (by decide), ← hloader, loader_laterPour hl hseen' hle', loader_poured,
        honly.now (by decide), ← hf]
    · rw [loader_processPour, hcharged.loader (by decide), accountPour_other _ (hloader ▸ hm), loader_poured]
    · rw [hold_processPour, hcharged.hold (by decide),
        hold_laterPour hseen' hle' hk (by rw [hloader, loader_poured]; exact hr), hloader, loader_poured, hold_poured, hcum]
    · rw [hold_processPour, hcharged.hold (by decide),
        hold_laterPour_other hseen' (by rw [hloader, loader_poured]; exact hr), hold_poured]
    · rw [shore_processPour, hcharged.shore (by decide)]
      dsimp only
      rw [unattributed_laterPour hseen' hle', hloader, loader_poured, hcum, shore_poured]
    · have hopen : (s.poured.charged f).sys.sessionOpen = true := by
        rw [hcharged.sessionOpen (by decide), (accountPour_only _ f).sessionOpen (by decide), honly.sessionOpen (by decide), ho]
      have hj := offPlanJudged_processPour (s := s.poured) hl (hsound hsnd) hopen hkept
      subst hf
      exact hj.around hl (offPlanKept_poured s) (.refl _) rfl
    · have hwatch := poured_watching hsil
      intro e he hr ht
      have hj := overpourJudged_processPour (s := s.poured) (e := e) hl hseen' hle' (hsound hsnd)
        ((honly.working (by decide)).trans hs.working) ((honly.sessionOpen (by decide)).trans ho) hship'
        (by rw [honly.planGroup (by decide)]; exact hplan) (by rw [hwatch.pause (by decide), hloader]; exact he)
        (by rw [hwatch.pause (by decide), hloader]; exact hr) (by rw [hloader]; exact ht)
      rw [hloader, hcum] at hj
      intro g hg
      obtain ⟨hover, hwithin⟩ := hj g hg
      rw [hwatch.faults (by decide), hwatch.bank (by decide)] at hover
      rw [hwatch.faults (by decide)] at hwithin
      exact ⟨hover, hwithin⟩
    · exact (((honly.andThen (accountPour_only _ f)).andThen hcharged).andThen hafter).mono (by decide)
  · intro s dst src seq l h c b rate hs hsrc hd hdst
    dsimp only
    have hexec := exec_pour (seq := seq) (h := h) (c := c) (b := b) (rate := rate) (l := l) hs hsrc hd hdst
    refine ⟨fun ho => ?_, fun ho => ?_⟩
    · rw [takeShore_pour ho] at hexec
      refine ⟨fun hbad => ?_, fun hin hreg => ?_, fun hin hreg hh hunfit => ?_⟩
      · rw [takePour_unread (readPour_bad hbad)] at hexec
        exact ⟨_, hexec, pourRejected_advise s _ (by decide)⟩
      · obtain ⟨hl, hc, hh, hb⟩ := hin
        obtain ⟨belt, hbelt⟩ := beltOf_some hb
        rw [takePour_regresses (readPour_payload hl hc hbelt hh) (by rw [loader_poured]; exact hreg)] at hexec
        exact ⟨_, hexec, pourRejected_advise s _ (by decide)⟩
      · obtain ⟨hl, hc, hrange, hb⟩ := hin
        obtain ⟨belt, hbelt⟩ := beltOf_some hb
        rw [takePour_unfitted (readPour_payload hl hc hbelt hrange) (by rw [loader_poured]; exact hreg) (if_pos hh)
          (by rw [s.poured_only.bank (by decide)]; exact hunfit)] at hexec
        exact ⟨_, hexec, pourRejected_advise s _ (by decide)⟩
    · rw [takeShore_closed ho] at hexec
      refine ⟨_, hexec, shore_poured s, fun hsil => ⟨?_, poured_watching hsil⟩, poured_only s⟩
      unfold poured
      rw [signOfLife_watching (s := s.countAccepted .shore) hsil, (watchShore_only _).out (by decide)]
      exact Out.setPort_advisories _ _ _

end Sys2Proof.Machine
end
section
/-! PROOFS. The reactions of tank and hold records to a new ship bank (R2, R31, R193). The reactions raise no fault, so a
fault that one of them clears stays clear to their end. -/

namespace Sys2Proof.Machine

namespace State
variable {s t u : State} {bs : List Block} {i j k : Nat}

/-! ### Operations that raise no fault -/

/-- No fault is active that was not active before. -/
def noNew (s t : State) : Prop := ∀ k x, t.faults.active k x = true → s.faults.active k x = true

namespace noNew

theorem refl (s : State) : s.noNew s := fun _ _ => id

theorem trans (h : s.noNew t) (h' : t.noNew u) : s.noNew u := fun k x hx => h k x (h' k x hx)

theorem of_only (h : s.onlyChanges bs t) (n : Block.faults ∉ bs := by decide) : s.noNew t := fun k x hx => by
  rwa [h.faults n] at hx

theorem ite {p : Prop} [Decidable p] (h : s.noNew t) (h' : s.noNew u) : s.noNew (if p then t else u) := by
  split <;> assumption

theorem clearFault (s : State) (k : FaultKind) (x : Nat) : s.noNew (s.clearFault k x) := by
  intro j y hy
  unfold State.clearFault at hy
  split at hy
  · exact hy
  next f n hf =>
    rw [active_withFaults, Faults.active_of_clear hf, Bool.and_eq_true] at hy
    exact hy.1

theorem forEach {is : List Nat} {f : Nat → State → State} (h : ∀ i u, noNew u (f i u)) (s : State) : s.noNew (forEach is f s) :=
  forEach_keeps (I := s.noNew) (fun i u hu => hu.trans (h i u)) (refl s)

/-- A fault that is clear stays so. -/
theorem stays (h : s.noNew t) {k : FaultKind} {x : Nat} (hx : s.faults.active k x = false) : t.faults.active k x = false :=
  Bool.eq_false_iff.2 fun ht => Bool.false_ne_true (hx.symm.trans (h k x ht))

theorem judgeAlarm (s : State) : s.noNew s.judgeAlarm := fun k x hx => by rwa [active_judgeAlarm] at hx

end noNew

/-- What one turn of a loop brings about, where no other turn stands in its way, and every turn keeps. -/
theorem forEach_reaches {I P : State → Prop} {f : Nat → State → State} {n : Nat} (hk : k < n)
    (hI : ∀ i u, i ≠ k → I u → I (f i u)) (hP : ∀ i u, P u → P (f i u)) (hturn : ∀ u, I u → P (f k u)) (hs : I s) :
    P (forEach (List.range n) f s) := by
  obtain ⟨before, after, he⟩ := List.append_of_mem (List.mem_range.2 hk)
  have hnodup : (before ++ k :: after).Nodup := he ▸ List.nodup_range
  have hne (i : Nat) (hi : i ∈ before) : i ≠ k :=
    fun e => (List.nodup_append.1 hnodup).2.2 i hi k List.mem_cons_self e
  have hbefore : ∀ is : List Nat, (∀ i ∈ is, i ≠ k) → ∀ u, I u → I (is.foldl (fun s i => f i s) u) := by
    intro is
    induction is with
    | nil => exact fun _ _ => id
    | cons i is ih =>
      intro his u hu
      obtain ⟨hi, his⟩ := List.forall_mem_cons.1 his
      exact ih his _ (hI i u hi hu)
  unfold forEach
  rw [he, List.foldl_append, List.foldl_cons]
  exact forEach_keeps (is := after) hP (hturn _ (hbefore before hne s hs))

/-- Every TABLE_FAULT of a table of the group is clear afterwards (R175). -/
theorem active_clearTableFaults (hs : s.faults.sound) {c : TableCode} (hc : c ∈ TableCode.shipTables) :
    s.clearTableFaults.faults.active .tableFault c.code = false := by
  have turn (u : State) (b : TableCode) : u.noNew (u.clearFault .tableFault b.code) := noNew.clearFault u _ _
  obtain ⟨before, after, he⟩ := List.append_of_mem hc
  unfold clearTableFaults
  rw [he, List.foldl_append, List.foldl_cons]
  have hsound : (before.foldl (fun s b => s.clearFault .tableFault b.code) s).faults.sound :=
    ((keeps.refl s).foldl (f := fun s b => s.clearFault .tableFault (TableCode.code b)) fun _ _ hu => hu.clearFault).faults hs
  have hclear := active_clearFault hsound .tableFault c.code
  have hafter (l : List TableCode) (u : State) : u.noNew (l.foldl (fun s b => s.clearFault .tableFault b.code) u) := by
    induction l generalizing u with
    | nil => exact noNew.refl u
    | cons b l ih => exact (turn u b).trans (ih _)
  exact (hafter after _).stays hclear

/-! ### Tank records (R2) -/

variable {old : ShipBank}

/-- A tank record after its turn at a switch, but for the faults. -/
def switchedTank (s : State) (old : ShipBank) (k : Nat) (r : TankRec) : TankRec :=
  match old.tankFitted k, s.bank.tankFitted k with
  | true, true => if r.source = .descriptor then { r with density := s.bank.tankDensity k } else r
  | false, true => { TankRec.reset (s.bank.tankDensity k) with gaugeTimer := some s.now }
  | _, false => TankRec.reset (s.bank.tankDensity k)

theorem tank_switchTank (s : State) (old : ShipBank) (hk : k < 32) :
    (s.switchTank old k).tank k = s.switchedTank old k (s.tank k) := by
  have hclear (u : State) : (((u.clearFault .gaugeFault k).clearFault .gaugeLost k).clearFault .tankOverrange k).tank k = u.tank k :=
    (((clearFault_only u _ _).andThen (clearFault_only _ _ _)).andThen (clearFault_only _ _ _)).tank (by decide) k
  unfold switchTank switchedTank
  dsimp only
  split
  next ho hn => rw [ho, hn]; exact tank_modTank s k _ hk
  next ho hn => rw [ho, hn]; exact tank_modTank s k _ hk
  next ho hn => rw [ho, hn]; exact (hclear _).trans (tank_modTank s k _ hk)
  next ho hn => rw [ho, hn]; exact tank_modTank s k _ hk

theorem tank_switchTank_other (s : State) (old : ShipBank) (h : j ≠ k) : (s.switchTank old k).tank j = s.tank j := by
  have hclear (u : State) : (((u.clearFault .gaugeFault k).clearFault .gaugeLost k).clearFault .tankOverrange k).tank j = u.tank j :=
    (((clearFault_only u _ _).andThen (clearFault_only _ _ _)).andThen (clearFault_only _ _ _)).tank (by decide) j
  unfold switchTank
  dsimp only
  split
  · exact tank_modTank_other s k j _ h
  · exact tank_modTank_other s k j _ h
  · exact (hclear _).trans (tank_modTank_other s k j _ h)
  · exact tank_modTank_other s k j _ h

theorem tank_switchTanks (s : State) (old : ShipBank) (hk : k < 32) :
    (s.switchTanks old).tank k = s.switchedTank old k (s.tank k) := by
  refine record_forEach tank (g := fun i r => s.switchedTank old i r) (I := fun u => u.bank = s.bank ∧ u.now = s.now)
    (fun i u _ hu => ?_) (fun i u hi hu => ?_) (fun i u j _ hj => tank_switchTank_other u old hj) ⟨rfl, rfl⟩ hk
  · have hframe := switchTank_only u old i
    exact ⟨(hframe.bank (by decide)).trans hu.1, (hframe.now (by decide)).trans hu.2⟩
  · rw [tank_switchTank u old hi]
    unfold switchedTank
    rw [hu.1, hu.2]

theorem switchTank_noNew (s : State) (old : ShipBank) (k : Nat) : s.noNew (s.switchTank old k) := by
  have hmod (f : TankRec → TankRec) : s.noNew (s.modTank k f) := .of_only (modTank_only s k f)
  unfold switchTank
  dsimp only
  split
  · exact hmod _
  · exact hmod _
  · exact (((hmod _).trans (.clearFault _ _ _)).trans (.clearFault _ _ _)).trans (.clearFault _ _ _)
  · exact hmod _

/-- A tank that is no longer fitted loses its three faults. -/
theorem switchTank_clears (hs : s.faults.sound) (hold : old.tankFitted k = true) (hnew : s.bank.tankFitted k = false) :
    (s.switchTank old k).faults.active .gaugeFault k = false ∧ (s.switchTank old k).faults.active .gaugeLost k = false
      ∧ (s.switchTank old k).faults.active .tankOverrange k = false := by
  unfold switchTank
  dsimp only
  rw [hold, hnew]
  dsimp only
  have hmod : (s.modTank k fun _ => TankRec.reset (s.bank.tankDensity k)).faults.sound := hs
  generalize s.modTank k (fun _ => TankRec.reset (s.bank.tankDensity k)) = a at *
  have hfault : (a.clearFault .gaugeFault k).faults.sound := (keeps.refl a).clearFault.faults hmod
  have hlost : ((a.clearFault .gaugeFault k).clearFault .gaugeLost k).faults.sound :=
    (keeps.refl a).clearFault.clearFault.faults hmod
  exact ⟨((noNew.clearFault _ _ _).trans (.clearFault _ _ _)).stays (active_clearFault hmod _ k),
    (noNew.clearFault _ _ _).stays (active_clearFault hfault _ k), active_clearFault hlost _ k⟩

theorem switchTanks_noNew (s : State) (old : ShipBank) : s.noNew (s.switchTanks old) :=
  .forEach (fun i u => switchTank_noNew u old i) s

theorem switchTanks_clears (hs : s.faults.sound) (hk : k < 32) (hold : old.tankFitted k = true)
    (hnew : s.bank.tankFitted k = false) :
    (s.switchTanks old).faults.active .gaugeFault k = false ∧ (s.switchTanks old).faults.active .gaugeLost k = false
      ∧ (s.switchTanks old).faults.active .tankOverrange k = false := by
  refine forEach_reaches (I := fun u => u.faults.sound ∧ u.bank = s.bank) (P := fun u =>
    u.faults.active .gaugeFault k = false ∧ u.faults.active .gaugeLost k = false ∧ u.faults.active .tankOverrange k = false)
    hk (fun i u _ hu => ?_) (fun i u hu => ?_) (fun u hu => ?_) ⟨hs, rfl⟩
  · exact ⟨(keeps.refl u).switchTank.faults hu.1, ((switchTank_only u old i).bank (by decide)).trans hu.2⟩
  · have h := switchTank_noNew u old i
    exact ⟨h.stays hu.1, h.stays hu.2.1, h.stays hu.2.2⟩
  · exact switchTank_clears hu.1 hold (hu.2 ▸ hnew)

end State

end Sys2Proof.Machine
end
section
/-! PROOFS. The reactions of station records, held orders and dry-run supervision to a new ship bank (R116, R152, R193). -/

namespace Sys2Proof.Machine

namespace State
variable {s t u : State} {l : List Block} {i j : Nat} {bs : List (Nat × Byte)}

/-! ### Station records (R116) -/

/-- A station record after its turn at a switch: kept where its address is, else started afresh. -/
def reboundStation (s : State) (bs : List (Nat × Byte)) (i : Nat) (r : StationRec) : StationRec :=
  if r.address = addressIn bs i then r
  else { StationRec.reset (addressIn bs i) with
    presenceAt := if (addressIn bs i).isSome then some s.presenceDeadline else none }

theorem withdrawOutstanding_noNew (s : State) (i : Nat) : s.noNew (s.withdrawOutstanding i) :=
  .of_only (withdrawOutstanding_only s i)

theorem station_withdrawOutstanding_other (s : State) (h : j ≠ i) : (s.withdrawOutstanding i).station j = s.station j := by
  unfold withdrawOutstanding
  split
  · exact ((answerOutstanding_only _ _ _ _).station (by decide) j).trans (station_closeOutstanding_other h _ _)
  · rfl

/-- The clearing of the faults of an address that is given up. -/
def clearStation (s : State) (i : Nat) : State :=
  ((s.clearFault .stationSilent i).clearFault .orderTimeout i).clearFault .pumpTripped i

theorem clearStation_only (s : State) (i : Nat) : s.onlyChanges [.faults, .out] (s.clearStation i) :=
  ((clearFault_only s _ _).trans (clearFault_only _ _ _)).trans (clearFault_only _ _ _)

theorem clearStation_noNew (s : State) (i : Nat) : s.noNew (s.clearStation i) :=
  ((noNew.clearFault s _ _).trans (.clearFault _ _ _)).trans (.clearFault _ _ _)

theorem rebindStation_same (h : (s.station i).address = addressIn bs i) : s.rebindStation bs i = s := if_pos h

theorem rebindStation_bound (h : (s.station i).address ≠ addressIn bs i) (hn : (s.station i).address = none) :
    s.rebindStation bs i = s.modStation i fun _ => { StationRec.reset (addressIn bs i) with
      presenceAt := if (addressIn bs i).isSome then some s.presenceDeadline else none } :=
  (if_neg h).trans (if_pos hn)

theorem rebindStation_moved (h : (s.station i).address ≠ addressIn bs i) (hn : (s.station i).address ≠ none) :
    s.rebindStation bs i
      = ((s.withdrawOutstanding i).clearStation i).modStation i fun _ => { StationRec.reset (addressIn bs i) with
        presenceAt := if (addressIn bs i).isSome then some s.presenceDeadline else none } :=
  (if_neg h).trans (if_neg hn)

theorem station_rebindStation (s : State) (bs : List (Nat × Byte)) (hi : i < 64) :
    (s.rebindStation bs i).station i = s.reboundStation bs i (s.station i) := by
  unfold reboundStation
  by_cases h : (s.station i).address = addressIn bs i
  · rw [rebindStation_same h, if_pos h]
  · rw [if_neg h]
    by_cases hn : (s.station i).address = none
    · rw [rebindStation_bound h hn, station_modStation _ _ _ hi]
    · rw [rebindStation_moved h hn, station_modStation _ _ _ hi]

theorem station_rebindStation_other (s : State) (bs : List (Nat × Byte)) (hj : j ≠ i) :
    (s.rebindStation bs i).station j = s.station j := by
  by_cases h : (s.station i).address = addressIn bs i
  · rw [rebindStation_same h]
  · by_cases hn : (s.station i).address = none
    · rw [rebindStation_bound h hn, station_modStation_other _ _ _ _ hj]
    · rw [rebindStation_moved h hn, station_modStation_other _ _ _ _ hj, (clearStation_only _ _).station (by decide),
        station_withdrawOutstanding_other _ hj]

theorem rebindStation_noNew (s : State) (bs : List (Nat × Byte)) (i : Nat) : s.noNew (s.rebindStation bs i) := by
  by_cases h : (s.station i).address = addressIn bs i
  · rw [rebindStation_same h]
    exact .refl s
  · by_cases hn : (s.station i).address = none
    · rw [rebindStation_bound h hn]
      exact .of_only (modStation_only s i _)
    · rw [rebindStation_moved h hn]
      exact ((withdrawOutstanding_noNew s i).trans (clearStation_noNew _ i)).trans (.of_only (modStation_only _ i _))

theorem clearStation_clears (hs : s.faults.sound) (i : Nat) : (s.clearStation i).faults.active .stationSilent i = false
    ∧ (s.clearStation i).faults.active .orderTimeout i = false ∧ (s.clearStation i).faults.active .pumpTripped i = false := by
  have hsilent : (s.clearFault .stationSilent i).faults.sound := (keeps.refl s).clearFault.faults hs
  have horder : ((s.clearFault .stationSilent i).clearFault .orderTimeout i).faults.sound :=
    (keeps.refl s).clearFault.clearFault.faults hs
  exact ⟨((noNew.clearFault _ _ _).trans (.clearFault _ _ _)).stays (active_clearFault hs _ i),
    (noNew.clearFault _ _ _).stays (active_clearFault hsilent _ i), active_clearFault horder _ i⟩

theorem rebindStation_clears (hs : s.faults.sound) (h : (s.station i).address ≠ addressIn bs i)
    (hn : (s.station i).address ≠ none) : (s.rebindStation bs i).faults.active .stationSilent i = false
      ∧ (s.rebindStation bs i).faults.active .orderTimeout i = false
      ∧ (s.rebindStation bs i).faults.active .pumpTripped i = false := by
  have hclear := clearStation_clears (s := s.withdrawOutstanding i)
    ((withdrawOutstanding_only s i).faults (by decide) ▸ hs) i
  rw [rebindStation_moved h hn]
  exact hclear

theorem held_rebindStation (s : State) (bs : List (Nat × Byte)) (i : Nat) :
    (s.rebindStation bs i).screen.held = s.screen.held := by
  have hwithdraw : (s.withdrawOutstanding i).screen.held = s.screen.held := by
    unfold withdrawOutstanding
    split
    next o _ =>
      exact (congrArg Screen.held ((answerOutstanding_only _ _ _ _).screen (by decide))).trans (held_closeOutstanding _ i o _)
    next => rfl
  by_cases h : (s.station i).address = addressIn bs i
  · rw [rebindStation_same h]
  · by_cases hn : (s.station i).address = none
    · rw [rebindStation_bound h hn]
      rfl
    · rw [rebindStation_moved h hn]
      exact (congrArg Screen.held ((clearStation_only _ i).screen (by decide))).trans hwithdraw

/-- Every station record under the new bindings. -/
def reboundStations (s : State) (bs : List (Nat × Byte)) : State := forEach stationIndices (fun i s => s.rebindStation bs i) s

theorem rebindStations_eq (s : State) : s.rebindStations
    = (s.reboundStations s.bank.stationBindings).withdrawHeld fun i => (s.station i).address := by
  unfold rebindStations reboundStations
  rfl

theorem station_reboundStations (s : State) (bs : List (Nat × Byte)) (hi : i < 64) :
    (s.reboundStations bs).station i = s.reboundStation bs i (s.station i) := by
  refine record_forEach station (g := fun i r => s.reboundStation bs i r) (I := fun u => u.presenceDeadline = s.presenceDeadline)
    (fun i u _ hu => ?_) (fun i u hi hu => ?_) (fun i u j _ hj => station_rebindStation_other u bs hj) rfl hi
  · have hframe := rebindStation_only u bs i
    refine Eq.trans ?_ hu
    unfold presenceDeadline
    rw [hframe.now (by decide), hframe.bank (by decide)]
  · rw [station_rebindStation u bs hi]
    unfold reboundStation
    rw [hu]

theorem held_reboundStations (s : State) (bs : List (Nat × Byte)) : (s.reboundStations bs).screen.held = s.screen.held := by
  unfold reboundStations
  exact forEach_keeps (f := fun i s => s.rebindStation bs i) (I := fun u => u.screen.held = s.screen.held)
    (fun i u hu => (held_rebindStation u bs i).trans hu) rfl

theorem reboundStations_noNew (s : State) (bs : List (Nat × Byte)) : s.noNew (s.reboundStations bs) :=
  .forEach (fun i u => rebindStation_noNew u bs i) s

theorem reboundStations_clears (hs : s.faults.sound) (hi : i < 64) (h : (s.station i).address ≠ addressIn bs i)
    (hn : (s.station i).address ≠ none) : (s.reboundStations bs).faults.active .stationSilent i = false
      ∧ (s.reboundStations bs).faults.active .orderTimeout i = false
      ∧ (s.reboundStations bs).faults.active .pumpTripped i = false := by
  refine forEach_reaches (I := fun u => u.faults.sound ∧ u.station i = s.station i) (P := fun u =>
    u.faults.active .stationSilent i = false ∧ u.faults.active .orderTimeout i = false ∧ u.faults.active .pumpTripped i = false)
    hi (fun j u hj hu => ?_) (fun j u hu => ?_) (fun u hu => ?_) ⟨hs, rfl⟩
  · exact ⟨(keeps.refl u).rebindStation.faults hu.1, (station_rebindStation_other u bs (Ne.symm hj)).trans hu.2⟩
  · have hn := rebindStation_noNew u bs j
    exact ⟨hn.stays hu.1, hn.stays hu.2.1, hn.stays hu.2.2⟩
  · exact rebindStation_clears hu.1 (hu.2.symm ▸ h) (hu.2.symm ▸ hn)

/-! ### Held orders (R152) -/

/-- One held entry at a switch: withdrawn where its station's address has changed. -/
def withdrawTurn (old : Nat → Option Byte) (s : State) (h : Held) : State :=
  if (s.station h.station).address = old h.station then s
  else (s.dropHeld h.station).syntheticAck h.order.console h.order.seq ((old h.station).getD 0) outcomeWithdrawn 0

variable {old : Nat → Option Byte}

theorem withdrawHeld_eq (s : State) (old : Nat → Option Byte) : s.withdrawHeld old = s.screen.held.foldl (withdrawTurn old) s := rfl

theorem withdrawTurn_only (old : Nat → Option Byte) (s : State) (h : Held) : s.onlyChanges [.screen, .out] (withdrawTurn old s h) :=
  onlyChanges_ite (onlyChanges_refl _ s) ((dropHeld_only s _).andThen (syntheticAck_only _ _ _ _ _ _))

theorem held_withdrawTurn (s : State) (h : Held) {y : Held} (hy : y ∈ (withdrawTurn old s h).screen.held) :
    y ∈ s.screen.held ∧ (h.station = y.station → (s.station y.station).address = old y.station) := by
  unfold withdrawTurn at hy
  split at hy
  next heq => exact ⟨hy, fun e => e ▸ heq⟩
  next =>
    have hdrop : y ∈ (s.dropHeld h.station).screen.held := by
      rwa [(syntheticAck_only _ _ _ _ _ _).screen (by decide)] at hy
    obtain ⟨hmem, hne⟩ := List.mem_filter.1 hdrop
    exact ⟨hmem, fun e => absurd e.symm (bne_iff_ne.1 hne)⟩

/-- What is left after a withdrawal was held before, and its station keeps its address. -/
theorem held_withdrawHeld (s : State) {y : Held} (hy : y ∈ (s.withdrawHeld old).screen.held) :
    y ∈ s.screen.held ∧ (s.station y.station).address = old y.station := by
  have key : ∀ (hs : List Held) (u : State), y ∈ (hs.foldl (withdrawTurn old) u).screen.held →
      y ∈ u.screen.held ∧ ∀ h ∈ hs, h.station = y.station → (u.station y.station).address = old y.station := by
    intro hs
    induction hs with
    | nil => exact fun _ hu => ⟨hu, by simp⟩
    | cons h hs ih =>
      intro u hu
      obtain ⟨hrest, hsame⟩ := ih _ hu
      obtain ⟨hmem, hturn⟩ := held_withdrawTurn u h hrest
      rw [(withdrawTurn_only old u h).station (by decide)] at hsame
      exact ⟨hmem, List.forall_mem_cons.2 ⟨hturn, hsame⟩⟩
  obtain ⟨hmem, hsame⟩ := key s.screen.held s hy
  exact ⟨hmem, hsame y hmem rfl⟩

/-- The records of the stations under the new bindings. -/
theorem station_rebindStations (s : State) (hi : i < 64) :
    s.rebindStations.station i = s.reboundStation s.bank.stationBindings i (s.station i) := by
  rw [rebindStations_eq, (withdrawHeld_only _ _).station (by decide), station_reboundStations s _ hi]

theorem held_rebindStations (s : State) {y : Held} (hy : y ∈ s.rebindStations.screen.held) :
    y ∈ s.screen.held ∧ (s.rebindStations.station y.station).address = (s.station y.station).address := by
  rw [rebindStations_eq] at hy ⊢
  obtain ⟨hmem, hsame⟩ := held_withdrawHeld _ hy
  rw [held_reboundStations] at hmem
  exact ⟨hmem, by rw [(withdrawHeld_only _ _).station (by decide)]; exact hsame⟩

theorem rebindStations_noNew (s : State) : s.noNew s.rebindStations := by
  rw [rebindStations_eq]
  exact (reboundStations_noNew s _).trans (.of_only (withdrawHeld_only _ _))

/-! ### Dry-run supervision (R150, R152) -/

/-- Dry-run supervision of a line: the tripped flag and the timer. -/
def dryOf (s : State) (l : Nat) : Bool × Option Nat := (nth s.screen.tripped l false, nth s.screen.dryAt l none)

theorem dryCondition_of_only (h : s.onlyChanges l t) (hship : Block.ship ∉ l) (hst : Block.stations ∉ l) (ht : Block.tanks ∉ l)
    (k : Nat) : t.dryCondition k = s.dryCondition k := by
  unfold dryCondition valveClosed
  simp only [h.bank hship, h.station hst, h.tank ht]

theorem dryOf_setDry (s : State) {k : Nat} (hk : k < 8) (x : Option Nat) (b : Bool) : (s.setDry k x b).dryOf k = (b, x) :=
  Prod.ext (nth_upd_same _ _ _ _ hk) (nth_upd_same _ _ _ _ hk)

theorem dryOf_setDry_other (s : State) {k m : Nat} (h : m ≠ k) (x : Option Nat) (b : Bool) : (s.setDry k x b).dryOf m = s.dryOf m :=
  Prod.ext (nth_upd_other _ _ _ _ _ h) (nth_upd_other _ _ _ _ _ h)

/-- A line's supervision once its condition is judged. -/
def judgedDry (s : State) (k : Nat) (r : Bool × Option Nat) : Bool × Option Nat :=
  if s.dryCondition k then if r.1 || r.2.isSome then r else (false, some (s.now + s.bank.dryRunDelay k)) else (false, none)

theorem dryOf_judgeDry (s : State) {k : Nat} (hk : k < 8) : (s.judgeDry k).dryOf k = s.judgedDry k (s.dryOf k) := by
  unfold judgeDry judgedDry
  split
  · split
    next h => exact (if_pos h).symm
    next h => exact (dryOf_setDry s hk _ _).trans (if_neg h).symm
  · exact dryOf_setDry s hk _ _

theorem dryOf_judgeDry_other (s : State) {k m : Nat} (h : m ≠ k) : (s.judgeDry k).dryOf m = s.dryOf m := by
  unfold judgeDry
  split
  · split
    · rfl
    · exact dryOf_setDry_other s h _ _
  · exact dryOf_setDry_other s h _ _

theorem dryOf_judgeDryRuns (s : State) {k : Nat} (hk : k < 8) : s.judgeDryRuns.dryOf k = s.judgedDry k (s.dryOf k) := by
  refine record_forEach dryOf (n := 8) (f := fun k s => s.judgeDry k) (g := fun i r => s.judgedDry i r)
    (I := fun u => s.onlyChanges [.screen] u) (fun i u _ hu => hu.trans (judgeDry_only u i)) (fun i u hi hu => ?_)
    (fun i u j _ hj => dryOf_judgeDry_other u hj) (onlyChanges_refl _ s) hk
  rw [dryOf_judgeDry u hi]
  unfold judgedDry
  rw [dryCondition_of_only hu (by decide) (by decide) (by decide), hu.now (by decide), hu.bank (by decide)]

/-- At a switch every line is judged afresh. -/
theorem dryOf_restartDryRuns (s : State) {k : Nat} (hk : k < 8) : s.restartDryRuns.dryOf k
    = (false, if s.dryCondition k then some (s.now + s.bank.dryRunDelay k) else none) := by
  have hstart (u : State) (h : u = ({ s with screen := { s.screen with
      dryAt := Vector.replicate 8 none, tripped := Vector.replicate 8 false } } : State)) :
      u.judgedDry k (u.dryOf k) = (false, if s.dryCondition k then some (s.now + s.bank.dryRunDelay k) else none) := by
    have hnone : u.dryOf k = (false, none) := by
      rw [h]
      unfold dryOf
      simp [nth, hk]
    have honly : s.onlyChanges [.screen] u := h ▸ only_screen s _
    unfold judgedDry
    rw [hnone, dryCondition_of_only honly (by decide) (by decide) (by decide), honly.now (by decide), honly.bank (by decide)]
    split <;> rfl
  exact (dryOf_judgeDryRuns _ hk).trans (hstart _ rfl)

end State

end Sys2Proof.Machine
end
section
/-! PROOFS. The reactions to a new ship bank together (R193), and what the rest of the event leaves of them. -/

namespace Sys2Proof.Machine

namespace State
variable {s t u v : State} {l : List Block} {i j k : Nat}

/-! ### The reactions together -/

/-- A part with another ship bank active and every TABLE_FAULT clear, before the blocks have reacted. -/
structure newShip (s u : State) : Prop where
  frame : s.onlyChanges [.ship, .store, .engine, .faults, .out] u
  sound : s.faults.sound → u.faults.sound
  tableFaults : s.faults.sound → ∀ c ∈ TableCode.shipTables, u.faults.active .tableFault c.code = false

/-- The blocks after the switch of their records, before dry-run supervision is judged. -/
def rerecorded (s : State) (old : ShipBank) : State := ((s.switchTanks old).switchHolds).rebindStations

theorem reactToShip_eq (s : State) (old : ShipBank) : s.reactToShip old = (s.rerecorded old).restartDryRuns.judgeAlarm := rfl

theorem rerecorded_only (s : State) (old : ShipBank) : s.onlyChanges ([.tanks, .shore] ++ screenBlocks) (s.rerecorded old) :=
  (((switchTanks_only s old).andThen (switchHolds_only _)).andThen (rebindStations_only _)).mono (by decide)

theorem reacted_only (s : State) (old : ShipBank) : (s.rerecorded old).onlyChanges [.screen, .faults] (s.reactToShip old) :=
  ((restartDryRuns_only _).andThen (judgeAlarm_only _)).mono (by decide)

theorem reactToShip_noNew (s : State) (old : ShipBank) : s.noNew (s.reactToShip old) :=
  ((((switchTanks_noNew s old).trans (.of_only (switchHolds_only _))).trans (rebindStations_noNew _)).trans
    (.of_only (restartDryRuns_only _))).trans (.judgeAlarm _)

theorem bank_reactToShip (s : State) (old : ShipBank) : (s.reactToShip old).bank = s.bank :=
  (reactToShip_only s old).bank (by decide)

theorem tank_reactToShip (s : State) (old : ShipBank) (hk : k < 32) :
    (s.reactToShip old).tank k = s.switchedTank old k (s.tank k) := by
  have h := (switchHolds_only (s.switchTanks old)).andThen (rebindStations_only _)
  rw [(reacted_only s old).tank (by decide)]
  exact (h.tank (by decide) k).trans (tank_switchTanks s old hk)

theorem hold_reactToShip (s : State) (old : ShipBank) (hk : k < 10) :
    (s.reactToShip old).hold k = if s.bank.holdFitted k then s.hold k else HoldRec.reset := by
  have hback : (s.rerecorded old).hold k = (s.switchTanks old).switchHolds.hold k :=
    (rebindStations_only _).hold (by decide) k
  have hframe := switchTanks_only s old
  rw [(reacted_only s old).hold (by decide), hback, hold_switchHolds _ hk, hframe.bank (by decide), hframe.hold (by decide)]

/-- The part when its stations are bound anew. -/
theorem rebinding_only (s : State) (old : ShipBank) :
    s.onlyChanges [.tanks, .faults, .out, .shore] (s.switchTanks old).switchHolds :=
  ((switchTanks_only s old).andThen (switchHolds_only _)).mono (by decide)

theorem station_reactToShip (s : State) (old : ShipBank) (hi : i < 64) :
    (s.reactToShip old).station i = s.reboundStation s.bank.stationBindings i (s.station i) := by
  have hframe := rebinding_only s old
  have hback : (s.rerecorded old).station i = _ := station_rebindStations (s.switchTanks old).switchHolds hi
  rw [(reacted_only s old).station (by decide), hback]
  unfold reboundStation presenceDeadline
  rw [hframe.bank (by decide), hframe.station (by decide), hframe.now (by decide)]

theorem held_restartDryRuns (s : State) : s.restartDryRuns.screen.held = s.screen.held := by
  unfold restartDryRuns
  rw [(judgeDryRuns_screen _).1]

theorem held_reactToShip (s : State) (old : ShipBank) {x : Held} (hx : x ∈ (s.reactToShip old).screen.held) :
    x ∈ s.screen.held ∧ ((s.reactToShip old).station x.station).address = (s.station x.station).address := by
  have hscreen : (s.reactToShip old).screen = (s.rerecorded old).restartDryRuns.screen := (judgeAlarm_only _).screen (by decide)
  rw [hscreen, held_restartDryRuns] at hx
  unfold rerecorded at hx
  have hframe := rebinding_only s old
  obtain ⟨hmem, haddr⟩ := held_rebindStations (s.switchTanks old).switchHolds hx
  rw [hframe.screen (by decide)] at hmem
  rw [hframe.station (by decide)] at haddr
  rw [(reacted_only s old).station (by decide), rerecorded]
  exact ⟨hmem, haddr⟩

theorem dryOf_reactToShip (s : State) (old : ShipBank) (hk : k < 8) : (s.reactToShip old).dryOf k
    = (false, if (s.reactToShip old).dryCondition k then some (s.now + s.bank.dryRunDelay k) else none) := by
  have hdry : (s.reactToShip old).dryOf k = (s.rerecorded old).restartDryRuns.dryOf k := by
    unfold dryOf
    rw [reactToShip_eq, (judgeAlarm_only _).screen (by decide)]
  have hframe := rerecorded_only s old
  rw [hdry, dryOf_restartDryRuns _ hk, hframe.now (by decide), hframe.bank (by decide),
    dryCondition_of_only (reacted_only s old) (by decide) (by decide) (by decide)]

theorem tankReacts_reactToShip (h : s.newShip u) (hk : k < 32) : s.tankReacts (u.reactToShip s.bank) k := by
  have hbank := bank_reactToShip u s.bank
  have htank := tank_reactToShip u s.bank hk
  unfold switchedTank at htank
  rw [h.frame.tank (by decide), h.frame.now (by decide)] at htank
  refine ⟨fun ho hn => ?_, fun ho hn => ?_, fun ho hn => ?_⟩
  all_goals rw [hbank] at hn ⊢
  · rw [htank, ho, hn]
    dsimp only
    split
    · exact ⟨rfl, fun _ => ⟨rfl, rfl⟩⟩
    · exact ⟨rfl, fun _ => ⟨rfl, rfl⟩⟩
  · rw [htank, ho, hn]
  · rw [htank, ho, hn]
    refine ⟨rfl, fun hs => ?_⟩
    have hrest : (u.switchTanks s.bank).noNew (u.reactToShip s.bank) :=
      (((noNew.of_only (switchHolds_only _)).trans (rebindStations_noNew _)).trans
        (.of_only (restartDryRuns_only _))).trans (.judgeAlarm _)
    obtain ⟨hfault, hlost, hover⟩ := switchTanks_clears (h.sound hs) hk ho hn
    exact ⟨hrest.stays hfault, hrest.stays hlost, hrest.stays hover⟩

/-- The faults of an address that a station gives up are clear. -/
theorem cleared_reactToShip (h : s.newShip u) (hs : s.faults.sound) (hi : i < 64)
    (hne : (s.station i).address ≠ addressIn u.bank.stationBindings i) (hn : (s.station i).address ≠ none) :
    (u.reactToShip s.bank).faults.active .stationSilent i = false
      ∧ (u.reactToShip s.bank).faults.active .orderTimeout i = false
      ∧ (u.reactToShip s.bank).faults.active .pumpTripped i = false := by
  have hre := rebinding_only u s.bank
  have hsound : (u.switchTanks s.bank).switchHolds.faults.sound :=
    ((switchHolds_only (u.switchTanks s.bank)).faults (by decide)).symm ▸ (keeps.refl u).switchTanks.faults (h.sound hs)
  have hclear := reboundStations_clears (bs := (u.switchTanks s.bank).switchHolds.bank.stationBindings) hsound hi
    (by rw [hre.station (by decide), h.frame.station (by decide), hre.bank (by decide)]; exact hne)
    (by rw [hre.station (by decide), h.frame.station (by decide)]; exact hn)
  have hrest : ((u.switchTanks s.bank).switchHolds.reboundStations
      (u.switchTanks s.bank).switchHolds.bank.stationBindings).noNew (u.reactToShip s.bank) := by
    rw [reactToShip_eq, rerecorded, rebindStations_eq]
    exact ((noNew.of_only (withdrawHeld_only _ _)).trans (.of_only (restartDryRuns_only _))).trans (.judgeAlarm _)
  exact ⟨hrest.stays hclear.1, hrest.stays hclear.2.1, hrest.stays hclear.2.2⟩

theorem stationReacts_reactToShip (h : s.newShip u) (hi : i < 64) : s.stationReacts (u.reactToShip s.bank) i := by
  have hbank := bank_reactToShip u s.bank
  have hst := station_reactToShip u s.bank hi
  rw [h.frame.station (by decide)] at hst
  have hbindings : (u.reactToShip s.bank).bank.stationBindings = u.bank.stationBindings := by rw [hbank]
  by_cases hsame : (s.station i).address = addressIn u.bank.stationBindings i
  · have hkept : (u.reactToShip s.bank).station i = s.station i := hst.trans (if_pos hsame)
    rw [← hbindings] at hsame
    refine ⟨by rw [hkept]; exact hsame, fun _ => ?_, fun hne => absurd (congrArg StationRec.address hkept).symm hne⟩
    rw [hkept]
    exact ⟨rfl, rfl, rfl, rfl, fun _ => rfl⟩
  · have hfresh := hst.trans (if_neg hsame)
    have haddr : ((u.reactToShip s.bank).station i).address = addressIn u.bank.stationBindings i := by rw [hfresh]; rfl
    refine ⟨haddr.trans (congrArg (addressIn · i) hbindings.symm), fun heq => absurd (heq.trans haddr) hsame,
      fun _ => ⟨?_, fun hn hs => cleared_reactToShip h hs hi hsame hn⟩⟩
    rw [haddr, hfresh, hbank]
    unfold presenceDeadline
    rw [h.frame.now (by decide)]

/-- The blocks react to a new ship bank as R2, R31, R116, R152 and R193 say. -/
theorem reactsToShip_reactToShip (h : s.newShip u) : s.reactsToShip (u.reactToShip s.bank) where
  tanks _ hk := tankReacts_reactToShip h hk
  holds k hk := by rw [hold_reactToShip u s.bank hk, h.frame.hold (by decide), bank_reactToShip]
  stations _ hi := stationReacts_reactToShip h hi
  held x hx := by
    obtain ⟨_, haddr⟩ := held_reactToShip u s.bank hx
    rw [haddr, h.frame.station (by decide)]
  dryRuns k hk := by
    have hdry := dryOf_reactToShip u s.bank hk
    rw [h.frame.now (by decide), ← bank_reactToShip u s.bank] at hdry
    exact ⟨congrArg Prod.fst hdry, congrArg Prod.snd hdry⟩
  tableFaults hs c hc := (reactToShip_noNew u s.bank).stays (h.tableFaults hs c hc)

/-- No station holds an order that held none before. -/
theorem unheld_reactToShip (h : s.newShip u) (hi : s.heldOf i = none) : (u.reactToShip s.bank).heldOf i = none := by
  refine heldOf_none_iff.2 fun x hx => ?_
  obtain ⟨hmem, _⟩ := held_reactToShip u s.bank hx
  rw [h.frame.screen (by decide)] at hmem
  exact heldOf_none_iff.1 hi x hmem

/-! ### The rest of the event (R13, R73, R145) -/

/-- What the rest of an event leaves of the reactions: the LOST tanks may grow their uncertainty, orders held may be
forwarded, and other faults may move. -/
structure settlesOn (v t : State) : Prop where
  bank : t.bank = v.bank
  now : t.now = v.now
  lost : ∀ k, (v.tank k).gauge.isLost = true → (t.tank k).gauge.isLost = true
    ∧ t.tank k = { v.tank k with gauge := (t.tank k).gauge, uncertainty := (t.tank k).uncertainty }
  found : ∀ k, (v.tank k).gauge.isLost = false → t.tank k = v.tank k
  holds : ∀ k, t.hold k = v.hold k
  heard : ∀ i, (t.station i).heard = (v.station i).heard
  unheld : ∀ i, v.heldOf i = none → t.station i = v.station i
  held : (t.screen.held.map Held.key).Sublist (v.screen.held.map Held.key)
  dry : t.screen.dryAt = v.screen.dryAt ∧ t.screen.tripped = v.screen.tripped
  marks : ∀ f ∈ shipFaults, ∀ x, t.faults.active f x = v.faults.active f x

namespace settlesOn

/-- A step off the blocks that react. -/
theorem of_only {ks : List FaultKind} (h : v.onlyChanges l t) (m : v.marksOnly ks t) (hks : ∀ f ∈ shipFaults, f ∉ ks)
    (hl : ∀ b ∈ [Block.ship, .clock, .tanks, .shore, .stations, .screen], b ∉ l) : v.settlesOn t where
  bank := h.bank (hl _ (by decide))
  now := h.now (hl _ (by decide))
  lost k hk := by rw [h.tank (hl _ (by decide))]; exact ⟨hk, rfl⟩
  found k _ := h.tank (hl _ (by decide)) k
  holds k := h.hold (hl _ (by decide)) k
  heard i := by rw [h.station (hl _ (by decide))]
  unheld i _ := h.station (hl _ (by decide)) i
  held := by rw [h.screen (hl _ (by decide))]
  dry := by rw [h.screen (hl _ (by decide))]; exact ⟨rfl, rfl⟩
  marks f hf x := m f x (hks f hf)

theorem refl (v : State) : v.settlesOn v :=
  of_only (ks := []) (onlyChanges_refl [] v) (marksOnly_refl _ v) (by decide) (by decide)

theorem heldOf_none (h : v.settlesOn t) (hi : v.heldOf i = none) : t.heldOf i = none := by
  refine heldOf_none_iff.2 fun x hx hst => ?_
  obtain ⟨y, hy, hk⟩ := List.mem_map.1 (h.held.subset (List.mem_map_of_mem hx))
  exact heldOf_none_iff.1 hi y hy ((congrArg Held.station hk).trans hst)

theorem trans (h : v.settlesOn t) (k : t.settlesOn u) : v.settlesOn u where
  bank := k.bank.trans h.bank
  now := k.now.trans h.now
  lost i hi := by
    obtain ⟨hlost, htank⟩ := h.lost i hi
    obtain ⟨hlost', htank'⟩ := k.lost i hlost
    refine ⟨hlost', ?_⟩
    rw [htank', htank]
  found i hi := by rw [k.found i (by rw [h.found i hi]; exact hi), h.found i hi]
  holds i := (k.holds i).trans (h.holds i)
  heard i := (k.heard i).trans (h.heard i)
  unheld i hi := (k.unheld i (h.heldOf_none hi)).trans (h.unheld i hi)
  held := k.held.trans h.held
  dry := ⟨k.dry.1.trans h.dry.1, k.dry.2.trans h.dry.2⟩
  marks f hf x := (k.marks f hf x).trans (h.marks f hf x)

theorem reexamine (v : State) : v.settlesOn v.reexamine := by
  have h := rescreened_reexamine v
  have hframe := reexamine_only v
  exact ⟨hframe.bank (by decide), hframe.now (by decide), fun k hk => by rw [hframe.tank (by decide)]; exact ⟨hk, rfl⟩,
    fun k _ => hframe.tank (by decide) k, fun k => hframe.hold (by decide) k, h.heard, fun i hi => (h.unheld i hi).1,
    h.held, h.dry, fun f hf x => reexamine_marks v f x (by revert f; decide)⟩

theorem growTank (v : State) (i k : Nat) : ((v.tank k).gauge.isLost = true → ((v.growTank i).tank k).gauge.isLost = true
      ∧ (v.growTank i).tank k = { v.tank k with gauge := ((v.growTank i).tank k).gauge, uncertainty := ((v.growTank i).tank k).uncertainty })
    ∧ ((v.tank k).gauge.isLost = false → (v.growTank i).tank k = v.tank k) := by
  unfold State.growTank
  dsimp only
  split
  next since hlost =>
    split
    · by_cases hk : k = i
      · subst hk
        by_cases hlt : k < 32
        · rw [tank_modTank v k _ hlt]
          exact ⟨fun _ => ⟨rfl, rfl⟩, fun h => absurd (h.symm.trans (congrArg Gauge.isLost hlost)) nofun⟩
        · rw [tank_out_of_range v (not_lt.1 hlt)] at hlost
          cases hlost
      · rw [tank_modTank_other v i k _ hk]
        exact ⟨fun h => ⟨h, rfl⟩, fun _ => rfl⟩
    · exact ⟨fun h => ⟨h, rfl⟩, fun _ => rfl⟩
  next => exact ⟨fun h => ⟨h, rfl⟩, fun _ => rfl⟩

theorem tank_step (h : v.onlyChanges [.tanks] t) (htank : ∀ k, ((v.tank k).gauge.isLost = true → (t.tank k).gauge.isLost = true
      ∧ t.tank k = { v.tank k with gauge := (t.tank k).gauge, uncertainty := (t.tank k).uncertainty })
    ∧ ((v.tank k).gauge.isLost = false → t.tank k = v.tank k)) : v.settlesOn t where
  bank := h.bank (by decide)
  now := h.now (by decide)
  lost k := (htank k).1
  found k := (htank k).2
  holds k := h.hold (by decide) k
  heard i := by rw [h.station (by decide)]
  unheld i _ := h.station (by decide) i
  held := by rw [h.screen (by decide)]
  dry := by rw [h.screen (by decide)]; exact ⟨rfl, rfl⟩
  marks f _ x := by rw [h.faults (by decide)]

theorem growUncertainty (v : State) : v.settlesOn v.growUncertainty := by
  unfold State.growUncertainty
  exact forEach_keeps (f := fun i s => s.growTank i) (I := v.settlesOn)
    (fun i u hu => hu.trans (tank_step (growTank_only u i) (growTank u i))) (refl v)

theorem switchPlan (v : State) : v.settlesOn v.switchPlan :=
  of_only (switchPlan_only v) (switchPlan_marks v) (by decide) (by decide)

end settlesOn

end State

end Sys2Proof.Machine
end
section
/-! PROOFS. The reactions to a new ship bank at the end of the event (R193), and RELOAD (R197). -/

namespace Sys2Proof.Machine

namespace State
variable {s t u v : State} {l : List Block} {i j k : Nat}

/-! ### The reactions at the end of the event -/

/-- What a station has heard is its address, its presence and its last STATE. -/
theorem heard_fields {r q : StationRec} (h : r.heard = q.heard) : r.address = q.address ∧ r.presence = q.presence
    ∧ r.presenceAt = q.presenceAt ∧ r.last = q.last ∧ r.lastTime = q.lastTime := by
  have haddress := congrArg StationRec.address h
  have hpresence := congrArg StationRec.presence h
  have hat := congrArg StationRec.presenceAt h
  have hlast := congrArg StationRec.last h
  have htime := congrArg StationRec.lastTime h
  exact ⟨haddress, hpresence, hat, hlast, htime⟩

theorem settlesOn.address (h : v.settlesOn t) (i : Nat) : (t.station i).address = (v.station i).address :=
  (heard_fields (h.heard i)).1

theorem settlesOn.live (h : v.settlesOn t) (k : Nat) :
    ((t.tank k).gauge == .live) = ((v.tank k).gauge == .live) ∧ (t.tank k).mass = (v.tank k).mass := by
  cases hlost : (v.tank k).gauge.isLost with
  | false => rw [h.found k hlost]; exact ⟨rfl, rfl⟩
  | true =>
    obtain ⟨ht, hsame⟩ := h.lost k hlost
    have hno {g : Gauge} (hg : g.isLost = true) : (g == .live) = false := by
      revert hg
      cases g <;> simp [Gauge.isLost]
    exact ⟨(hno ht).trans (hno hlost).symm, by rw [hsame]⟩

theorem settlesOn.dryCondition (h : v.settlesOn t) (k : Nat) : t.dryCondition k = v.dryCondition k := by
  have hlast (i : Nat) : (t.station i).last = (v.station i).last := (heard_fields (h.heard i)).2.2.2.1
  have hpresence (i : Nat) : (t.station i).presence = (v.station i).presence := (heard_fields (h.heard i)).2.1
  unfold State.dryCondition valveClosed presenceCounts
  simp only [h.bank, hlast, hpresence, (h.live _).1, (h.live _).2]

theorem tankReacts.rest (h : s.tankReacts v k) (r : v.settlesOn t) : s.tankReacts t k := by
  have fresh {d : Int} {x : Option Nat} (hv : v.tank k = { TankRec.reset d with gaugeTimer := x }) : t.tank k = v.tank k :=
    r.found k (by rw [hv]; rfl)
  refine ⟨fun ho hn => ?_, fun ho hn => ?_, fun ho hn => ?_⟩
  all_goals rw [r.bank] at hn ⊢
  · obtain ⟨hsame, hfound⟩ := h.kept ho hn
    refine ⟨?_, fun hs => ?_⟩
    · cases hlost : (v.tank k).gauge.isLost with
      | false => rw [r.found k hlost]; exact hsame
      | true =>
        rw [(r.lost k hlost).2, hsame]
    · have hv : (v.tank k).gauge.isLost = false := by rw [(hfound hs).1]; exact hs
      rw [r.found k hv]
      exact hfound hs
  · have hv := h.fitted ho hn
    rw [fresh hv]
    exact hv
  · obtain ⟨hv, hclear⟩ := h.removed ho hn
    rw [fresh hv]
    refine ⟨hv, fun hs => ?_⟩
    obtain ⟨hfault, hlost, hover⟩ := hclear hs
    exact ⟨(r.marks _ (by decide) k).trans hfault, (r.marks _ (by decide) k).trans hlost, (r.marks _ (by decide) k).trans hover⟩

theorem stationReacts.rest (h : s.stationReacts v i) (r : v.settlesOn t) (hkept : s.heldOf i = none → v.heldOf i = none)
    (hheld : ∀ x ∈ v.screen.held, (s.station x.station).address = (v.station x.station).address) : s.stationReacts t i := by
  obtain ⟨haddr, hpresent, hpresentAt, hlastState, hlastTime⟩ := heard_fields (r.heard i)
  refine ⟨?_, fun hsame => ?_, fun hne => ?_⟩
  · rw [haddr, r.bank]
    exact h.bound
  · obtain ⟨hpresence, hat, hlast, htime, hunheld⟩ := h.kept (hsame.trans haddr)
    exact ⟨hpresent.trans hpresence, hpresentAt.trans hat, hlastState.trans hlast, hlastTime.trans htime,
      fun hn => (r.unheld i (hkept hn)).trans (hunheld hn)⟩
  · rw [haddr] at hne
    have hnone : v.heldOf i = none := heldOf_none_iff.2 fun x hx hst => hne (hst ▸ hheld x hx)
    obtain ⟨hrec, hclear⟩ := h.renewed hne
    rw [r.unheld i hnone, r.bank]
    refine ⟨hrec, fun hn hs => ?_⟩
    obtain ⟨hsilent, horder, htripped⟩ := hclear hn hs
    exact ⟨(r.marks _ (by decide) i).trans hsilent, (r.marks _ (by decide) i).trans horder,
      (r.marks _ (by decide) i).trans htripped⟩

/-- The reactions stand at the end of the event. -/
theorem reactsToShip.rest (h : s.reactsToShip v) (r : v.settlesOn t) (hkept : ∀ i, s.heldOf i = none → v.heldOf i = none) :
    s.reactsToShip t where
  tanks k hk := (h.tanks k hk).rest r
  holds k hk := by rw [r.holds, r.bank]; exact h.holds k hk
  stations i hi := (h.stations i hi).rest r (hkept i) h.held
  held x hx := by
    obtain ⟨y, hy, hkey⟩ := List.mem_map.1 (r.held.subset (List.mem_map_of_mem hx))
    have hst := congrArg Held.station hkey
    have hst : y.station = x.station := hst
    rw [← hst, r.address]
    exact h.held y hy
  dryRuns k hk := by rw [r.dry.1, r.dry.2, r.dryCondition, r.bank]; exact h.dryRuns k hk
  tableFaults hs c hc := (r.marks _ (by decide) _).trans (h.tableFaults hs c hc)

/-- A new ship bank with the reactions to it and the rest of the event. -/
theorem reactsToShip_of (h : s.newShip u) (r : (u.reactToShip s.bank).settlesOn t) : s.reactsToShip t :=
  (reactsToShip_reactToShip h).rest r fun _ => unheld_reactToShip h

/-! ### An evaluation start with no ship group sealed (R37) -/

theorem settlesOn_engine (h : v.onlyChanges [.engine] t) : v.settlesOn t :=
  .of_only (ks := []) h (h.marksOnly _) (by decide) (by decide)

theorem settlesOn_beginEvaluation (h : v.mgmt.ship.isSealed = false) : v.settlesOn v.beginEvaluation := by
  have hsw : v.engineStarts.switchSealed = if v.mgmt.plan.isSealed then v.engineStarts.switchPlan else v.engineStarts :=
    switchSealed_unsealed h
  have hswitch : v.engineStarts.settlesOn v.engineStarts.switchSealed := by
    rw [hsw]
    split
    · exact .switchPlan _
    · exact .refl _
  have hbegun : v.settlesOn (v.engineStarts.switchSealed.growUncertainty).engineSnapshots :=
    (((settlesOn_engine (only_engine v _)).trans hswitch).trans (.growUncertainty _)).trans
      (settlesOn_engine (only_engine _ _))
  unfold beginEvaluation
  dsimp only
  split
  · exact hbegun.trans (.reexamine _)
  · exact hbegun

theorem settlesOn_requestEvaluation (h : v.mgmt.ship.isSealed = false) : v.settlesOn v.requestEvaluation := by
  unfold requestEvaluation
  split
  · exact .refl v
  · split
    · exact settlesOn_engine (only_engine v _)
    · exact settlesOn_beginEvaluation h

theorem requestEvaluation_unsealed (h : s.mgmt.ship.isSealed = false) : s.onlyChanges planStart s.requestEvaluation := by
  unfold requestEvaluation
  split
  · exact onlyChanges_refl _ s
  · split
    · exact (only_engine s _).mono (by decide)
    · exact (beginEvaluation_unsealed h).1

/-- After a request in a working mode an evaluation is in flight. -/
theorem inFlight_requestEvaluation (hw : s.working = true) : s.requestEvaluation.engine.inFlight = true :=
  (engine_requestEvaluation hw).1

end State

end Sys2Proof.Machine
end
section
/-! PROOFS. RELOAD (R197): the stored image in both banks, the blocks' reactions, and the refusals. -/

namespace Sys2Proof.Machine

/-- The lowest table of the group whose check word fails is the first that the store's check finds (R195). -/
theorem firstDamaged_of_lowest {b : ShipBank} {c : TableCode} (hc : c ∈ TableCode.shipTables) (hbad : (b.get c).intact c = false)
    (hlower : ∀ d ∈ TableCode.shipTables, d.code < c.code → (b.get d).intact d = true) : b.firstDamaged = some c := by
  have hsorted : TableCode.shipTables.Pairwise fun x y => x.code < y.code := by decide
  obtain ⟨before, after, he⟩ := List.append_of_mem hc
  refine List.find?_eq_some_iff_append.2 ⟨by rw [hbad]; rfl, before, after, he, fun d hd => ?_⟩
  rw [he] at hsorted hlower
  have hlt : d.code < c.code := (List.pairwise_append.1 hsorted).2.2 d hd c List.mem_cons_self
  rw [hlower d (List.mem_append_left _ hd) hlt]
  rfl

namespace State
variable {s t u : State} {src seq : Byte}

theorem newShip_of {a : State} (h : s.onlyChanges [.ship, .store, .engine, .out] a) : s.newShip a.clearTableFaults where
  frame := (h.andThen (clearTableFaults_only a)).mono (by decide)
  sound hs := (keeps.refl a).clearTableFaults.faults (h.faults (by decide) ▸ hs)
  tableFaults hs _ hc := active_clearTableFaults (h.faults (by decide) ▸ hs) hc

/-! ### The taking of the stored image -/

/-- The part with the stored image in both banks and the blocks' reactions made. -/
def reloaded (s : State) : State := s.replaceShip.clearTableFaults.reactToShip s.bank

theorem reloaded_only (s : State) : s.replaceShip.onlyChanges reactBlocks s.reloaded :=
  ((clearTableFaults_only _).andThen (reactToShip_only _ _)).mono (by decide)

theorem reloadShip_unconfigured (h : s.sys.mode = .unconfigured) : s.reloadShip = s.reloaded.leaveUnconfigured.requestEvaluation := by
  unfold reloadShip reloaded
  dsimp only
  rw [if_pos (unconfigured_iff.2 h)]

theorem reloadShip_working (h : s.sys.mode ≠ .unconfigured) : s.reloadShip
    = if s.reloaded.reexamine.engine.inFlight then s.reloaded.reexamine else s.reloaded.reexamine.requestEvaluation := by
  have hu : ¬ s.unconfigured = true := fun e => h (unconfigured_iff.1 e)
  unfold reloadShip reloaded
  dsimp only
  rw [if_neg hu]

theorem doReload_valid (hsm : s.sessionMode = false) (hw : s.mgmt.writing = none) (hv : s.storeValid = true) :
    s.doReload [] = (s.reloadShip, .accepted (enc2 (succWrap16 s.mgmt.ship.gen))) := by
  obtain ⟨hmark, hgood⟩ := Bool.and_eq_true_iff.1 hv
  unfold doReload
  rw [if_neg (not_not_intro rfl), hsm, hw, hmark, Option.isNone_iff_eq_none.1 hgood]
  rfl

theorem doReload_unmarked (hsm : s.sessionMode = false) (hw : s.mgmt.writing = none) (hm : s.mgmt.store.mark = false) :
    s.doReload [] = (s, .refused .tableInvalid (failureResults 0 0)) := by
  unfold doReload
  rw [if_neg (not_not_intro rfl), hsm, hw, hm]
  rfl

theorem doReload_damaged {c : TableCode} (hsm : s.sessionMode = false) (hw : s.mgmt.writing = none)
    (hm : s.mgmt.store.mark = true) (hd : s.mgmt.store.bank.firstDamaged = some c) :
    s.doReload [] = (s, .refused .tableInvalid (failureResults c.code 0)) := by
  unfold doReload
  rw [if_neg (not_not_intro rfl), hsm, hw, hm, hd]
  rfl

theorem doReload_session (hsm : s.sessionMode = true) : s.doReload [] = s.refuse .wrongMode := by
  unfold doReload
  rw [if_neg (not_not_intro rfl), hsm]
  rfl

theorem doReload_busy (hsm : s.sessionMode = false) (hw : s.mgmt.writing ≠ none) : s.doReload [] = s.refuse .busy := by
  unfold doReload
  rw [if_neg (not_not_intro rfl), hsm, Option.isSome_iff_ne_none.2 hw]
  rfl

/-- What a RELOAD changes after the banks and the reactions. -/
abbrev afterReload : List Block := [.mode, .scrub] ++ [.shore, .screen, .stations, .out, .faults] ++ planStart

theorem reloadShip_only (s : State) : s.reloaded.onlyChanges afterReload s.reloadShip := by
  have hsealed : s.reloaded.mgmt.ship.isSealed = false := by rw [(reloaded_only s).shipGroup (by decide)]; rfl
  by_cases hu : s.sys.mode = .unconfigured
  · have hleave := leaveUnconfigured_only s.reloaded
    rw [reloadShip_unconfigured hu]
    exact (hleave.andThen (requestEvaluation_unsealed (by rw [hleave.shipGroup (by decide)]; exact hsealed))).mono (by decide)
  · have hre := reexamine_only s.reloaded
    rw [reloadShip_working hu]
    refine onlyChanges_ite (hre.mono (by decide)) ((hre.andThen (requestEvaluation_unsealed ?_)).mono (by decide))
    rw [hre.shipGroup (by decide)]
    exact hsealed

theorem settlesOn_reloadShip (h : s.sys.mode ≠ .unconfigured) : s.reloaded.settlesOn s.reloadShip := by
  rw [reloadShip_working h]
  split
  · exact .reexamine _
  · refine (settlesOn.reexamine _).trans (settlesOn_requestEvaluation ?_)
    rw [(reexamine_only _).shipGroup (by decide), (reloaded_only s).shipGroup (by decide)]
    rfl

theorem mode_reloadShip (s : State) : s.reloadShip.sys.mode = if s.sys.mode = .unconfigured then .standby else s.sys.mode := by
  have hreloaded : s.reloaded.sys.mode = s.sys.mode := ((replaceShip_only s).andThen (reloaded_only s)).mode (by decide)
  by_cases hu : s.sys.mode = .unconfigured
  · rw [if_pos hu, reloadShip_unconfigured hu, (requestEvaluation_only _).mode (by decide), leaveUnconfigured_mode]
  · rw [if_neg hu, reloadShip_working hu]
    split
    · exact ((reexamine_only _).mode (by decide)).trans hreloaded
    · exact ((requestEvaluation_only _).mode (by decide)).trans (((reexamine_only _).mode (by decide)).trans hreloaded)

theorem inFlight_reloadShip (hm : s.sys.mode ≠ .bypass) : s.reloadShip.engine.inFlight = true := by
  by_cases hu : s.sys.mode = .unconfigured
  · rw [reloadShip_unconfigured hu]
    refine inFlight_requestEvaluation ?_
    unfold working
    rw [leaveUnconfigured_mode]
    rfl
  · have hmode : s.reloaded.reexamine.sys.mode = s.sys.mode :=
      (((replaceShip_only s).andThen (reloaded_only s)).andThen (reexamine_only _)).mode (by decide)
    rw [reloadShip_working hu]
    split
    next h => exact h
    next =>
      refine inFlight_requestEvaluation ?_
      unfold working
      rw [hmode]
      cases h : s.sys.mode with
      | bypass => exact absurd h hm
      | unconfigured => exact absurd h hu
      | standby => rfl
      | loading => rfl
      | safe => rfl

theorem reactsToShip_reloadShip {a : State} (h : s.onlyChanges [.out] a) (hu : a.sys.mode ≠ .unconfigured)
    (hreply : a.reloadShip.onlyChanges [.out] t) : s.reactsToShip t := by
  have hnew : s.newShip a.replaceShip.clearTableFaults := newShip_of ((h.andThen (replaceShip_only a)).mono (by decide))
  have hsettles := settlesOn_reloadShip hu
  unfold reloaded at hsettles
  rw [h.bank (by decide)] at hsettles
  exact reactsToShip_of hnew (hsettles.trans (.of_only (ks := []) hreply (hreply.marksOnly _) (by decide) (by decide)))

/-- A running evaluation is to be abandoned, and its snapshot stays (R40). -/
theorem engine_reloadShip (hu : s.sys.mode ≠ .unconfigured) (hf : s.engine.inFlight = true) :
    s.reloadShip.engine = { s.engine with abandon := true } := by
  have hreloaded : s.reloaded.reexamine.engine = s.replaceShip.engine :=
    ((reloaded_only s).andThen (reexamine_only _)).engine (by decide)
  have hreplace : s.replaceShip.engine = { s.engine with abandon := s.engine.inFlight } := rfl
  rw [hf] at hreplace
  rw [reloadShip_working hu, if_pos (by rw [hreloaded]; exact hf), hreloaded, hreplace]

theorem exec_reload_refused {r : Reason4} {results : List Byte} (h : s.inCircuit) (hm : s.manager src)
    (hd : (s.countAccepted .console).doReload [] = (s.countAccepted .console, .refused r results)) :
    exec (.reload src seq []) s = .next ((s.countAccepted .console).sendReply src seq 7 1 r.code results) :=
  exec_refused_with (c := .reload src seq []) h hm (Nat.zero_le _) (serve_reload.trans hd) rfl

/-- RELOAD of a valid image: the reply apart, the effects are those of the taking of the image. -/
theorem exec_reload_valid (h : s.inCircuit) (hm : s.manager src) (hsm : s.sessionMode = false) (hw : s.mgmt.writing = none)
    (hv : s.storeValid = true) : ∃ a t, exec (.reload src seq []) s = .next t ∧ s.onlyChanges [.out] a
      ∧ a.mgmt = s.mgmt ∧ a.engine = s.engine ∧ a.reloadShip.onlyChanges [.out] t :=
  ⟨s.countAccepted .console, _,
    exec_accepted (c := .reload src seq []) h hm (Nat.zero_le _) (serve_reload.trans (doReload_valid hsm hw hv)) rfl,
    countAccepted_only s .console, rfl, rfl, sendReply_only _ src seq 7 0 0 _⟩

end State

open State in
/-- Settles O44: the banks and reactions of a taken image carried through the rest of the event, and one judgement for each refusal. -/
theorem reloadTakesTheStoredImage : Obligations.ReloadTakesTheStoredImage := by
  refine ⟨fun s src seq h hm hsm hw hv => ?_, fun s src seq h hm hsm hw hmark => ?_,
    fun s src seq c h hm hsm hw hmark hc hbad hlower => ?_, fun s src seq h hm => ⟨fun hsm => ?_, fun hsm hw => ?_⟩⟩
  · obtain ⟨a, t, hexec, hcount, hmgmt, hengine, hreply⟩ := exec_reload_valid (seq := seq) h hm hsm hw hv
    have hmode : a.sys.mode = s.sys.mode := hcount.mode (by decide)
    have hall := (reloaded_only a).andThen ((reloadShip_only a).andThen hreply)
    have hship := hall.shipGroup (by decide)
    obtain ⟨hstore, hstate, -, hunstored⟩ := hall .store (by decide)
    refine ⟨t, hexec, ?_, hunstored, ?_, hstate, fun hu => ?_, ?_, ?_, fun hf hu => ?_⟩
    · rw [hship, ← hmgmt]
      rfl
    · rw [hstore, ← hmgmt]
      rfl
    · exact reactsToShip_reloadShip hcount (hmode ▸ hu) hreply
    · rw [hreply.mode (by decide), mode_reloadShip, hmode]
    · rw [hreply.engine (by decide)]
      exact inFlight_reloadShip (hmode ▸ h.2)
    · rw [hreply.engine (by decide), engine_reloadShip (hmode ▸ hu) (hengine ▸ hf), hengine]
      exact ⟨rfl, rfl⟩
  · exact exec_reload_refused (r := .tableInvalid) h hm (doReload_unmarked hsm hw hmark)
  · exact exec_reload_refused (r := .tableInvalid) h hm (doReload_damaged hsm hw hmark (firstDamaged_of_lowest hc hbad hlower))
  · exact exec_reload_refused (r := .wrongMode) h hm (doReload_session hsm)
  · exact exec_reload_refused (r := .busy) h hm (doReload_busy hsm hw)

end Sys2Proof.Machine
end
section
/-! PROOFS. COMMIT (R191, R192): the sealing, the switch at an idle engine, and the refusals. -/

namespace Sys2Proof.Machine

namespace State
variable {s t u a b : State} {src seq : Byte}

/-! ### The switch of sealed groups at an evaluation start (R37, R193) -/

theorem engineSnapshots_only (s : State) : s.onlyChanges [.engine] s.engineSnapshots := only_engine s _

/-- What an evaluation start changes after the switch of the sealed groups. -/
theorem beginEvaluation_switched (s : State) : s.engineStarts.switchSealed.onlyChanges
    ([.tanks, .engine] ++ screenBlocks) s.beginEvaluation := by
  have h := (growUncertainty_only s.engineStarts.switchSealed).andThen (engineSnapshots_only _)
  unfold beginEvaluation
  dsimp only
  split
  · exact (h.andThen (reexamine_only _)).mono (by decide)
  · exact h.mono (by decide)

theorem settlesOn_switched (s : State) : s.engineStarts.switchSealed.settlesOn s.beginEvaluation := by
  have h := (settlesOn.growUncertainty s.engineStarts.switchSealed).trans (settlesOn_engine (engineSnapshots_only _))
  unfold beginEvaluation
  dsimp only
  split
  · exact h.trans (.reexamine _)
  · exact h

theorem switchSealed_sealed (h : s.mgmt.ship.isSealed = true) :
    s.switchSealed = if s.switchShip.mgmt.plan.isSealed then s.switchShip.switchPlan else s.switchShip := by
  unfold switchSealed
  rw [if_pos h]

theorem switchPlan_plan (s : State) : s.switchPlan.mgmt.plan = s.switchedPlan.mgmt.plan := by
  have hrest : s.switchedPlan.onlyChanges pacingBlocks s.switchPlan := by
    unfold switchPlan
    exact onlyChanges_ite (((relatchReports_only _).andThen (rebase_only _)).mono (by decide)) (onlyChanges_refl _ _)
  exact hrest.planGroup (by decide)

theorem switchSealed_plan (h : s.mgmt.plan.isSealed = true) : s.switchSealed.mgmt.plan = s.switchedPlan.mgmt.plan := by
  unfold switchSealed
  extract_lets x
  have hx : x.mgmt.plan = s.mgmt.plan :=
    (onlyChanges_ite (switchShip_only s) (onlyChanges_refl _ s)).planGroup (by decide)
  rw [if_pos (by rw [hx]; exact h), switchPlan_plan]
  unfold switchedPlan
  dsimp only
  rw [hx]

/-- A sealed plan is in force from the beginning of the evaluation. -/
theorem beginEvaluation_plan (h : s.mgmt.plan.isSealed = true) : s.beginEvaluation.mgmt.plan = s.switchedPlan.mgmt.plan :=
  ((beginEvaluation_switched s).planGroup (by decide)).trans (switchSealed_plan (s := s.engineStarts) h)

theorem switchSealed_afterShip (h : s.mgmt.ship.isSealed = true) :
    s.switchShip.onlyChanges ([.plan] ++ pacingBlocks) s.switchSealed := by
  rw [switchSealed_sealed h]
  exact onlyChanges_ite (switchPlan_only _) (onlyChanges_refl _ _)

/-- A sealed ship group is in force, and unstored, from the beginning of the evaluation. -/
theorem beginEvaluation_ship (h : s.mgmt.ship.isSealed = true) :
    s.beginEvaluation.mgmt.ship = s.switchedShip.mgmt.ship ∧ s.beginEvaluation.mgmt.unstored = true := by
  have hreact : s.engineStarts.switchedShip.onlyChanges reactBlocks s.engineStarts.switchShip :=
    ((clearTableFaults_only _).andThen (reactToShip_only _ _)).mono (by decide)
  have hall := (hreact.andThen (switchSealed_afterShip (s := s.engineStarts) h)).andThen (beginEvaluation_switched s)
  exact ⟨hall.shipGroup (by decide), (hall .store (by decide)).2.2.2⟩

theorem settlesOn_out (h : a.onlyChanges [.out] t) : a.settlesOn t :=
  .of_only (ks := []) h (h.marksOnly _) (by decide) (by decide)

/-- The blocks react to a ship group that switches at the beginning of the evaluation (R2, R31, R116, R152). -/
theorem reactsToShip_beginEvaluation (h : s.onlyChanges [.ship, .engine, .out] a) (hbank : a.bank = s.bank)
    (hsealed : a.mgmt.ship.isSealed = true) (hrest : a.beginEvaluation.settlesOn t) : s.reactsToShip t := by
  have hnew : s.newShip a.engineStarts.switchedShip.clearTableFaults :=
    newShip_of (((h.andThen (only_engine a _)).andThen (switchedShip_only _)).mono (by decide))
  have hswitch : a.engineStarts.switchShip = a.engineStarts.switchedShip.clearTableFaults.reactToShip s.bank := by
    unfold switchShip
    rw [show a.engineStarts.bank = s.bank from hbank]
  have hsealed' : a.engineStarts.mgmt.ship.isSealed = true := hsealed
  have hplan : a.engineStarts.switchShip.settlesOn a.engineStarts.switchSealed := by
    rw [switchSealed_sealed hsealed']
    split
    · exact .switchPlan _
    · exact .refl _
  have hbegun := hplan.trans (settlesOn_switched a)
  rw [hswitch] at hbegun
  exact reactsToShip_of hnew (hbegun.trans hrest)

/-! ### Leaving UNCONFIGURED (R170) -/

theorem startTimers_engine (s : State) :
    s.startTimers.engine = { s.engine with intervalAt := some (s.now + s.bank.evaluationInterval) } := by
  have h : s.onlyChanges [.tanks, .stations] s.startGaugeTimers.startPresenceTimers :=
    (startGaugeTimers_only s).andThen (startPresenceTimers_only _)
  have hset (u : State) : u.setTimers.engine = { u.engine with intervalAt := some (u.now + u.bank.evaluationInterval) } := rfl
  rw [startTimers_eq, hset, h.engine (by decide), h.now (by decide), h.bank (by decide)]

theorem leaveUnconfigured_engine (s : State) :
    s.leaveUnconfigured.engine = { s.engine with intervalAt := some (s.now + s.bank.evaluationInterval) } := by
  have hset := setMode_only s .standby
  have hstart := startTimers_engine (s.setMode .standby)
  rw [hset.engine (by decide), hset.now (by decide), hset.bank (by decide)] at hstart
  exact ((tellMode_only _).engine (by decide)).trans hstart

theorem inService.configured (h : s.inService) : s.sys.mode ≠ .unconfigured := fun e =>
  absurd ((not_unconfigured_of_working h.working).symm.trans (unconfigured_iff.2 e)) nofun

/-! ### The judgement of a COMMIT (R191) -/

theorem doCommit_ship : s.doCommit [0] = s.commitShip := rfl
theorem doCommit_plan : s.doCommit [1] = s.commitPlan := rfl

theorem commitPlan_sealed (h : s.sys.mode ≠ .unconfigured) (hs : s.mgmt.plan.isSealed = true) :
    s.commitPlan = s.refuse .busy := by
  unfold commitPlan
  rw [if_neg (fun e => h (unconfigured_iff.1 e)), if_pos hs]

theorem commitPlan_unconfigured (h : s.sys.mode = .unconfigured) : s.commitPlan = s.refuse .wrongMode :=
  if_pos (unconfigured_iff.2 h)

theorem commitPlan_valid (h : s.sys.mode ≠ .unconfigured) (hs : s.mgmt.plan.isSealed = false)
    (hv : s.mgmt.plan.staging.validate s.bank = none) :
    s.commitPlan = (s.sealPlan.requestEvaluation, .accepted (enc2 (succWrap16 s.mgmt.plan.gen))) := by
  have hs' : ¬s.mgmt.plan.isSealed = true := by rw [hs]; nofun
  unfold commitPlan
  rw [if_neg (fun e => h (unconfigured_iff.1 e)), if_neg hs', hv]

theorem commitPlan_invalid {f : Failure} (h : s.sys.mode ≠ .unconfigured) (hs : s.mgmt.plan.isSealed = false)
    (hv : s.mgmt.plan.staging.validate s.bank = some f) : s.commitPlan = s.refuseInvalid f := by
  have hs' : ¬s.mgmt.plan.isSealed = true := by rw [hs]; nofun
  unfold commitPlan
  rw [if_neg (fun e => h (unconfigured_iff.1 e)), if_neg hs', hv]

theorem commitShip_session (h : s.sessionMode = true) : s.commitShip = s.refuse .wrongMode := if_pos h

theorem commitShip_busy (h : s.sessionMode = false) (hb : s.mgmt.writing ≠ none ∨ s.mgmt.ship.isSealed = true) :
    s.commitShip = s.refuse .busy := by
  have hs : ¬s.sessionMode = true := by rw [h]; nofun
  unfold commitShip
  rw [if_neg hs]
  split
  · rfl
  next hw => exact if_pos (hb.resolve_left fun hn => hw (Option.isSome_iff_ne_none.2 hn))

theorem commitShip_valid (h : s.sessionMode = false) (hw : s.mgmt.writing = none) (hs : s.mgmt.ship.isSealed = false)
    (hv : s.mgmt.ship.staging.validate = none) :
    s.commitShip = (if s.unconfigured then s.sealShip.switchShip.leaveUnconfigured else s.sealShip.requestEvaluation,
      .accepted (enc2 (succWrap16 s.mgmt.ship.gen))) := by
  have hm : ¬s.sessionMode = true := by rw [h]; nofun
  have hw' : ¬s.mgmt.writing.isSome = true := by rw [hw]; nofun
  have hs' : ¬s.mgmt.ship.isSealed = true := by rw [hs]; nofun
  unfold commitShip
  rw [if_neg hm, if_neg hw', if_neg hs', hv]

theorem commitShip_invalid {f : Failure} (h : s.sessionMode = false) (hw : s.mgmt.writing = none)
    (hs : s.mgmt.ship.isSealed = false) (hv : s.mgmt.ship.staging.validate = some f) : s.commitShip = s.refuseInvalid f := by
  have hm : ¬s.sessionMode = true := by rw [h]; nofun
  have hw' : ¬s.mgmt.writing.isSome = true := by rw [hw]; nofun
  have hs' : ¬s.mgmt.ship.isSealed = true := by rw [hs]; nofun
  unfold commitShip
  rw [if_neg hm, if_neg hw', if_neg hs', hv]

theorem exec_commit_accepted {g : Byte} {results : List Byte} (h : s.inCircuit) (hm : s.manager src)
    (hd : (s.countAccepted .console).doCommit [g] = (u, .accepted results)) :
    ∃ t, exec (.commit src seq [g]) s = .next t ∧ u.onlyChanges [.out] t :=
  ⟨_, exec_accepted (c := .commit src seq [g]) (args := [g]) h hm (show 1 ≤ 55 by decide) (serve_commit.trans hd) rfl,
    sendReply_only u src seq 5 0 0 results⟩

theorem exec_commit_refused {g : Byte} {r : Reason4} {results : List Byte} (h : s.inCircuit) (hm : s.manager src)
    (hd : (s.countAccepted .console).doCommit [g] = (s.countAccepted .console, .refused r results)) :
    exec (.commit src seq [g]) s = .next ((s.countAccepted .console).sendReply src seq 5 1 r.code results) :=
  exec_refused_with (c := .commit src seq [g]) (args := [g]) h hm (show 1 ≤ 55 by decide) (serve_commit.trans hd) rfl

/-- An accepted COMMIT of the plan: the request of an evaluation over the sealed group, then the reply. -/
theorem exec_commit_plan (h : s.inService) (hm : s.manager src) (hs : s.mgmt.plan.isSealed = false)
    (hv : s.mgmt.plan.staging.validate s.bank = none) : ∃ a t, exec (.commit src seq [1]) s = .next t
      ∧ s.onlyChanges [.plan, .out] a ∧ a.mgmt.plan = s.sealPlan.mgmt.plan ∧ a.requestEvaluation.onlyChanges [.out] t := by
  have hcount := countAccepted_only s .console
  have hd := doCommit_plan.trans (commitPlan_valid (s := s.countAccepted .console) h.configured hs hv)
  obtain ⟨t, ht, hreply⟩ := exec_commit_accepted (seq := seq) h.inCircuit hm hd
  exact ⟨_, t, ht, (hcount.andThen (sealPlan_only _)).mono (by decide), rfl, hreply⟩

/-- An accepted COMMIT of the ship group in a working mode. -/
theorem exec_commit_ship (h : s.inService) (hm : s.manager src) (hsm : s.sessionMode = false) (hw : s.mgmt.writing = none)
    (hs : s.mgmt.ship.isSealed = false) (hv : s.mgmt.ship.staging.validate = none) :
    ∃ a t, exec (.commit src seq [0]) s = .next t ∧ s.onlyChanges [.ship, .out] a
      ∧ a.mgmt.ship = s.sealShip.mgmt.ship ∧ a.requestEvaluation.onlyChanges [.out] t := by
  have hcount := countAccepted_only s .console
  have hu : ¬(s.countAccepted .console).unconfigured = true := fun e => h.configured (unconfigured_iff.1 e)
  have hd := doCommit_ship.trans (commitShip_valid (s := s.countAccepted .console) hsm hw hs hv)
  rw [if_neg hu] at hd
  obtain ⟨t, ht, hreply⟩ := exec_commit_accepted (seq := seq) h.inCircuit hm hd
  exact ⟨_, t, ht, (hcount.andThen (sealShip_only _)).mono (by decide), rfl, hreply⟩

/-- An accepted COMMIT of the ship group in UNCONFIGURED. -/
theorem exec_commit_unconfigured (h : s.inCircuit) (hm : s.manager src) (hu : s.sys.mode = .unconfigured)
    (hw : s.mgmt.writing = none) (hs : s.mgmt.ship.isSealed = false) (hv : s.mgmt.ship.staging.validate = none) :
    ∃ a t, exec (.commit src seq [0]) s = .next t ∧ s.onlyChanges [.ship, .out] a
      ∧ a.mgmt.ship = s.sealShip.mgmt.ship ∧ a.switchShip.leaveUnconfigured.onlyChanges [.out] t := by
  have hcount := countAccepted_only s .console
  have hsm : (s.countAccepted .console).sessionMode = false := by
    unfold sessionMode
    rw [hcount.mode (by decide), hu]
    rfl
  have hu' : (s.countAccepted .console).unconfigured = true := unconfigured_iff.2 hu
  have hd := doCommit_ship.trans (commitShip_valid (s := s.countAccepted .console) hsm hw hs hv)
  rw [if_pos hu'] at hd
  obtain ⟨t, ht, hreply⟩ := exec_commit_accepted (seq := seq) h hm hd
  exact ⟨_, t, ht, (hcount.andThen (sealShip_only _)).mono (by decide), rfl, hreply⟩

/-! ### What an accepted COMMIT does (R192) -/

/-- With an evaluation in flight the sealed bank waits and a further evaluation is pending (R36). -/
theorem sealed_flying {l : List Block} (h : s.inService) (hf : s.engine.inFlight = true) (ha : s.onlyChanges l a)
    (hreply : a.requestEvaluation.onlyChanges [.out] t) (hm : Block.mode ∉ l) (he : Block.engine ∉ l) :
    t.engine = { s.engine with pending := true } ∧ a.onlyChanges [.engine, .out] t := by
  have hengine := ha.engine he
  rw [requestEvaluation_flying ((ha.working hm).trans h.working) (by rw [hengine]; exact hf)] at hreply
  have hpending := hreply.engine (by decide)
  exact ⟨by rw [hpending, hengine], ((only_engine a _).andThen hreply).mono (by decide)⟩

theorem sealed_idle {l : List Block} (h : s.inService) (hf : s.engine.inFlight = false) (ha : s.onlyChanges l a)
    (hreply : a.requestEvaluation.onlyChanges [.out] t) (hm : Block.mode ∉ l) (he : Block.engine ∉ l) :
    a.beginEvaluation.onlyChanges [.out] t ∧ t.engine.inFlight = true := by
  rw [requestEvaluation_idle ((ha.working hm).trans h.working) (by rw [ha.engine he]; exact hf)] at hreply
  exact ⟨hreply, by rw [hreply.engine (by decide), engine_beginEvaluation]⟩

theorem switchedPlan_sealed (ha : a.mgmt.plan = s.sealPlan.mgmt.plan) : a.switchedPlan.mgmt.plan =
    { active := s.mgmt.plan.staging.withChecks, staging := s.mgmt.plan.staging.withChecks
      gen := succWrap16 s.mgmt.plan.gen, isSealed := false, isPending := false } := by
  simp only [switchedPlan, ha, sealPlan]

theorem switchedShip_sealed (ha : a.mgmt.ship = s.sealShip.mgmt.ship) : a.switchedShip.mgmt.ship =
    { active := s.mgmt.ship.staging.withChecks, staging := s.mgmt.ship.staging.withChecks
      gen := succWrap16 s.mgmt.ship.gen, isSealed := false, isPending := false } := by
  simp only [switchedShip, ha, sealShip]

theorem commit_ship_idle (h : s.inService) (hm : s.manager src) (hsm : s.sessionMode = false) (hf : s.engine.inFlight = false)
    (hw : s.mgmt.writing = none) (hs : s.mgmt.ship.isSealed = false) (hv : s.mgmt.ship.staging.validate = none) :
    ∃ t, exec (.commit src seq [0]) s = .next t ∧ t.sys.mode = s.sys.mode
      ∧ t.mgmt.ship =
          { active := s.mgmt.ship.staging.withChecks, staging := s.mgmt.ship.staging.withChecks
            gen := succWrap16 s.mgmt.ship.gen, isSealed := false, isPending := false }
      ∧ t.mgmt.unstored = true ∧ t.engine.inFlight = true ∧ s.reactsToShip t := by
  obtain ⟨a, t, ht, ha, hship, hreply⟩ := exec_commit_ship (seq := seq) h hm hsm hw hs hv
  have hsealed : a.mgmt.ship.isSealed = true := by rw [hship]; rfl
  have hsame : s.sealShip.mgmt.ship.active = s.mgmt.ship.active := rfl
  have hbank : a.bank = s.bank := (congrArg Group.active hship).trans hsame
  obtain ⟨hbegun, hflight⟩ := sealed_idle h hf ha hreply (by decide) (by decide)
  obtain ⟨hnew, hunstored⟩ := beginEvaluation_ship hsealed
  exact ⟨t, ht, (hbegun.mode (by decide)).trans (((beginEvaluation_only a).mode (by decide)).trans (ha.mode (by decide))),
    ((hbegun.shipGroup (by decide)).trans hnew).trans (switchedShip_sealed hship), (hbegun .store (by decide)).2.2.2.trans hunstored, hflight,
    reactsToShip_beginEvaluation (ha.mono (by decide)) hbank hsealed (settlesOn_out hbegun)⟩

theorem commit_ship_unconfigured (h : s.inCircuit) (hm : s.manager src) (hu : s.sys.mode = .unconfigured)
    (hw : s.mgmt.writing = none) (hs : s.mgmt.ship.isSealed = false) (hv : s.mgmt.ship.staging.validate = none) :
    ∃ t, exec (.commit src seq [0]) s = .next t ∧ t.sys.mode = .standby
      ∧ t.mgmt.ship =
          { active := s.mgmt.ship.staging.withChecks, staging := s.mgmt.ship.staging.withChecks
            gen := succWrap16 s.mgmt.ship.gen, isSealed := false, isPending := false }
      ∧ t.mgmt.unstored = true ∧ t.engine.inFlight = s.engine.inFlight
      ∧ t.engine.intervalAt = some (s.now + t.bank.evaluationInterval) := by
  obtain ⟨a, t, ht, ha, hship, hreply⟩ := exec_commit_unconfigured (seq := seq) h hm hu hw hs hv
  have hreact : a.switchedShip.onlyChanges reactBlocks a.switchShip :=
    ((clearTableFaults_only _).andThen (reactToShip_only _ _)).mono (by decide)
  have hleave := leaveUnconfigured_only a.switchShip
  have hrest := hleave.andThen hreply
  have hall := hreact.andThen hrest
  have hengine := (hreply.engine (by decide)).trans (leaveUnconfigured_engine a.switchShip)
  have hbefore := (switchShip_only a).engine (by decide)
  refine ⟨t, ht, (hreply.mode (by decide)).trans (leaveUnconfigured_mode _), (hall.shipGroup (by decide)).trans (switchedShip_sealed hship),
    (hall .store (by decide)).2.2.2, ?_, ?_⟩
  · rw [hengine, hbefore, ha.engine (by decide)]
  · rw [hengine, hrest.bank (by decide), (switchShip_only a).now (by decide), ha.now (by decide)]

end State

open State in
/-- Settles O43: one judgement for each outcome, and the switch of the sealed groups where an evaluation begins at once. -/
theorem commitSealsAValidBank : Obligations.CommitSealsAValidBank := by
  refine ⟨fun s src seq h hm hs hv => ⟨fun hf => ?_, fun hf => ?_⟩, fun s src seq h hm hmode hf hw hs hv => ?_,
    fun s src seq h hm hsm hf hw hs hv => ?_, fun s src seq h hm hu hw hs hv => ?_,
    fun s src seq f h hm hs hv => ?_, fun s src seq f h hm hsm hw hs hv => ?_,
    fun s src seq h hm => ⟨fun hsm => ?_, fun hsm hb => ?_, fun hu => ?_, fun hu hs => ?_⟩⟩
  · obtain ⟨a, t, ht, ha, hplan, hreply⟩ := exec_commit_plan (seq := seq) h hm hs hv
    obtain ⟨hpending, hrest⟩ := sealed_flying h hf ha hreply (by decide) (by decide)
    exact ⟨t, ht, (hrest.planGroup (by decide)).trans hplan, hpending, (ha.andThen hrest).mono (by decide)⟩
  · obtain ⟨a, t, ht, ha, hplan, hreply⟩ := exec_commit_plan (seq := seq) h hm hs hv
    obtain ⟨hbegun, hflight⟩ := sealed_idle h hf ha hreply (by decide) (by decide)
    have hsealed : a.mgmt.plan.isSealed = true := by rw [hplan]; rfl
    exact ⟨t, ht, (hbegun.planGroup (by decide)).trans ((beginEvaluation_plan hsealed).trans (switchedPlan_sealed hplan)),
      hflight⟩
  · have hserv : s.inService := ⟨h.1, by unfold working; rw [hmode]; rfl⟩
    have hsm : s.sessionMode = false := by unfold sessionMode; rw [hmode]; rfl
    obtain ⟨a, t, ht, ha, hship, hreply⟩ := exec_commit_ship (seq := seq) hserv hm hsm hw hs hv
    obtain ⟨hpending, hrest⟩ := sealed_flying hserv hf ha hreply (by decide) (by decide)
    exact ⟨t, ht, (hrest.shipGroup (by decide)).trans hship, hpending, (ha.andThen hrest).mono (by decide)⟩
  · exact commit_ship_idle h hm hsm hf hw hs hv
  · exact commit_ship_unconfigured h hm hu hw hs hv
  · have hd := doCommit_plan.trans (commitPlan_invalid (s := s.countAccepted .console) h.configured hs hv)
    exact exec_commit_refused (r := .tableInvalid) h.inCircuit hm hd
  · have hd := doCommit_ship.trans (commitShip_invalid (s := s.countAccepted .console) hsm hw hs hv)
    exact exec_commit_refused (r := .tableInvalid) h hm hd
  · exact exec_commit_refused (r := .wrongMode) h hm (doCommit_ship.trans (commitShip_session (s := s.countAccepted .console) hsm))
  · exact exec_commit_refused (r := .busy) h hm (doCommit_ship.trans (commitShip_busy (s := s.countAccepted .console) hsm hb))
  · exact exec_commit_refused (r := .wrongMode) h hm
      (doCommit_plan.trans (commitPlan_unconfigured (s := s.countAccepted .console) hu))
  · exact exec_commit_refused (r := .busy) h hm
      (doCommit_plan.trans (commitPlan_sealed (s := s.countAccepted .console) hu hs))

end Sys2Proof.Machine
end
section
/-! PROOFS. The interval timer's expiry (R35, R36, R37), and the orders withdrawn at a switch (R116, R152). -/

namespace Sys2Proof.Machine

theorem forEach_succ {σ : Type} (n : Nat) (f : Nat → σ → σ) (x : σ) :
    forEach (List.range (n + 1)) f x = f n (forEach (List.range n) f x) := by
  unfold forEach
  rw [List.range_succ, List.foldl_append]
  rfl

theorem nth_forEach_upd {n : Nat} (g : Nat → Int) (v : Vector Int n) (m : Nat) {k : Nat} (hk : k < n) :
    nth (forEach (List.range m) (fun i v => upd v i fun _ => g i) v) k 0 = if k < m then g k else nth v k 0 := by
  induction m with
  | zero => rfl
  | succ m ih =>
    rw [forEach_succ]
    by_cases h : k = m
    · subst h
      rw [nth_upd_same _ _ _ _ hk, if_pos (Nat.lt_succ_self k)]
    · rw [nth_upd_other _ _ _ _ _ h, ih]
      exact if_congr ⟨fun hlt => hlt.trans (Nat.lt_succ_self m), fun hlt => (Nat.lt_succ_iff_lt_or_eq.1 hlt).resolve_right h⟩ rfl rfl

namespace State

/-- A vector filled by index holds at each index what it was filled with. -/
theorem nth_fill {n : Nat} (g : Nat → Int) {k : Nat} (hk : k < n) : nth (fill n g) k 0 = g k :=
  (nth_forEach_upd g _ n hk).trans (if_pos hk)

variable {s t u : State} {l : List Block} {i : Nat} {bs : List (Nat × Byte)}

/-! ### The snapshot (R38) -/

theorem takeSnapshot_mass (s : State) {k : Nat} (hk : k < 48) : s.takeSnapshot.mass k = s.itemMass k := nth_fill _ hk
theorem takeSnapshot_unc (s : State) {k : Nat} (hk : k < 32) : s.takeSnapshot.unc k = s.itemUncertainty k := nth_fill _ hk

theorem takeSnapshot_tables (s : State) : s.takeSnapshot.tables = s.bank := rfl
theorem takeSnapshot_shipGen (s : State) : s.takeSnapshot.shipGen = s.mgmt.ship.gen := rfl
theorem takeSnapshot_planGen (s : State) : s.takeSnapshot.planGen = s.mgmt.plan.gen := rfl

theorem itemMass_of_only (h : s.onlyChanges l t) (hship : Block.ship ∉ l) (ht : Block.tanks ∉ l) (hsh : Block.shore ∉ l)
    (hw : t.engine.weights = s.engine.weights) (k : Nat) : t.itemMass k = s.itemMass k := by
  unfold itemMass
  simp only [h.bank hship, h.tank ht, h.hold hsh, hw]

theorem itemUncertainty_of_only (h : s.onlyChanges l t) (hship : Block.ship ∉ l) (ht : Block.tanks ∉ l) (k : Nat) :
    t.itemUncertainty k = s.itemUncertainty k := by
  unfold itemUncertainty
  simp only [h.bank hship, h.tank ht]

/-- What an evaluation start changes after its snapshot point. -/
theorem beginEvaluation_snapshotted (s : State) : s.snapshotPoint.onlyChanges ([.engine] ++ screenBlocks) s.beginEvaluation := by
  have h : s.snapshotPoint.onlyChanges [.engine] s.engineStarts.switchSealed.growUncertainty.engineSnapshots :=
    engineSnapshots_only _
  unfold beginEvaluation
  dsimp only
  split
  · exact (h.andThen (reexamine_only _)).mono (by decide)
  · exact h.mono (by decide)

theorem weights_beginEvaluation (s : State) : s.beginEvaluation.engine.weights = s.snapshotPoint.engine.weights := by
  have hpoint : s.snapshotPoint.engine = s.engineStarts.engine :=
    ((growUncertainty_only _).engine (by decide)).trans (engine_switchSealed _)
  rw [engine_beginEvaluation, hpoint]
  rfl

/-! ### The groups at an evaluation start (R37, R193) -/

theorem beginEvaluation_shipKept (h : s.mgmt.ship.isSealed = false) : s.beginEvaluation.mgmt.ship = s.mgmt.ship :=
  (beginEvaluation_unsealed h).1.shipGroup (by decide)

theorem beginEvaluation_planKept (h : s.mgmt.plan.isSealed = false) : s.beginEvaluation.mgmt.plan = s.mgmt.plan := by
  have hswitch : s.engineStarts.switchSealed.mgmt.plan = s.mgmt.plan := by
    unfold switchSealed
    extract_lets x
    have hx : x.mgmt.plan = s.mgmt.plan :=
      (onlyChanges_ite (switchShip_only s.engineStarts) (onlyChanges_refl _ _)).planGroup (by decide)
    have hunsealed : ¬x.mgmt.plan.isSealed = true := by rw [hx, h]; nofun
    rw [if_neg hunsealed, hx]
  exact ((beginEvaluation_switched s).planGroup (by decide)).trans hswitch

theorem beginEvaluation_calm (h : s.mgmt.ship.isSealed = false) (hp : s.mgmt.plan.isSealed = false) :
    s.onlyChanges [.engine, .tanks] s.beginEvaluation := by
  have hplan : ¬s.engineStarts.mgmt.plan.isSealed = true := by rw [show s.engineStarts.mgmt.plan.isSealed = _ from hp]; nofun
  have hsw : s.engineStarts.switchSealed = s.engineStarts := (switchSealed_unsealed (s := s.engineStarts) h).trans (if_neg hplan)
  have hstart : s.onlyChanges [.engine] s.engineStarts := only_engine s _
  unfold beginEvaluation
  rw [h, hp, hsw]
  exact ((hstart.andThen (growUncertainty_only _)).andThen (engineSnapshots_only _)).mono (by decide)

/-! ### Orders withdrawn (R116, R152) -/

theorem sending_withdrawOutstanding {o : Outstanding} {a c : Byte} (h : s.consoleIdle) (ha : (s.station i).address = some a)
    (ho : (s.station i).outstanding = some o) (hc : o.console = some c) :
    (s.withdrawOutstanding i).out.console.sending = some (s.ackEntry c a o.seq 20 0) := by
  have hclose := closeOutstanding_only s i o .withdrawn
  have hidle : (s.closeOutstanding i o .withdrawn).consoleIdle := by
    unfold consoleIdle
    rw [hclose.out (by decide)]
    exact h
  have hack := sending_syntheticAck hidle c o.seq a outcomeWithdrawn 0
  have hbound : s.boundAddress i = a := by unfold boundAddress; rw [ha]; rfl
  unfold ackEntry at hack
  rw [hclose.bank (by decide)] at hack
  unfold withdrawOutstanding answerOutstanding
  rw [ho, hbound]
  dsimp only
  rw [hc]
  exact hack

theorem goesOn_clearStation (s : State) (i : Nat) : s.spares allPorts (s.clearStation i) :=
  ((goesOn_clearFault s _ _).trans (goesOn_clearFault _ _ _)).trans (goesOn_clearFault _ _ _)

theorem sending_rebindStation {o : Outstanding} {a c : Byte} (h : s.consoleIdle) (ha : (s.station i).address = some a)
    (hbs : addressIn bs i ≠ some a) (ho : (s.station i).outstanding = some o) (hc : o.console = some c) :
    (s.rebindStation bs i).out.console.sending = some (s.ackEntry c a o.seq 20 0) := by
  have hmoved : (s.station i).address ≠ addressIn bs i := by rw [ha]; exact hbs.symm
  rw [rebindStation_moved hmoved (by rw [ha]; nofun)]
  exact (goesOn_clearStation _ i).sending .console _ (sending_withdrawOutstanding h ha ho hc)

theorem goesOn_withdrawTurn (old : Nat → Option Byte) (s : State) (x : Held) : s.spares allPorts (withdrawTurn old s x) := by
  unfold withdrawTurn
  split
  · exact .refl _ _
  · exact ((dropHeld_only s _).spares allPorts).trans (goesOn_syntheticAck _ _ _ _ _ _)

theorem goesOn_withdrawTurns (old : Nat → Option Byte) (hs : List Held) (s : State) :
    s.spares allPorts (hs.foldl (withdrawTurn old) s) := by
  induction hs generalizing s with
  | nil => exact .refl _ _
  | cons x hs ih => exact (goesOn_withdrawTurn old s x).trans (ih _)

/-- The oldest withdrawn entry is answered first (log 37). -/
theorem sending_withdrawHeld {old : Nat → Option Byte} {x : Held} {rest : List Held} (h : s.consoleIdle)
    (hx : s.screen.held = x :: rest) (hne : (s.station x.station).address ≠ old x.station) :
    (s.withdrawHeld old).out.console.sending
      = some (s.ackEntry x.order.console ((old x.station).getD 0) x.order.seq 20 0) := by
  have hfirst : (withdrawTurn old s x).out.console.sending
      = some (s.ackEntry x.order.console ((old x.station).getD 0) x.order.seq 20 0) := by
    unfold withdrawTurn
    rw [if_neg hne]
    exact sending_syntheticAck (s := s.dropHeld x.station) h _ _ _ _ _
  rw [withdrawHeld_eq, hx, List.foldl_cons]
  exact (goesOn_withdrawTurns old rest _).sending .console _ hfirst

/-! ### The expiry (R36) -/

theorem intervalDue_of {d : Nat} (hw : s.working = true) (h : s.engine.intervalAt = some d) (hd : d ≤ s.now) :
    s.intervalDue = true := by
  simp [intervalDue, hw, h, hd]

/-- The timer restarted after the request (log 57). -/
def intervalRestarted (s : State) : State :=
  { s with engine := { s.engine with intervalAt := some (s.now + s.bank.evaluationInterval) } }

theorem intervalExpired_eq (s : State) : s.intervalExpired = s.requestEvaluation.intervalRestarted := rfl
theorem intervalRestarted_only (s : State) : s.onlyChanges [.engine] s.intervalRestarted := only_engine s _
theorem intervalRestarted_engine (s : State) : s.intervalRestarted.engine
    = { s.engine with intervalAt := some (s.now + s.bank.evaluationInterval) } := rfl

end State

open State in
/-- Settles O19: the request begins an evaluation at its snapshot point, and a transmitted first ACK is not disturbed by later ones. -/
theorem intervalExpiryBeginsOrCoalesces : Obligations.IntervalExpiryBeginsOrCoalesces := by
  refine ⟨fun s d hr hw ht hd => ⟨fun hf => ⟨_, exec_due hr (intervalDue_of hw ht hd) rfl, ?_⟩,
    fun hf => ⟨s.intervalExpired, s.snapshotPoint.takeSnapshot, exec_due hr (intervalDue_of hw ht hd) rfl, ?_⟩⟩,
    fun s bs i o a c _ h ha hbs ho hc => sending_rebindStation h ha hbs ho hc,
    fun s old x rest h hx hne => sending_withdrawHeld h hx hne⟩
  · rw [intervalExpired_eq, requestEvaluation_flying hw hf]
    exact ⟨rfl, ((only_engine s _).trans (intervalRestarted_only _))⟩
  · have hrestart := intervalRestarted_only s.beginEvaluation
    have hengine := intervalRestarted_engine s.beginEvaluation
    have hall := (beginEvaluation_snapshotted s).andThen hrestart
    have hframe := (beginEvaluation_only s).andThen hrestart
    rw [intervalExpired_eq, requestEvaluation_idle hw hf]
    generalize s.beginEvaluation.intervalRestarted = t at *
    have hbegun := engine_beginEvaluation s
    have hweights : t.engine.weights = s.snapshotPoint.engine.weights := by rw [hengine]; exact weights_beginEvaluation s
    refine ⟨?_, ?_, ?_, ?_, ?_, fun k hk => ?_, fun k hk => ?_, ?_, ?_, ?_, ?_, ?_, fun hs => ⟨?_, ?_⟩, fun hs hp => ?_, ?_⟩
    · rw [hengine, hbegun]
    · rw [hengine, hbegun]
    · rw [hengine, hrestart.bank (by decide), (beginEvaluation_only s).now (by decide)]
    · rw [hengine, hbegun]
    · rw [hengine, hbegun]
    · rw [takeSnapshot_mass _ hk, itemMass_of_only hall (by decide) (by decide) (by decide) hweights]
    · rw [takeSnapshot_unc _ hk, itemUncertainty_of_only hall (by decide) (by decide)]
    · rw [hall.bank (by decide), takeSnapshot_tables]
    · rw [hall.shipGroup (by decide), takeSnapshot_shipGen]
    · rw [hall.planGroup (by decide), takeSnapshot_planGen]
    · rw [hrestart.shipGroup (by decide)]
      cases hs : s.mgmt.ship.isSealed with
      | false => exact beginEvaluation_shipKept hs
      | true => exact (beginEvaluation_ship hs).1
    · rw [hrestart.planGroup (by decide)]
      cases hs : s.mgmt.plan.isSealed with
      | false => exact beginEvaluation_planKept hs
      | true => exact beginEvaluation_plan hs
    · exact reactsToShip_beginEvaluation (onlyChanges_refl _ s) rfl hs (settlesOn_engine hrestart)
    · exact (hrestart .store (by decide)).2.2.2.trans (beginEvaluation_ship hs).2
    · exact ((beginEvaluation_calm hs hp).andThen hrestart).mono (by decide)
    · exact hframe.mono (by decide)

end Sys2Proof.Machine
end
section
/-! PROOFS. OPEN_SESSION (R171): the account, the plan tracking, the pacing and the record of a new session. -/

namespace Sys2Proof.Machine

namespace State
variable {s t u : State} {bs : List Block} {src seq : Byte}

/-! ### Loaders that wait for a condition (R93) -/

/-- Every loader has AWAITING_CONDITION in its reason set. -/
def awaits (s : State) : Prop := ∀ l < 4, (s.pause l).reasons.has .awaitingCondition = true

theorem awaits.of_only (h : s.awaits) (k : s.onlyChanges bs t) (n : Block.pacing ∉ bs) : t.awaits := fun l hl => by
  rw [k.pause n]
  exact h l hl

theorem awaits.filled (h : s.awaits) {l : Nat} (hl : l < 4) : (s.pause l).reasons ≠ 0 := fun h0 => by
  have hhas := h l hl
  rw [h0, ReasonSet.has_zero] at hhas
  cases hhas

theorem awaits.addReasonAll (h : s.awaits) (r : Reason) : (s.addReasonAll r).awaits := fun l hl => by
  rw [pause_addReasonAll s r hl, has_withReason, h l hl, Bool.true_or]

theorem awaits.removeReasonAll (h : s.awaits) {r : Reason} (hr : r ≠ .awaitingCondition) : (s.removeReasonAll r).awaits :=
  fun l hl => by
    rw [pause_removeReasonAll s r hl, ReasonSet.has_remove, h l hl, Bool.true_and]
    simp [hr.symm]

/-- In a session AWAITING_CONDITION is admitted to every loader. -/
theorem awaits_added (h : s.sys.sessionOpen = true) : (s.addReasonAll .awaitingCondition).awaits := fun l hl => by
  have hadmits : s.admits .awaitingCondition := .inr h
  rw [pause_addReasonAll s _ hl, has_withReason]
  simp [hadmits]

theorem awaits_actOn (b : Nat → ReasonSet) (f : Option Nat) : (s.actOn b f).awaits ↔ s.awaits :=
  forall₂_congr fun l hl => by rw [reasons_actOn s b f hl]

/-! ### The active step through an event of its pause seconds (R67) -/

/-- An active step stays active with its step number and its totals at the start. -/
def stepKept (s t : State) : Prop := ∀ a, s.tracker.tracking = .tracking a →
  ∃ c, t.tracker.tracking = .tracking c ∧ c.k = a.k ∧ c.cStart = a.cStart ∧ c.bStart = a.bStart

theorem stepKept.refl (s : State) : s.stepKept s := fun a ha => ⟨a, ha, rfl, rfl, rfl⟩

theorem stepKept.trans (h : s.stepKept t) (k : t.stepKept u) : s.stepKept u := fun a ha => by
  obtain ⟨c, hc, hk, hcs, hbs⟩ := h a ha
  obtain ⟨d, hd, hk', hcs', hbs'⟩ := k c hc
  exact ⟨d, hd, hk'.trans hk, hcs'.trans hcs, hbs'.trans hbs⟩

theorem stepKept.of_only (k : s.onlyChanges bs t) (n : Block.tracker ∉ bs) : s.stepKept t := fun a ha =>
  ⟨a, by rw [k.tracker n]; exact ha, rfl, rfl, rfl⟩

theorem stepKept.tellPaused (s : State) : s.stepKept s.tellPaused := fun a ha =>
  ⟨{ a with pausedSince := some s.now }, by unfold State.tellPaused modStep; rw [ha]; rfl, rfl, rfl, rfl⟩

/-! ### Acting while every loader waits -/

/-- What acting on a set that stays filled can change. -/
abbrev filledBlocks : List Block := [.pacing, .out, .tracker]

theorem openEpisode_filled (s : State) (l : Nat) : s.onlyChanges filledBlocks (s.openEpisode l) ∧ s.stepKept (s.openEpisode l) := by
  have h : s.onlyChanges [.pacing, .out]
      ((s.modPause l fun p => { p with state := .pauseSent (s.newEpisode l), timer := s.confirmDeadline }).sendPause l) :=
    (modPause_only s l _).andThen (sendPause_only _ l)
  unfold openEpisode
  dsimp only
  split
  · exact ⟨(h.andThen (modStep_only _ _)).mono (by decide), (stepKept.of_only h (by decide)).trans (.tellPaused _)⟩
  · exact ⟨h.mono (by decide), .of_only h (by decide)⟩

theorem actLoader_filled {l : Nat} (h : (s.pause l).reasons ≠ 0) (b : ReasonSet) (f : Bool) :
    s.onlyChanges filledBlocks (s.actLoader l b f) ∧ s.stepKept (s.actLoader l b f) := by
  have hrepeat : s.onlyChanges [.pacing, .out] (s.repeatPause l) := (modPause_only s l _).andThen (sendPause_only _ l)
  unfold actLoader
  dsimp only
  rw [if_neg h, if_neg h]
  split
  · exact openEpisode_filled s l
  · split
    · exact ⟨onlyChanges_refl _ s, .refl s⟩
    · exact ⟨hrepeat.mono (by decide), .of_only hrepeat (by decide)⟩

/-- While every loader waits no episode closes, so no record is made. -/
theorem awaits.actOn_filled (h : s.awaits) (b : Nat → ReasonSet) (f : Option Nat) :
    s.onlyChanges filledBlocks (s.actOn b f) ∧ s.stepKept (s.actOn b f) := by
  have key : ∀ (is : List Nat) (u : State), (∀ i ∈ is, i < 4) → u.awaits →
      u.onlyChanges filledBlocks (forEach is (fun l s => s.actLoader l (b l) (f == some l)) u)
        ∧ u.stepKept (forEach is (fun l s => s.actLoader l (b l) (f == some l)) u) := by
    intro is
    induction is with
    | nil => exact fun u _ _ => ⟨onlyChanges_refl _ u, .refl u⟩
    | cons i is ih =>
      intro u his hu
      obtain ⟨hi, his⟩ := List.forall_mem_cons.1 his
      have hone := actLoader_filled (hu.filled hi) (b i) (f == some i)
      have hnext : (u.actLoader i (b i) (f == some i)).awaits := fun m hm => by
        rw [reasons_actLoader hi]
        exact hu m hm
      have hrest := ih _ his hnext
      exact ⟨hone.1.trans hrest.1, hone.2.trans hrest.2⟩
  exact key loaders s (fun i => mem_loaders.1) h

/-! ### A plan that switches while every loader waits (R73) -/

theorem awaits.rebaseCursor (h : s.awaits) : s.rebaseCursor.awaits := by
  have htrack (x : Tracking) : (s.setTracking x).awaits := h.of_only (setTracking_only s x) (by decide)
  unfold State.rebaseCursor
  split
  · dsimp only
    split
    · exact (htrack _).removeReasonAll nofun
    · exact htrack _
  · split
    · exact h
    · exact (htrack _).addReasonAll _

/-- The records made so far are all there are after the switch, and the loaders wait on. -/
theorem awaits.switchPlan (h : s.awaits) :
    s.switchPlan.awaits ∧ s.switchPlan.reports.records = s.reports.records := by
  have hplan : s.onlyChanges [.plan] s.switchedPlan := switchedPlan_only s
  have hrelatch : s.switchedPlan.relatchReports.awaits :=
    (h.of_only hplan (by decide)).of_only (relatchReports_only _) (by decide)
  have hcursor := hrelatch.rebaseCursor
  have hacted := hcursor.actOn_filled s.switchedPlan.relatchReports.reasonSets none
  have hrecords : s.switchedPlan.relatchReports.reports.records = s.reports.records := rfl
  unfold State.switchPlan
  split
  · unfold rebase pacingEvent
    dsimp only
    refine ⟨((awaits_actOn _ _).2 hcursor).of_only (modStep_only _ _) (by decide), ?_⟩
    rw [(modStep_only _ _).reports (by decide), hacted.1.reports (by decide),
      (rebaseCursor_only _).reports (by decide), hrecords]
  · exact ⟨h.of_only hplan (by decide), rfl⟩

theorem awaits.requestEvaluation (h : s.awaits) (hship : s.mgmt.ship.isSealed = false) :
    s.requestEvaluation.awaits ∧ s.requestEvaluation.reports.records = s.reports.records := by
  have hengine (x : State) (hx : s.onlyChanges [.engine] x) : x.awaits ∧ x.reports.records = s.reports.records :=
    ⟨h.of_only hx (by decide), by rw [hx.reports (by decide)]⟩
  unfold State.requestEvaluation
  split
  · exact ⟨h, rfl⟩
  · split
    · exact hengine _ (only_engine s _)
    · have hstart := hengine s.engineStarts (only_engine s _)
      have hswitch : s.engineStarts.switchSealed.awaits
          ∧ s.engineStarts.switchSealed.reports.records = s.reports.records := by
        rw [switchSealed_unsealed (s := s.engineStarts) hship]
        split
        · exact ⟨hstart.1.switchPlan.1, hstart.1.switchPlan.2.trans hstart.2⟩
        · exact hstart
      have hrest := beginEvaluation_switched s
      exact ⟨hswitch.1.of_only hrest (by decide), by rw [hrest.reports (by decide)]; exact hswitch.2⟩

/-! ### The pacing of a new session (R93) -/

/-- The reasons a session opens with. -/
def openReasons (s : State) : State :=
  let a := s.addReasonAll .awaitingCondition
  let b := if a.faults.active .shoreSilent (portCode .shore) then a.addReasonAll .shoreSilent else a
  if b.faults.active .draftLimit subjectNone then b.addReasonAll .draft else b

/-- The session's counters at zero. -/
def freshPacing (s : State) : State := { s with pacing := { s.pacing with episodesClosed := 0, overpourEpisodes := 0 } }

theorem openPacing_eq (s : State) : s.openPacing = s.freshPacing.pacingEvent openReasons := rfl

theorem openReasons_awaits (h : s.sys.sessionOpen = true) : s.openReasons.awaits ∧ s.onlyChanges [.pacing] s.openReasons := by
  unfold openReasons
  extract_lets a b
  have ha : a.awaits ∧ s.onlyChanges [.pacing] a := ⟨awaits_added h, addReasonAll_only s _⟩
  have hb : b.awaits ∧ s.onlyChanges [.pacing] b := by
    dsimp only [b]
    split
    · exact ⟨ha.1.addReasonAll _, ha.2.trans (addReasonAll_only a _)⟩
    · exact ha
  split
  · exact ⟨hb.1.addReasonAll _, hb.2.trans (addReasonAll_only b _)⟩
  · exact hb

theorem openPacing_awaits (h : s.sys.sessionOpen = true) :
    s.openPacing.awaits ∧ s.onlyChanges filledBlocks s.openPacing ∧ s.stepKept s.openPacing := by
  have hfresh : s.onlyChanges [.pacing] s.freshPacing := only_pacing s _
  obtain ⟨hawaits, honly⟩ := openReasons_awaits (s := s.freshPacing) h
  obtain ⟨hacted, hkept⟩ := hawaits.actOn_filled s.freshPacing.reasonSets none
  have hbefore := hfresh.trans honly
  rw [openPacing_eq]
  unfold pacingEvent
  exact ⟨(awaits_actOn _ _).2 hawaits, (hbefore.andThen hacted).mono (by decide),
    (stepKept.of_only hbefore (by decide)).trans hkept⟩

/-! ### The plan tracking of a new session (R65) -/

/-- The tracker on step 1 from the totals. -/
def trackedFromTotals (s : State) : State :=
  { s with tracker :=
    { tracking := .tracking (ActiveStep.fresh 1 s.totalCargo s.totalBallast s.now (if s.notFree = 0 then none else some s.now))
      openTotals := some (s.totalCargo, s.totalBallast), stepsDone := 0, offPlan := Vector.replicate 4 false } }

theorem openTracking_eq (s : State) : s.openTracking = forEach loaders (fun l s => s.clearFault .offPlan l)
    ((s.trackedFromTotals.clearFault .ballastLag subjectNone).clearFault .deballastAhead subjectNone) := rfl

theorem openTracking_step (s : State) : ∃ a, s.openTracking.tracker.tracking = .tracking a ∧ a.k = 1
    ∧ a.cStart = s.totalCargo ∧ a.bStart = s.totalBallast := by
  have hclear : s.trackedFromTotals.onlyChanges [.faults, .out] s.openTracking := by
    rw [openTracking_eq]
    exact ((clearFault_only _ _ _).trans (clearFault_only _ _ _)).trans
      (onlyChanges_forEach _ _ (fun l s => clearFault_only s _ l) _)
  rw [hclear.tracker (by decide)]
  exact ⟨_, rfl, rfl, rfl, rfl⟩

/-! ### The account of a new session (R29, R32) -/

theorem armSilence_watches (s : State) : s.armSilence.shore.silence ≠ .disarmed := by
  unfold armSilence
  split
  · exact nofun
  next h => rw [h]; nofun
  next h => rw [h]; nofun

/-- What stands in the account once it is opened. -/
structure accountOpened (s u : State) : Prop where
  loaders : ∀ l < 4, u.loader l = LoaderRec.reset
  unattributed : u.shore.unattributed = 0
  holds : ∀ h < 10, u.hold h = if s.bank.holdFitted h then
    { opening := s.plan.initialCargo h, attributed := 0, mass := s.plan.initialCargo h } else HoldRec.reset
  silence : u.shore.silence ≠ .disarmed

theorem accountOpened_openAccount (s : State) : s.accountOpened s.openAccount where
  loaders l hl := by
    unfold loader
    rw [openAccount_eq, (armSilence_account _).1, shore_openedAccount]
    simp [nth, freshAccount]
  unattributed := by rw [openAccount_eq, (armSilence_account _).2.2, shore_openedAccount]; rfl
  holds k hk := by
    unfold hold
    rw [openAccount_eq, (armSilence_account _).2.1]
    refine (hold_openedAccount s hk).trans ?_
    unfold openedHold
    split <;> rfl
  silence := armSilence_watches _

/-- The shore unit but for its beacon timer carries the account on. -/
theorem accountOpened.kept (h : s.accountOpened u) (hs : t.shore = { u.shore with beaconAt := t.shore.beaconAt }) :
    s.accountOpened t where
  loaders l hl := by
    have hl' := h.loaders l hl
    unfold loader at hl' ⊢
    rw [hs]
    exact hl'
  unattributed := by rw [hs]; exact h.unattributed
  holds k hk := by
    have hk' := h.holds k hk
    unfold hold at hk' ⊢
    rw [hs]
    exact hk'
  silence := by rw [hs]; exact h.silence

theorem totalCargo_of_holds (h : ∀ k, t.hold k = s.hold k) : t.totalCargo = s.totalCargo := by
  simp only [totalCargo, h]

theorem shore_tellMode (s : State) : s.tellMode.shore = { s.shore with beaconAt := s.tellMode.shore.beaconAt } := by
  have h : s.tellMode.shore = s.sendBeacon.shore := (reexamine_only _).shore (by decide)
  rw [h, shore_sendBeacon]

/-! ### The opening (R171) -/

/-- The session once its account, its tracking and its report selection are set. -/
def sessionSet (s : State) (n : Nat) : State := (s.markOpen n).openAccount.openTracking.latchReports

/-- The session once its record is made. -/
def sessionRecorded (s : State) (n : Nat) : State :=
  ((s.sessionSet n).makeSessionOpen n (s.sessionSet n).totalCargo (s.sessionSet n).totalBallast).startConditionTimer

theorem openSession_eq (s : State) (n : Nat) :
    s.openSession n = (s.sessionRecorded n).openPacing.requestEvaluation.tellMode := rfl

theorem sessionSet_only (s : State) (n : Nat) :
    (s.markOpen n).onlyChanges [.shore, .tracker, .faults, .out, .reports] (s.sessionSet n) :=
  (((openAccount_only _).andThen (openTracking_only _)).andThen (latchReports_only _)).mono (by decide)

theorem sessionRecorded_only (s : State) (n : Nat) : (s.sessionSet n).onlyChanges [.out, .reports] (s.sessionRecorded n) :=
  ((makeSessionOpen_only _ _ _ _).andThen (startConditionTimer_only _)).mono (by decide)

theorem sessionRecorded_record (s : State) (n : Nat) : ∃ r, (s.sessionRecorded n).reports.records.getLast? = some r
    ∧ r.kind = .sessionOpen ∧ r.number = s.reports.next := by
  have hnext : (s.sessionSet n).reports.next = s.reports.next := by
    have h : s.onlyChanges ([.mode, .session] ++ [.shore] ++ [.tracker, .faults, .out]) (s.markOpen n).openAccount.openTracking :=
      ((markOpen_only s n).andThen (openAccount_only _)).andThen (openTracking_only _)
    have hsame := congrArg Reports.next (h.reports (by decide))
    unfold sessionSet
    generalize (s.markOpen n).openAccount.openTracking = x at hsame ⊢
    exact hsame
  have hmade (x : State) (b : List Int) : ∃ r, (x.makeRecord .sessionOpen false false b).reports.records.getLast? = some r
      ∧ r.kind = .sessionOpen ∧ r.number = x.reports.next := by
    rw [reports_makeRecord]
    exact ⟨_, getLast?_add _ _, rfl, rfl⟩
  rw [← hnext]
  unfold sessionRecorded
  generalize s.sessionSet n = x
  exact hmade x _

theorem sessionRecorded_mask (s : State) (n : Nat) : (s.sessionRecorded n).reports.mask = s.plan.reportMask := by
  have hset : (s.sessionSet n).reports.mask = s.plan.reportMask := by
    have h : s.onlyChanges ([.mode, .session] ++ [.shore] ++ [.tracker, .faults, .out]) (s.markOpen n).openAccount.openTracking :=
      ((markOpen_only s n).andThen (openAccount_only _)).andThen (openTracking_only _)
    have hsame : (s.markOpen n).openAccount.openTracking.plan = s.plan := congrArg Group.active (h.planGroup (by decide))
    unfold sessionSet
    generalize (s.markOpen n).openAccount.openTracking = x at hsame ⊢
    exact congrArg PlanBank.reportMask hsame
  have hmade (x : State) (b : List Int) : (x.makeRecord .sessionOpen false false b).reports.mask = x.reports.mask := by
    rw [reports_makeRecord]
    rfl
  unfold sessionRecorded
  generalize s.sessionSet n = x at hset ⊢
  exact (hmade x _).trans hset

theorem doOpenSession_opens {hi lo : Byte} (hm : s.sys.mode = .standby) (hn : hi.toNat * 256 + lo.toNat ≠ 0)
    (hc : s.criticalActive = false) (hp : s.plan.stepCount ≠ 0) (hs : s.mgmt.ship.isSealed = false) :
    s.doOpenSession [hi, lo]
      = (s.openSession (hi.toNat * 256 + lo.toNat), .accepted (enc2 (hi.toNat * 256 + lo.toNat))) := by
  have hbe : beNat [hi, lo] = hi.toNat * 256 + lo.toNat := by simp [beNat]
  have hc' : ¬s.criticalActive = true := by rw [hc]; nofun
  have hs' : ¬s.mgmt.ship.isSealed = true := by rw [hs]; nofun
  unfold doOpenSession
  dsimp only
  rw [hbe, if_neg (show ¬[hi, lo].length ≠ 2 from not_not_intro rfl), if_neg (not_not_intro hm), if_neg hn, if_neg hc', if_neg hp, if_neg hs']

/-! ### The rest of the opening's event -/

theorem sessionRecorded_open (s : State) (n : Nat) : (s.sessionRecorded n).sys.sessionOpen = true ∧
    (s.sessionRecorded n).sys.sessionNumber = some n ∧ (s.sessionRecorded n).sys.mode = .loading := by
  have h := (sessionSet_only s n).andThen (sessionRecorded_only s n)
  exact ⟨h.sessionOpen (by decide), h.sessionNumber (by decide), h.mode (by decide)⟩

theorem sessionRecorded_unsealed (h : s.mgmt.ship.isSealed = false) (n : Nat) :
    (s.sessionRecorded n).openPacing.mgmt.ship.isSealed = false := by
  have hframe := ((sessionSet_only s n).andThen (sessionRecorded_only s n)).andThen
    (openPacing_awaits (sessionRecorded_open s n).1).2.1
  rw [hframe.shipGroup (by decide)]
  exact h

/-- What the event changes after the record of the opening. -/
abbrev afterOpening : List Block := filledBlocks ++ planStart ++ [.shore, .screen, .stations, .out, .faults]

theorem openSession_only (h : s.mgmt.ship.isSealed = false) (n : Nat) :
    (s.sessionRecorded n).onlyChanges afterOpening (s.openSession n) := by
  rw [openSession_eq]
  exact ((openPacing_awaits (sessionRecorded_open s n).1).2.1.andThen
    (requestEvaluation_unsealed (sessionRecorded_unsealed h n))).andThen (tellMode_only _)

/-- The loaders wait, and the record of the opening is the newest. -/
theorem openSession_awaits (h : s.mgmt.ship.isSealed = false) (n : Nat) :
    (s.openSession n).awaits ∧ (s.openSession n).reports.records = (s.sessionRecorded n).reports.records := by
  obtain ⟨hawaits, hpaced, -⟩ := openPacing_awaits (sessionRecorded_open s n).1
  have hrequest := hawaits.requestEvaluation (sessionRecorded_unsealed h n)
  have htell := tellMode_only (s.sessionRecorded n).openPacing.requestEvaluation
  rw [openSession_eq]
  exact ⟨hrequest.1.of_only htell (by decide), by
    rw [htell.reports (by decide), hrequest.2, hpaced.reports (by decide)]⟩

theorem openSession_inFlight (s : State) (n : Nat) : (s.openSession n).engine.inFlight = true := by
  obtain ⟨hopen, -, hmode⟩ := sessionRecorded_open s n
  have hworking : (s.sessionRecorded n).openPacing.working = true := by
    unfold working
    rw [(openPacing_awaits hopen).2.1.mode (by decide), hmode]
    rfl
  rw [openSession_eq, (tellMode_only _).engine (by decide)]
  exact inFlight_requestEvaluation hworking

theorem openSession_account (h : s.mgmt.ship.isSealed = false) (n : Nat) :
    s.accountOpened (s.openSession n) ∧ ∀ k, (s.openSession n).hold k = (s.markOpen n).openAccount.hold k := by
  have hset : (s.markOpen n).openAccount.onlyChanges [.tracker, .faults, .out, .reports] (s.sessionSet n) :=
    ((openTracking_only _).andThen (latchReports_only _)).mono (by decide)
  have hbefore := ((hset.andThen (sessionRecorded_only s n)).andThen (openPacing_awaits (sessionRecorded_open s n).1).2.1).andThen
    (requestEvaluation_unsealed (sessionRecorded_unsealed h n))
  have hshore := shore_tellMode (s.sessionRecorded n).openPacing.requestEvaluation
  rw [hbefore.shore (by decide), ← openSession_eq] at hshore
  have hopened := accountOpened_openAccount (s.markOpen n)
  have hopened' : s.accountOpened (s.markOpen n).openAccount :=
    ⟨hopened.loaders, hopened.unattributed, hopened.holds, hopened.silence⟩
  refine ⟨hopened'.kept hshore, fun k => ?_⟩
  unfold hold
  rw [hshore]

/-- With no plan sealed the request that ends the opening touches neither tracker nor reports. -/
theorem requestEvaluation_calm (h : s.mgmt.ship.isSealed = false) (hp : s.mgmt.plan.isSealed = false) :
    s.onlyChanges [.engine, .tanks] s.requestEvaluation :=
  onlyChanges_ite (onlyChanges_refl _ s) (onlyChanges_ite ((only_engine s _).mono (by decide)) (beginEvaluation_calm h hp))

theorem openSession_tracks (h : s.mgmt.ship.isSealed = false) (hp : s.mgmt.plan.isSealed = false) (n : Nat) :
    (s.openSession n).reports.mask = s.plan.reportMask ∧ ∃ a, (s.openSession n).tracker.tracking = .tracking a ∧ a.k = 1
      ∧ a.cStart = (s.openSession n).totalCargo ∧ a.bStart = s.totalBallast := by
  obtain ⟨-, hpaced, hkept⟩ := openPacing_awaits (sessionRecorded_open s n).1
  have hbefore := ((sessionSet_only s n).andThen (sessionRecorded_only s n)).andThen hpaced
  have hplan : (s.sessionRecorded n).openPacing.mgmt.plan.isSealed = false := by
    rw [hbefore.planGroup (by decide)]
    exact hp
  have hrest := (requestEvaluation_calm (sessionRecorded_unsealed h n) hplan).andThen (tellMode_only _)
  rw [← openSession_eq] at hrest
  constructor
  · rw [hrest.reports (by decide), hpaced.reports (by decide), sessionRecorded_mask]
  · obtain ⟨a, ha, hk, hc, hb⟩ := openTracking_step (s.markOpen n).openAccount
    have hset : (s.markOpen n).openAccount.openTracking.onlyChanges [.reports, .out] (s.sessionRecorded n) :=
      ((latchReports_only _).andThen (sessionRecorded_only s n)).mono (by decide)
    rw [← hset.tracker (by decide)] at ha
    obtain ⟨c, hcur, hk', hc', hb'⟩ := hkept a ha
    have hopened := (markOpen_only s n).andThen (openAccount_only _)
    refine ⟨c, by rw [hrest.tracker (by decide)]; exact hcur, hk'.trans hk, ?_, ?_⟩
    · rw [hc', hc, totalCargo_of_holds (openSession_account h n).2]
    · rw [hb', hb, hopened.totalBallast (by decide) (by decide)]

end State

open State in
/-- Settles O49: the waiting loaders let no episode close, so the record of the opening stays the newest. -/
theorem openSessionStartsTheAccount : Obligations.OpenSessionStartsTheAccount := by
  intro s src seq hi lo h hm hmode hn hc hp hs
  have hcount := countAccepted_only s .console
  have hd := doOpenSession_opens (s := s.countAccepted .console) hmode hn hc hp hs
  have hexec := exec_accepted (c := .openSession src seq [hi, lo]) (args := [hi, lo]) h hm (show 2 ≤ 55 by decide)
    (serve_openSession.trans hd) rfl
  have hunsealed : (s.countAccepted .console).mgmt.ship.isSealed = false := hs
  have hplanGroup : (s.countAccepted .console).mgmt.plan = s.mgmt.plan := rfl
  have hnext : (s.countAccepted .console).reports.next = s.reports.next := rfl
  generalize hi.toNat * 256 + lo.toNat = n at *
  generalize s.countAccepted .console = a at *
  have hreply := sendReply_only (a.openSession n) src seq 23 0 0 (enc2 n)
  have hafter := openSession_only hunsealed n
  have hrest := hafter.andThen hreply
  have hall := (((markOpen_only a n).andThen (sessionSet_only a n)).andThen (sessionRecorded_only a n)).andThen hrest
  obtain ⟨hopen, hnumber, hloading⟩ := sessionRecorded_open a n
  obtain ⟨hawaits, hrecords⟩ := openSession_awaits hunsealed n
  obtain ⟨haccount, -⟩ := openSession_account hunsealed n
  have hflight := openSession_inFlight a n
  have hrecord := sessionRecorded_record a n
  have htracks := openSession_tracks (n := n) hunsealed
  generalize (a.openSession n).sendReply src seq 23 0 0 (enc2 n) = t at *
  generalize a.openSession n = u at *
  have hshore := hreply.shore (by decide)
  refine ⟨t, hexec, (hrest.mode (by decide)).trans hloading, (hrest.sessionOpen (by decide)).trans hopen,
    (hrest.sessionNumber (by decide)).trans hnumber, fun l hl => ?_, ?_, fun k hk => ?_, ?_, ?_, ?_, ?_, fun hps => ?_, ?_⟩
  · exact (hreply.loader (by decide) l).trans (haccount.loaders l hl)
  · rw [hshore]
    exact haccount.unattributed
  · have hplan : a.plan = s.plan := congrArg Group.active hplanGroup
    rw [hreply.hold (by decide), haccount.holds k hk, hcount.bank (by decide), hplan]
  · exact hawaits.of_only hreply (by decide)
  · rw [hshore]
    exact haccount.silence
  · rw [hreply.engine (by decide)]
    exact hflight
  · rw [hreply.reports (by decide), hrecords, ← hnext]
    exact hrecord
  · have hplan : a.plan = s.plan := congrArg Group.active hplanGroup
    obtain ⟨hmask, b, hb, hk, hc, hballast⟩ := htracks (by rw [hplanGroup]; exact hps)
    rw [hreply.reports (by decide), hreply.tracker (by decide)]
    refine ⟨by rw [hmask, hplan], b, hb, hk, ?_, ?_⟩
    · rw [hc, totalCargo_of_holds fun k => hreply.hold (by decide) k]
    · rw [hballast, hcount.totalBallast (by decide) (by decide)]
  · exact (hcount.andThen hall).mono (by decide)

end Sys2Proof.Machine
end
section
/-! PROOFS. CLOSE_SESSION (R172): the operations, the episodes, the account and the plan of a session that ends. -/

namespace Sys2Proof.Machine

namespace State
variable {s t u : State} {bs : List Block} {src seq : Byte} {k : Nat}

/-! ### Open operations (R18) -/

/-- A tank record after the close of its open operation. -/
def closedTank (now : Nat) (r : TankRec) : TankRec :=
  match r.motion with
  | .still _ => r
  | _ => { r with motion := .still (some { mass := r.mass, time := now }) }

theorem closedTank_still (now : Nat) (r : TankRec) : ∃ a, (closedTank now r).motion = .still a := by
  unfold closedTank
  split
  next a h => exact ⟨a, h⟩
  next => exact ⟨_, rfl⟩

theorem closedTank_mass (now : Nat) (r : TankRec) : (closedTank now r).mass = r.mass := by
  unfold closedTank
  split <;> rfl

theorem tank_closeTank (s : State) (hk : k < 32) : (s.closeTank k).tank k = closedTank s.now (s.tank k) := by
  have hclosed := closeOperation_only s k true
  have hmoving : ((s.closeOperation k true).anchorNow k).tank k
      = { s.tank k with motion := .still (some { mass := (s.tank k).mass, time := s.now }) } := by
    rw [anchorNow, tank_modTank _ _ _ hk, hclosed.tank (by decide), hclosed.now (by decide)]
  unfold closeTank closedTank
  cases (s.tank k).motion with
  | still a => rfl
  | emptying e o => exact hmoving
  | filling e o => exact hmoving

theorem tank_closeTank_other (s : State) {j : Nat} (h : j ≠ k) : (s.closeTank k).tank j = s.tank j := by
  unfold closeTank
  split
  · rfl
  · rw [anchorNow, tank_modTank_other _ _ _ _ h, (closeOperation_only s k true).tank (by decide)]

theorem tank_closeTanks (s : State) (hk : k < 32) : s.closeTanks.tank k = closedTank s.now (s.tank k) :=
  record_forEach tank (f := fun i s => s.closeTank i) (g := fun _ => closedTank s.now) (I := fun u => u.now = s.now)
    (fun i u _ hu => ((closeTank_only u i).now (by decide)).trans hu)
    (fun i u hi hu => by rw [tank_closeTank u hi, hu]) (fun _ u _ _ hj => tank_closeTank_other u hj) rfl hk

theorem mass_closeTanks (s : State) (k : Nat) : (s.closeTanks.tank k).mass = (s.tank k).mass := by
  by_cases hk : k < 32
  · rw [tank_closeTanks s hk, closedTank_mass]
  · rw [tank_out_of_range _ (not_lt.1 hk), tank_out_of_range _ (not_lt.1 hk)]

/-! ### An event that moves no reason (R78) -/

theorem actOn_unmoved {b : Nat → ReasonSet} (h : ∀ l < 4, (s.pause l).reasons = b l) : s.actOn b none = s := by
  have hone : ∀ l < 4, s.actLoader l (b l) (none == some l) = s := fun l hl => by
    unfold actLoader
    dsimp only
    rw [h l hl]
    split
    · rfl
    · exact if_pos ⟨rfl, rfl⟩
  have key : ∀ is : List Nat, (∀ i ∈ is, i < 4) → forEach is (fun l s => s.actLoader l (b l) (none == some l)) s = s := by
    intro is
    induction is with
    | nil => exact fun _ => rfl
    | cons i is ih =>
      intro his
      obtain ⟨hi, his⟩ := List.forall_mem_cons.1 his
      have hrest := ih his
      unfold forEach at hrest ⊢
      rw [List.foldl_cons]
      dsimp only at hrest ⊢
      rw [hone i hi, hrest]
  exact key loaders fun i => mem_loaders.1

theorem onlySafe.removed (h : s.onlySafe) {r : Reason} (hr : r ≠ .safe) {l : Nat} (hl : l < 4) :
    (s.pause l).reasons.remove r = (s.pause l).reasons := by
  have hall := ReasonSet.remove_eq_zero_iff.1 (h l hl)
  refine ReasonSet.ext_has fun q => ?_
  rw [ReasonSet.has_remove]
  cases hq : (s.pause l).reasons.has q with
  | false => rfl
  | true => rw [hall q hq]; simp [hr.symm]

theorem pause_removeReasonAll_onlySafe (h : s.onlySafe) {r : Reason} (hr : r ≠ .safe) {l : Nat} (hl : l < 4) :
    (s.removeReasonAll r).pause l = s.pause l := by
  rw [pause_removeReasonAll s r hl, h.removed hr hl]

/-- Where no loader holds a reason but SAFE the end of a silence releases none. -/
theorem clearSilent_onlySafe (h : s.onlySafe) :
    s.clearSilent.reports = s.reports ∧ ∀ l < 4, s.clearSilent.pause l = s.pause l := by
  have hclear := clearFault_only s .shoreSilent (portCode .shore)
  have hsafe : (s.clearFault .shoreSilent (portCode .shore)).onlySafe := h.of_only hclear (by decide)
  have hpause (l : Nat) (hl : l < 4) := pause_removeReasonAll_onlySafe hsafe (r := .shoreSilent) nofun hl
  have hacted : s.clearSilent = (s.clearFault .shoreSilent (portCode .shore)).removeReasonAll .shoreSilent :=
    actOn_unmoved fun l hl => by rw [hpause l hl]; rfl
  rw [hacted]
  exact ⟨((removeReasonAll_only _ _).reports (by decide)).trans (hclear.reports (by decide)),
    fun l hl => (hpause l hl).trans (hclear.pause (by decide) l)⟩

theorem disarmSilence_onlySafe (h : s.onlySafe) :
    s.disarmSilence.reports = s.reports ∧ ∀ l < 4, s.disarmSilence.pause l = s.pause l := by
  have hd : (s.setSilence .disarmed).onlySafe := h.of_only (setSilence_only s _) (by decide)
  unfold disarmSilence
  split
  · exact clearSilent_onlySafe hd
  · exact ⟨rfl, fun _ _ => rfl⟩
  · exact ⟨rfl, fun _ _ => rfl⟩

/-- The episode that CLOSE_SESSION opens in SAFE has no grace mark (R93). -/
theorem grace_safeEpisode (p : PauseRec) (now : Nat) :
    PauseRec.grace { p with reasons := Reason.safe.single, state := p.state.mapEpisode fun _ => safeEpisode now, timer := none }
      = none := by
  unfold PauseRec.grace
  cases p.state <;> rfl

/-! ### The closing (R172) -/

/-- The session once its operations and episodes are closed and its record is made. -/
def closingRecorded (s : State) : State := s.closeTanks.closePacing.makeSessionClose

/-- The session once its account, its plan and its report selection are gone. -/
def sessionCleared (s : State) : State := s.closingRecorded.closeAccount.closeTracking.closeReports

theorem closeSession_eq (s : State) : s.closeSession = s.sessionCleared.markClosed.tellModeIf s.sys.mode := rfl

theorem closingRecorded_only (s : State) : s.onlyChanges [.tanks, .out, .reports, .pacing, .faults, .tracker] s.closingRecorded :=
  (((closeTanks_only s).andThen (closePacing_only _)).andThen (makeSessionClose_only _)).mono (by decide)

theorem sessionCleared_only (s : State) : s.closingRecorded.onlyChanges (silenceBlocks ++ [.plan]) s.sessionCleared :=
  (((closeAccount_only _).andThen (closeTracking_only _)).andThen (closeReports_only _)).mono (by decide)

/-- The event after the session is cleared. -/
theorem closeSession_rest (s : State) : s.sessionCleared.markClosed.onlyChanges [.shore, .screen, .stations, .out, .faults]
    s.closeSession := by
  rw [closeSession_eq]
  exact tellModeIf_only _ _

theorem closingRecorded_record (s : State) :
    ∃ r, s.closingRecorded.reports.records.getLast? = some r ∧ r.kind = .sessionClose := by
  have hmade (x : State) (b : List Int) : ∃ r, (x.makeRecord .sessionClose false false b).reports.records.getLast? = some r
      ∧ r.kind = .sessionClose := by
    rw [reports_makeRecord]
    exact ⟨_, getLast?_add _ _, rfl⟩
  exact hmade s.closeTanks.closePacing _

theorem closingRecorded_onlySafe (s : State) : s.closingRecorded.onlySafe :=
  (onlySafe_closePacing s.closeTanks).of_only (makeSessionClose_only _) (by decide)

/-- The loader records at their reset values, the hold records kept. -/
def accountReset (s : State) : State :=
  { s with shore := { s.shore with loaders := Vector.replicate 4 LoaderRec.reset, unattributed := 0 } }

theorem closeAccount_eq (s : State) : s.closeAccount = s.accountReset.disarmSilence := rfl

theorem closeAccount_shore (s : State) : s.closeAccount.shore = { s.shore with
    loaders := Vector.replicate 4 LoaderRec.reset, unattributed := 0, silence := .disarmed } :=
  disarmSilence_shore s.accountReset

theorem closeAccount_onlySafe (h : s.onlySafe) :
    s.closeAccount.reports = s.reports ∧ ∀ l < 4, s.closeAccount.pause l = s.pause l := by
  have honly : s.onlyChanges [.shore] s.accountReset := only_shore s _
  exact disarmSilence_onlySafe (s := s.accountReset) (h.of_only honly (by decide))

theorem sessionCleared_reports (s : State) : s.sessionCleared.reports
    = { s.closingRecorded.reports with mask := 0, interval := 0, conditionAt := none } := by
  have htracking := (closeTracking_only s.closingRecorded.closeAccount).reports (by decide)
  have hclosed (u : State) : u.closeReports.reports = { u.reports with mask := 0, interval := 0, conditionAt := none } := rfl
  unfold sessionCleared
  rw [hclosed, htracking, (closeAccount_onlySafe (closingRecorded_onlySafe s)).1]

theorem sessionCleared_pause (s : State) {l : Nat} (hl : l < 4) : s.sessionCleared.pause l = s.closeTanks.closePacing.pause l := by
  have hrest := (closeTracking_only s.closingRecorded.closeAccount).andThen (closeReports_only _)
  have hpause : s.sessionCleared.pause l = s.closingRecorded.closeAccount.pause l := hrest.pause (by decide) l
  rw [hpause, (closeAccount_onlySafe (closingRecorded_onlySafe s)).2 l hl]
  exact (makeSessionClose_only _).pause (by decide) l

theorem sessionCleared_shore (s : State) : s.sessionCleared.shore = { s.shore with
    loaders := Vector.replicate 4 LoaderRec.reset, unattributed := 0, silence := .disarmed } := by
  have hrest := (closeTracking_only s.closingRecorded.closeAccount).andThen (closeReports_only _)
  have hshore : s.sessionCleared.shore = s.closingRecorded.closeAccount.shore := hrest.shore (by decide)
  rw [hshore, closeAccount_shore, (closingRecorded_only s).shore (by decide)]

theorem sessionCleared_plan (s : State) : s.sessionCleared.tracker = Tracker.reset
    ∧ s.sessionCleared.mgmt.plan = { Group.resetPlan with gen := s.mgmt.plan.gen } := by
  have hbefore := (closingRecorded_only s).andThen (closeAccount_only _)
  have htracking (u : State) : u.closeTracking.closeReports.tracker = Tracker.reset
      ∧ u.closeTracking.closeReports.mgmt.plan = { Group.resetPlan with gen := u.mgmt.plan.gen } := ⟨rfl, rfl⟩
  obtain ⟨htracker, hplan⟩ := htracking s.closingRecorded.closeAccount
  rw [hbefore.planGroup (by decide)] at hplan
  exact ⟨htracker, hplan⟩

theorem sessionCleared_tank (s : State) (k : Nat) : s.sessionCleared.tank k = s.closeTanks.tank k :=
  (((closePacing_only _).andThen (makeSessionClose_only _)).andThen (sessionCleared_only s)).tank (by decide) k

/-- What is left of a loader in the mode the session ends in (R93). -/
theorem pause_closed (h : s.pausesSound) {l : Nat} (hl : l < 4) :
    (s.sys.mode = .loading → (s.sessionCleared.pause l).reasons = 0 ∧ (s.sessionCleared.pause l).state = .free)
      ∧ (s.sys.mode = .safe →
        (s.sessionCleared.pause l).reasons = Reason.safe.single ∧ (s.sessionCleared.pause l).grace = none) := by
  have hmode := (closeTanks_only s).mode (by decide)
  rw [sessionCleared_pause s hl]
  refine ⟨fun hm => ?_, fun hm => ?_⟩
  · have hzero : (s.closeTanks.closePacing.pause l).reasons = 0 := reasons_closePacing (by rw [hmode, hm]; nofun) hl
    have hsound : s.closeTanks.closePacing.pausesSound := (h.calm (closeTanks_only s) rfl).closePacing
    exact ⟨hzero, (hsound l hl).1.2 hzero⟩
  · rw [pause_closePacing_safe (by rw [hmode, hm]) hl]
    exact ⟨rfl, grace_safeEpisode _ _⟩

theorem doCloseSession_closes (h : s.sessionMode = true) : s.doCloseSession [] = (s.closeSession, .accepted []) := by
  unfold doCloseSession
  rw [if_neg (not_not_intro rfl), if_pos h]

theorem closeSession_mode (h : s.sessionMode = true) :
    s.closeSession.sys.mode = if s.sys.mode = .loading then .standby else .safe := by
  have hbefore := (closingRecorded_only s).andThen (sessionCleared_only s)
  have hmark (u : State) : u.markClosed.sys.mode = if u.sys.mode = .loading then .standby else u.sys.mode := rfl
  rw [(closeSession_rest s).mode (by decide), hmark, hbefore.mode (by decide)]
  split
  · rfl
  next hm =>
    have hsafe : s.sys.mode = .loading ∨ s.sys.mode = .safe ∧ s.sys.sessionOpen = true := by simpa [sessionMode] using h
    exact (hsafe.resolve_left hm).1

end State

open State in
/-- Settles O50: with no reason but SAFE left the end of the silence moves no loader, so the record of the closing stays the newest. -/
theorem closeSessionEndsTheAccount : Obligations.CloseSessionEndsTheAccount := by
  intro s src seq h hm hsm hopen
  have hcount := countAccepted_only s .console
  have hexec := exec_accepted (c := .closeSession src seq []) (args := []) h hm (Nat.zero_le _)
    (serve_closeSession.trans (doCloseSession_closes (s := s.countAccepted .console) hsm)) rfl
  have hsession : (s.countAccepted .console).sessionMode = true := hsm
  have hsys : (s.countAccepted .console).sys = s.sys := rfl
  have hplanGroup : (s.countAccepted .console).mgmt.plan = s.mgmt.plan := rfl
  generalize s.countAccepted .console = a at *
  have hreply := sendReply_only a.closeSession src seq 24 0 0 []
  have hmode := closeSession_mode hsession
  have hend := (closeSession_rest a).andThen hreply
  have hmark := (markClosed_only a.sessionCleared).andThen hend
  have hbefore := (closingRecorded_only a).andThen (sessionCleared_only a)
  have hshore := shore_tellModeIf a.sessionCleared.markClosed a.sys.mode
  rw [(markClosed_only _).shore (by decide), sessionCleared_shore, ← closeSession_eq, ← hreply.shore (by decide),
    hcount.shore (by decide)] at hshore
  have hclosed : a.sessionCleared.markClosed.sys.sessionOpen = false := rfl
  have hnumber : a.sessionCleared.markClosed.sys.sessionNumber = a.sessionCleared.sys.sessionNumber := rfl
  obtain ⟨htracker, hplan⟩ := sessionCleared_plan a
  obtain ⟨rec, hlast, hkind⟩ := closingRecorded_record a
  have hreports := (hmark.reports (by decide)).trans (sessionCleared_reports a)
  have htank (k : Nat) := (hmark.tank (by decide) k).trans (sessionCleared_tank a k)
  have hall := hbefore.andThen hmark
  generalize a.closeSession.sendReply src seq 24 0 0 [] = t at *
  refine ⟨t, hexec, (hend.sessionOpen (by decide)).trans hclosed, ?_, ?_, fun i hi => ?_, fun i => ?_, fun l hl => ?_,
    fun k => ?_, ?_, ?_, (hmark.tracker (by decide)).trans htracker, ?_, ⟨rec, ?_, hkind⟩, ?_, ?_, fun hs l hl => ?_, ?_⟩
  · rw [hend.sessionNumber (by decide), hnumber, hbefore.sessionNumber (by decide), hsys]
  · rw [hreply.mode (by decide), hmode, hsys]
  · rw [htank, tank_closeTanks a hi]
    exact closedTank_still _ _
  · rw [htank, mass_closeTanks, hcount.tank (by decide)]
  · unfold loader
    rw [hshore]
    simp [nth]
  · unfold hold
    rw [hshore]
  · rw [hshore]
  · rw [hshore]
  · rw [hmark.planGroup (by decide), hplan, hplanGroup]
  · rw [hreports]
    exact hlast
  · rw [hreports]
  · rw [hreports]
  · have hpauses := pause_closed (hs.calm hcount rfl) hl
    rw [hsys] at hpauses
    rw [hmark.pause (by decide)]
    exact hpauses
  · exact (hcount.andThen hall).mono (by decide)

end Sys2Proof.Machine
end
section
/-! PROOFS. The faults a VALID publication judges (R51 to R54, R71, R81), each in its place of the event. -/

namespace Sys2Proof.Machine

/-! ### Judgements by two marks -/

section
variable {f g f' g' : Faults} {k : FaultKind} {x : Nat} {p q p' q' : Prop}

theorem Faults.judgedTo.congr (h : f.judgedTo g k x p q) (hp : p' ↔ p) (hq : q' ↔ q) : f.judgedTo g k x p' q' :=
  ⟨fun hr => h.1 (hp.1 hr), fun hr hc => h.2.1 (fun hn => hr (hp.2 hn)) (hq.1 hc),
    fun hr hc => h.2.2 (fun hn => hr (hp.2 hn)) fun hn => hc (hq.2 hn)⟩

theorem Faults.judgedTo.around (h : f.judgedTo g k x p q) (hf : f.active k x = f'.active k x)
    (hg : g'.active k x = g.active k x) : f'.judgedTo g' k x p q :=
  ⟨fun hr => hg.trans (h.1 hr), fun hr hc => hg.trans (h.2.1 hr hc), fun hr hc => (hg.trans (h.2.2 hr hc)).trans hf⟩

/-- A fault that nothing judges stays as it was. -/
theorem Faults.judgedTo_kept (h : g.active k x = f.active k x) (hp : ¬p) (hq : ¬q) : f.judgedTo g k x p q :=
  ⟨fun hr => absurd hr hp, fun _ hc => absurd hc hq, fun _ _ => h⟩

end

namespace State
variable {s t u : State} {n : Snapshot} {f : Figures} {k : FaultKind}

theorem judgedTo_judgeFault (hs : s.faults.sound) (hk : k.ackCleared = false) (x : Nat) (up down : Bool) :
    s.faults.judgedTo (s.judgeFault k x up down).faults k x (up = true) (down = true) := by
  unfold judgeFault
  cases up with
  | true => exact ⟨fun _ => active_raiseFault hs hk x, fun h => absurd rfl h, fun h => absurd rfl h⟩
  | false =>
    cases down with
    | true => exact ⟨nofun, fun _ _ => active_clearFault hs k x, fun _ h => absurd rfl h⟩
    | false => exact Faults.judgedTo_kept rfl nofun nofun

/-! ### The order of the judgements (R50 to R54, R71) -/

/-- HYDRO_OUT_OF_TABLE judged. -/
def hydroJudged (s : State) (f : Figures) : State := s.judgeFault .hydroOutOfTable TableCode.hydro.code f.hydro !f.hydro

/-- The draft window judged after it. -/
def windowJudged (s : State) (n : Snapshot) (f : Figures) : State := (s.hydroJudged f).judgeWindow n f

/-- DRAFT_DISAGREE judged after those. -/
def disagreeJudged (s : State) (n : Snapshot) (f : Figures) : State := (s.windowJudged n f).judgeDisagree n f

/-- STRESS_LIMIT judged after those. -/
def stressJudged (s : State) (n : Snapshot) (f : Figures) : State := (s.disagreeJudged n f).judgeStressLimit n f

/-- CONDITION_INVALID cleared after those. -/
def invalidCleared (s : State) (n : Snapshot) (f : Figures) : State :=
  (s.stressJudged n f).clearFault .conditionInvalid subjectNone

theorem judgeValid_lag {x : Int} (h : f.lag = some x) : s.judgeValid n f = (s.invalidCleared n f).judgeLag x := by
  unfold judgeValid
  rw [h]
  rfl

theorem judgeValid_noLag (h : f.lag = none) : s.judgeValid n f = s.invalidCleared n f := by
  unfold judgeValid
  rw [h]
  rfl

theorem hydroJudged_marks (s : State) (f : Figures) : s.marksOnly [.hydroOutOfTable] (s.hydroJudged f) :=
  judgeFault_marks s _ _ _ _

theorem window_marks (s : State) (n : Snapshot) (f : Figures) : s.marksOnly [.draftLimit, .airDraft] (s.judgeWindow n f) :=
  marksOnly_ite ((judgeFault_marks s _ _ _ _).andThen (judgeFault_marks _ _ _ _ _))
    ((clearFault_marks s _ _).andThen (clearFault_marks _ _ _))

theorem windowJudged_marks (s : State) (n : Snapshot) (f : Figures) :
    s.marksOnly [.hydroOutOfTable, .draftLimit, .airDraft] (s.windowJudged n f) :=
  (hydroJudged_marks s f).andThen (window_marks _ n f)

theorem disagreeJudged_marks (s : State) (n : Snapshot) (f : Figures) :
    (s.windowJudged n f).marksOnly [.draftDisagree] (s.disagreeJudged n f) :=
  marksOnly_ite (judgeFault_marks _ _ _ _ _) (marksOnly_refl _ _)

theorem stressJudged_marks (s : State) (n : Snapshot) (f : Figures) :
    (s.disagreeJudged n f).marksOnly [.stressLimit] (s.stressJudged n f) := judgeFault_marks _ _ _ _ _

theorem invalidCleared_marks (s : State) (n : Snapshot) (f : Figures) :
    (s.stressJudged n f).marksOnly [.conditionInvalid] (s.invalidCleared n f) := clearFault_marks _ _ _

theorem lagJudged_marks (s : State) (n : Snapshot) (f : Figures) :
    (s.invalidCleared n f).marksOnly [.ballastLag, .deballastAhead] (s.judgeValid n f) := by
  cases h : f.lag with
  | none => rw [judgeValid_noLag h]; exact marksOnly_refl _ _
  | some x => rw [judgeValid_lag h]; exact (judgeFault_marks _ _ _ _ _).andThen (judgeFault_marks _ _ _ _ _)

theorem afterStress_marks (s : State) (n : Snapshot) (f : Figures) :
    (s.stressJudged n f).marksOnly [.conditionInvalid, .ballastLag, .deballastAhead] (s.judgeValid n f) :=
  (invalidCleared_marks s n f).andThen (lagJudged_marks s n f)

theorem afterDisagree_marks (s : State) (n : Snapshot) (f : Figures) :
    (s.disagreeJudged n f).marksOnly [.stressLimit, .conditionInvalid, .ballastLag, .deballastAhead] (s.judgeValid n f) :=
  (stressJudged_marks s n f).andThen (afterStress_marks s n f)

theorem afterWindow_marks (s : State) (n : Snapshot) (f : Figures) : (s.windowJudged n f).marksOnly
    [.draftDisagree, .stressLimit, .conditionInvalid, .ballastLag, .deballastAhead] (s.judgeValid n f) :=
  (disagreeJudged_marks s n f).andThen (afterDisagree_marks s n f)

theorem beforeStress_marks (s : State) (n : Snapshot) (f : Figures) :
    s.marksOnly [.hydroOutOfTable, .draftLimit, .airDraft, .draftDisagree] (s.disagreeJudged n f) :=
  (windowJudged_marks s n f).andThen (disagreeJudged_marks s n f)

theorem beforeLag_marks (s : State) (n : Snapshot) (f : Figures) : s.marksOnly
    [.hydroOutOfTable, .draftLimit, .airDraft, .draftDisagree, .stressLimit, .conditionInvalid] (s.invalidCleared n f) :=
  ((beforeStress_marks s n f).andThen (stressJudged_marks s n f)).andThen (invalidCleared_marks s n f)

theorem invalidCleared_only (s : State) (n : Snapshot) (f : Figures) : s.onlyChanges judgeBlocks (s.invalidCleared n f) :=
  ((((judgeFault_only s _ _ _ _).trans (judgeWindow_only _ n f)).trans (judgeDisagree_only _ n f)).trans
    (judgeStressLimit_only _ n f)).trans ((clearFault_only _ _ _).mono (by decide))

theorem hydroJudged_sound (hs : s.faults.sound) (f : Figures) : (s.hydroJudged f).faults.sound :=
  (keeps.refl s).judgeFault.faults hs

theorem windowJudged_sound (hs : s.faults.sound) (n : Snapshot) (f : Figures) : (s.windowJudged n f).faults.sound :=
  (keeps.refl _).judgeWindow.faults (hydroJudged_sound hs f)

theorem disagreeJudged_sound (hs : s.faults.sound) (n : Snapshot) (f : Figures) : (s.disagreeJudged n f).faults.sound :=
  (keeps.refl _).judgeDisagree.faults (windowJudged_sound hs n f)

theorem stressJudged_sound (hs : s.faults.sound) (n : Snapshot) (f : Figures) : (s.stressJudged n f).faults.sound :=
  (keeps.refl _).judgeFault.faults (disagreeJudged_sound hs n f)

theorem invalidCleared_sound (hs : s.faults.sound) (n : Snapshot) (f : Figures) : (s.invalidCleared n f).faults.sound :=
  (keeps.refl _).clearFault.faults (stressJudged_sound hs n f)

/-! ### Each judgement -/

theorem judgeWindow_judged (hs : s.faults.sound) (hcur : sessionCurrent n = true) :
    s.faults.judgedTo (s.judgeWindow n f).faults .draftLimit subjectNone
      (n.marks.maxFwd - n.marks.margin < f.fwd ∨ n.marks.maxAft - n.marks.margin < f.aft)
      (f.fwd ≤ n.marks.maxFwd - n.marks.releaseMargin ∧ f.aft ≤ n.marks.maxAft - n.marks.releaseMargin)
    ∧ s.faults.judgedTo (s.judgeWindow n f).faults .airDraft subjectNone
      (f.fwd < n.marks.minFwd + n.marks.margin ∨ f.aft < n.marks.minAft + n.marks.margin)
      (n.marks.minFwd + n.marks.releaseMargin ≤ f.fwd ∧ n.marks.minAft + n.marks.releaseMargin ≤ f.aft) := by
  unfold judgeWindow
  dsimp only
  rw [if_pos hcur]
  generalize hup : (decide (n.marks.maxFwd - n.marks.margin < f.fwd) || decide (n.marks.maxAft - n.marks.margin < f.aft)) = up
  generalize hdown : (decide (f.fwd ≤ n.marks.maxFwd - n.marks.releaseMargin)
    && decide (f.aft ≤ n.marks.maxAft - n.marks.releaseMargin)) = down
  have hlimit := judgedTo_judgeFault (k := .draftLimit) hs rfl subjectNone up down
  have hsound : (s.judgeFault .draftLimit subjectNone up down).faults.sound := (keeps.refl s).judgeFault.faults hs
  constructor
  · refine (hlimit.around rfl (judgeFault_marks _ _ _ _ _ _ _ (by decide))).congr ?_ ?_
    · rw [← hup]; simp
    · rw [← hdown]; simp
  · refine ((judgedTo_judgeFault (k := .airDraft) hsound rfl subjectNone _ _).around
      (judgeFault_marks s .draftLimit _ _ _ _ _ (by decide)) rfl).congr ?_ ?_
    · simp
    · simp

theorem judgeWindow_none (hs : s.faults.sound) (hcur : sessionCurrent n = false) :
    (s.judgeWindow n f).faults.active .draftLimit subjectNone = false
      ∧ (s.judgeWindow n f).faults.active .airDraft subjectNone = false := by
  have hcur' : ¬sessionCurrent n = true := by rw [hcur]; nofun
  have hsound : (s.clearFault .draftLimit subjectNone).faults.sound := (keeps.refl s).clearFault.faults hs
  unfold judgeWindow
  dsimp only
  rw [if_neg hcur']
  exact ⟨(clearFault_marks _ .airDraft _ _ _ (by decide)).trans (active_clearFault hs _ _), active_clearFault hsound _ _⟩

theorem judgeDisagree_judged (hs : s.faults.sound) : s.faults.judgedTo (s.judgeDisagree n f).faults .draftDisagree subjectNone
    (f.readingUsed = true ∧ n.tables.draftCount ≤ f.overRun) (f.readingUsed = true ∧ n.tables.draftCount ≤ f.withinRun) := by
  unfold judgeDisagree
  split
  next hused =>
    refine (judgedTo_judgeFault hs rfl _ _ _).congr ?_ ?_
    · simp [hused]
    · simp [hused]
  next hused => exact Faults.judgedTo_kept rfl (fun h => hused h.1) fun h => hused h.1

theorem judgeStressLimit_judged (hs : s.faults.sound) : s.faults.judgedTo (s.judgeStressLimit n f).faults .stressLimit
    subjectNone (1000 ≤ f.peak.value) (f.peak.value < n.marks.release) := by
  refine (judgedTo_judgeFault hs rfl _ _ _).congr ?_ ?_
  · simp
  · simp

theorem judgeLag_judged (hs : s.faults.sound) (x : Int) :
    s.faults.judgedTo (s.judgeLag x).faults .ballastLag subjectNone (s.plan.lagPause ≤ x) (x < s.plan.lagRelease)
    ∧ s.faults.judgedTo (s.judgeLag x).faults .deballastAhead subjectNone (x ≤ s.plan.leadLimit) (s.plan.leadRelease < x) := by
  unfold judgeLag
  dsimp only
  generalize hup : decide (s.plan.lagPause ≤ x) = up
  generalize hdown : decide (x < s.plan.lagRelease) = down
  have hlag := judgedTo_judgeFault (k := .ballastLag) hs rfl subjectNone up down
  have hsound : (s.judgeFault .ballastLag subjectNone up down).faults.sound := (keeps.refl s).judgeFault.faults hs
  constructor
  · refine (hlag.around rfl (judgeFault_marks _ _ _ _ _ _ _ (by decide))).congr ?_ ?_
    · rw [← hup]; simp
    · rw [← hdown]; simp
  · refine ((judgedTo_judgeFault (k := .deballastAhead) hsound rfl subjectNone _ _).around
      (judgeFault_marks s .ballastLag _ _ _ _ _ (by decide)) rfl).congr ?_ ?_
    · simp
    · simp

/-- The lag faults over a lag that may be absent. -/
theorem judgeValid_lags (hs : s.faults.sound) (n : Snapshot) (f : Figures) :
    s.faults.judgedTo (s.judgeValid n f).faults .ballastLag subjectNone (∃ x, f.lag = some x ∧ s.plan.lagPause ≤ x)
      (∃ x, f.lag = some x ∧ x < s.plan.lagRelease)
    ∧ s.faults.judgedTo (s.judgeValid n f).faults .deballastAhead subjectNone (∃ x, f.lag = some x ∧ x ≤ s.plan.leadLimit)
      (∃ x, f.lag = some x ∧ s.plan.leadRelease < x) := by
  have hmarks := beforeLag_marks s n f
  have hplan : (s.invalidCleared n f).plan = s.plan :=
    congrArg Group.active ((invalidCleared_only s n f).planGroup (by decide))
  cases hlag : f.lag with
  | none =>
    rw [judgeValid_noLag hlag]
    exact ⟨Faults.judgedTo_kept (hmarks _ _ (by decide)) (by simp) (by simp),
      Faults.judgedTo_kept (hmarks _ _ (by decide)) (by simp) (by simp)⟩
  | some x =>
    obtain ⟨hl, ha⟩ := judgeLag_judged (invalidCleared_sound hs n f) x
    rw [hplan] at hl ha
    rw [judgeValid_lag hlag]
    exact ⟨(hl.around (hmarks _ _ (by decide)) rfl).congr (by simp) (by simp),
      (ha.around (hmarks _ _ (by decide)) rfl).congr (by simp) (by simp)⟩

end State

end Sys2Proof.Machine
end
section
/-! PROOFS. The pacing of a publication: the adverse loaders (R79, R81) and the reasons of each loader (R80, R82). -/

namespace Sys2Proof.Machine

namespace State
variable {s t u : State} {n : Snapshot} {m : Marks} {f : Figures} {bs : List Block} {l : Nat} {q : Reason}

/-! ### Adverse loaders (R79) -/

theorem mem_adverseAt {b : ShipBank} {h st : Nat} {g : StationFig} {x : Int} : x ∈ adverseAt b h st g ↔
    0 < b.shearFactor (32 + h) st * g.sf ∧ x = g.uShearGuarded ∨ 0 < b.momentLever (32 + h) st * g.bm ∧ x = g.uMomentGuarded := by
  unfold adverseAt
  rw [List.mem_append]
  split <;> split <;> simp_all

/-- A loader is adverse at or above a mark exactly if one of its adverse figures is. -/
theorem adverseOver_iff {mark : Int} : s.adverseOver f l mark ↔ ∃ x ∈ s.adverseFigures f.stations l, mark ≤ x := by
  unfold adverseOver adverseFigures
  cases s.standsFor l with
  | none => simp
  | some h =>
    simp only [List.mem_flatMap, Prod.exists, List.mem_zipIdx_iff_getElem?, mem_adverseAt, Option.some.injEq]
    constructor
    · rintro ⟨_, st, g, rfl, hg, ⟨hpos, hle⟩ | ⟨hpos, hle⟩⟩
      · exact ⟨_, ⟨g, st, hg, .inl ⟨hpos, rfl⟩⟩, hle⟩
      · exact ⟨_, ⟨g, st, hg, .inr ⟨hpos, rfl⟩⟩, hle⟩
    · rintro ⟨x, ⟨g, st, hg, ⟨hpos, rfl⟩ | ⟨hpos, rfl⟩⟩, hle⟩
      · exact ⟨h, st, g, rfl, hg, .inl ⟨hpos, hle⟩⟩
      · exact ⟨h, st, g, rfl, hg, .inr ⟨hpos, hle⟩⟩

theorem any_adverse {mark : Int} : ((s.adverseFigures f.stations l).any fun x => mark ≤ x) = true ↔ s.adverseOver f l mark := by
  rw [adverseOver_iff]
  simp

theorem all_adverse {mark : Int} : ((s.adverseFigures f.stations l).all fun x => x < mark) = true ↔ ¬s.adverseOver f l mark := by
  rw [adverseOver_iff]
  simp

/-- What the adverse loaders depend on is as it was. -/
structure standsAlike (s t : State) : Prop where
  bank : t.bank = s.bank
  plan : t.plan = s.plan
  shore : t.shore = s.shore
  tracks : s.tracksAlike t

namespace standsAlike

theorem trans (h : s.standsAlike t) (k : t.standsAlike u) : s.standsAlike u :=
  ⟨k.bank.trans h.bank, k.plan.trans h.plan, k.shore.trans h.shore, h.tracks.trans k.tracks⟩

theorem of_only (h : s.onlyChanges bs t) (k : s.tracksAlike t) (hship : Block.ship ∉ bs := by decide)
    (hplan : Block.plan ∉ bs := by decide) (hshore : Block.shore ∉ bs := by decide) : s.standsAlike t :=
  ⟨h.bank hship, congrArg Group.active (h.planGroup hplan), h.shore hshore, k⟩

theorem adverseFigures (h : s.standsAlike t) (fs : List StationFig) (l : Nat) :
    t.adverseFigures fs l = s.adverseFigures fs l := by
  have hstands : t.standsFor l = s.standsFor l := by
    unfold standsFor loader
    rw [h.shore, h.tracks.assignment h.plan]
  unfold State.adverseFigures
  rw [hstands, h.bank]

theorem adverseOver (h : s.standsAlike t) {mark : Int} : t.adverseOver f l mark ↔ s.adverseOver f l mark := by
  rw [adverseOver_iff, adverseOver_iff, h.adverseFigures]

end standsAlike

/-! ### The state a publication is paced in (R82) -/

/-- The record is published and the step peak tracked, before the pacing block. -/
def publishedValid (s : State) (n : Snapshot) : State :=
  let a := (s.judgeValid n (s.figuresOf n)).publishValid (s.headerOf n) (s.figuresOf n)
  if sessionCurrent n then a.trackPeak (s.figuresOf n).peak else a

/-- The reason changes of a VALID publication. -/
def pacedReasons (s : State) (m : Marks) (f : Figures) (current : Bool) (before : FollowedFaults) (mode : Mode) : State :=
  (if current then s.paceCurrent m f else s).paceFaults before mode

/-- The pacing event of a VALID publication. -/
def pacedValid (s : State) (n : Snapshot) : State := (s.publishedValid n).pacingEvent fun u =>
  u.pacedReasons n.marks (s.figuresOf n) (sessionCurrent n) s.followed s.sys.mode

theorem completeValid_eq (s : State) (n : Snapshot) :
    s.completeValid n = (s.pacedValid n).judgeBallastDriven n.marks (s.figuresOf n) := by
  unfold completeValid pacedValid publishedValid pacedReasons
  dsimp only
  rw [keeps.pacePublication_some]

theorem trackPeak_tracksAlike (s : State) (p : Peak) : s.tracksAlike (s.trackPeak p) :=
  .modStep fun a => by
    split
    · split <;> rfl
    · rfl

theorem publishedValid_only (s : State) (n : Snapshot) :
    (s.judgeValid n (s.figuresOf n)).onlyChanges [.engine, .tracker] (s.publishedValid n) := by
  have ha := publishValid_only (s.judgeValid n (s.figuresOf n)) (s.headerOf n) (s.figuresOf n)
  unfold publishedValid
  exact onlyChanges_ite ((ha.andThen (trackPeak_only _ _)).mono (by decide)) (ha.mono (by decide))

theorem standsAlike_publishedValid (s : State) (n : Snapshot) : s.standsAlike (s.publishedValid n) := by
  have hjudge := judgeValid_only s n (s.figuresOf n)
  have ha := publishValid_only (s.judgeValid n (s.figuresOf n)) (s.headerOf n) (s.figuresOf n)
  refine .of_only (hjudge.andThen (publishedValid_only s n)) ((tracksAlike.of_only hjudge (by decide)).trans ?_)
  unfold publishedValid
  dsimp only
  split
  · exact (tracksAlike.of_only ha (by decide)).trans (trackPeak_tracksAlike _ _)
  · exact .of_only ha (by decide)

theorem standsAlike_pacedValid (s : State) (n : Snapshot) : s.standsAlike (s.pacedValid n) := by
  have hreasons := paceReasons_only (s.publishedValid n) n.marks (s.figuresOf n) (sessionCurrent n) s.followed s.sys.mode
  exact (standsAlike_publishedValid s n).trans
    (.of_only (pacingEvent_only _ _ hreasons) ((tracksAlike.of_only hreasons (by decide)).trans (.actOn _ _ _)))

theorem pacedValid_marks (s : State) (n : Snapshot) :
    (s.judgeValid n (s.figuresOf n)).marksOnly [.pauseUnconfirmed, .overpour] (s.pacedValid n) :=
  ((publishedValid_only s n).marksOnly _).trans (pacingEvent_marks _ _ (paceReasons_only _ _ _ _ _ _))

theorem judgeBallastDriven_judged (hs : s.faults.sound) : s.faults.judgedTo (s.judgeBallastDriven m f).faults
    .stressBallastDriven subjectNone (f.band = .pause ∧ ∀ l < 4, ¬s.adverseOver f l m.pause)
    (f.band = .normal ∨ f.band = .caution) := by
  have hnone : (!loaders.any fun l => (s.adverseFigures f.stations l).any fun x => m.pause ≤ x) = true
      ↔ ∀ l < 4, ¬s.adverseOver f l m.pause := by
    simp only [Bool.not_eq_true', List.any_eq_false, any_adverse, mem_loaders]
  refine (judgedTo_judgeFault hs rfl _ _ _).congr ?_ ?_
  · rw [Bool.and_eq_true, hnone, decide_eq_true_iff]
  · rw [Bool.or_eq_true, decide_eq_true_iff, decide_eq_true_iff]

/-- The faults of a VALID publication, judged on its figures. -/
theorem faultsJudged_of (hs : s.faults.sound) (h : (s.completeValid n).marksOnly startFaults t) :
    s.faultsJudged t n (s.figuresOf n) := by
  generalize hf : s.figuresOf n = f
  have hpaced : (s.judgeValid n f).marksOnly [.pauseUnconfirmed, .overpour] (s.pacedValid n) := hf ▸ pacedValid_marks s n
  have hdriven : (s.pacedValid n).marksOnly [.stressBallastDriven] (s.completeValid n) := by
    rw [completeValid_eq]
    exact judgeFault_marks _ _ _ _ _
  have hafter := hpaced.andThen (hdriven.andThen h)
  have hwindow := (afterWindow_marks s n f).andThen hafter
  have hdisagree := (afterDisagree_marks s n f).andThen hafter
  have hstress := (afterStress_marks s n f).andThen hafter
  have hcleared := (lagJudged_marks s n f).andThen hafter
  have hydro := hydroJudged_marks s f
  have hydroSound := hydroJudged_sound hs f
  have hpublished : (s.publishedValid n).faults.sound := by
    rw [(publishedValid_only s n).faults (by decide)]
    exact (keeps.refl s).judgeValid.faults hs
  have hpacedSound : (s.pacedValid n).faults.sound :=
    ((keeps.refl _).pacingEvent (paceReasons_only _ _ _ _ _ _) rfl).faults hpublished
  obtain ⟨hlag, hahead⟩ := judgeValid_lags hs n f
  refine ⟨fun hcur => ?_, fun hcur => ?_, fun hcur => ?_, ?_, ?_, ?_, hlag.around rfl (hafter _ _ (by decide)),
    hahead.around rfl (hafter _ _ (by decide)), ?_⟩
  · exact (judgeWindow_judged hydroSound hcur).1.around (hydro _ _ (by decide)) (hwindow _ _ (by decide))
  · exact (judgeWindow_judged hydroSound hcur).2.around (hydro _ _ (by decide)) (hwindow _ _ (by decide))
  · obtain ⟨hl, ha⟩ := judgeWindow_none (f := f) hydroSound hcur
    exact ⟨(hwindow _ _ (by decide)).trans hl, (hwindow _ _ (by decide)).trans ha⟩
  · exact (judgeDisagree_judged (windowJudged_sound hs n f)).around (windowJudged_marks s n f _ _ (by decide))
      (hdisagree _ _ (by decide))
  · exact (judgeStressLimit_judged (disagreeJudged_sound hs n f)).around (beforeStress_marks s n f _ _ (by decide))
      (hstress _ _ (by decide))
  · exact (hcleared _ _ (by decide)).trans (active_clearFault (stressJudged_sound hs n f) _ _)
  · have hbefore : (s.pacedValid n).faults.active .stressBallastDriven subjectNone
        = s.faults.active .stressBallastDriven subjectNone :=
      (hpaced _ _ (by decide)).trans ((lagJudged_marks s n f _ _ (by decide)).trans (beforeLag_marks s n f _ _ (by decide)))
    have hstands := standsAlike_pacedValid s n
    have hjudged := judgeBallastDriven_judged (m := n.marks) (f := f) hpacedSound
    rw [← hf, ← completeValid_eq, hf] at hjudged
    refine (hjudged.around hbefore (h _ _ (by decide))).congr ?_ Iff.rfl
    exact and_congr_right fun _ => forall₂_congr fun l _ => not_congr hstands.adverseOver.symm

end State

end Sys2Proof.Machine
end
section
/-! PROOFS. The reasons of each loader after a publication (R80, R82). -/

namespace Sys2Proof.Machine

namespace State
variable {s t u : State} {n : Snapshot} {m : Marks} {f : Figures} {bs : List Block} {l : Nat} {q r : Reason}

/-! ### The reasons of a publication (R80, R82) -/

theorem has_removeReasonAll (s : State) (r : Reason) (hl : l < 4) (q : Reason) :
    ((s.removeReasonAll r).pause l).reasons.has q = ((s.pause l).reasons.has q && !decide (q = r)) := by
  rw [pause_removeReasonAll s r hl, ReasonSet.has_remove]

theorem has_addReasonAll (s : State) (r : Reason) (hl : l < 4) (q : Reason) :
    ((s.addReasonAll r).pause l).reasons.has q = ((s.pause l).reasons.has q || decide (q = r ∧ s.admits r)) := by
  rw [pause_addReasonAll s r hl, has_withReason]

/-- In a session a reason that follows a fault takes what the fault has become, and no other reason moves. -/
theorem has_followFault (ho : s.sys.sessionOpen = true) (hl : l < 4) (b a : Bool) :
    ((s.followFault r b a).pause l).reasons.has r = if b = a then (s.pause l).reasons.has r else a := by
  have hadmits : s.admits r := .inr ho
  unfold followFault
  cases b <;> cases a <;> simp [has_addReasonAll, has_removeReasonAll, hl, hadmits]

theorem has_followFault_other (s : State) (hl : l < 4) (h : q ≠ r) (b a : Bool) :
    ((s.followFault r b a).pause l).reasons.has q = (s.pause l).reasons.has q := by
  unfold followFault
  cases b <;> cases a <;> simp [has_addReasonAll, has_removeReasonAll, hl, h]

theorem has_followSafe (s : State) (hl : l < 4) (mode : Mode) : ((s.followSafe mode).pause l).reasons.has .safe
    = ((s.pause l).reasons.has .safe || decide (s.sys.mode = .safe ∧ mode ≠ .safe)) := by
  unfold followSafe
  split
  next h => rw [has_addReasonAll s .safe hl]; simp [h]
  next h => simp [h]

theorem has_followSafe_other (s : State) (hl : l < 4) (h : q ≠ .safe) (mode : Mode) :
    ((s.followSafe mode).pause l).reasons.has q = (s.pause l).reasons.has q := by
  unfold followSafe
  split
  · rw [has_addReasonAll s .safe hl]; simp [h]
  · rfl

/-- The reasons that follow the faults and the mode of a publication. -/
structure faultsPaced (s t : State) (before : FollowedFaults) (mode : Mode) (l : Nat) : Prop where
  draft : (t.pause l).reasons.has .draft = if before.draft = s.followed.draft then (s.pause l).reasons.has .draft else s.followed.draft
  lag : (t.pause l).reasons.has .ballastLag
    = if before.lag = s.followed.lag then (s.pause l).reasons.has .ballastLag else s.followed.lag
  invalid : (t.pause l).reasons.has .conditionInvalid
    = if before.invalid = s.followed.invalid then (s.pause l).reasons.has .conditionInvalid else s.followed.invalid
  safe : (t.pause l).reasons.has .safe = ((s.pause l).reasons.has .safe || decide (s.sys.mode = .safe ∧ mode ≠ .safe))
  others : ∀ q, q ≠ .draft → q ≠ .ballastLag → q ≠ .conditionInvalid → q ≠ .safe →
    (t.pause l).reasons.has q = (s.pause l).reasons.has q

theorem faultsPaced_paceFaults (ho : s.sys.sessionOpen = true) (hl : l < 4) (before : FollowedFaults) (mode : Mode) :
    s.faultsPaced (s.paceFaults before mode) before mode l := by
  unfold paceFaults
  dsimp only
  generalize hfollowed : s.followed = a
  have hdraft := followFault_only s .draft before.draft a.draft
  have hd := fun q (hq : q ≠ .draft) => has_followFault_other s hl hq before.draft a.draft
  have hd' := has_followFault (r := .draft) ho hl before.draft a.draft
  have hod := (hdraft.sessionOpen (by decide)).trans ho
  generalize s.followFault .draft before.draft a.draft = x at *
  have hlag := followFault_only x .ballastLag before.lag a.lag
  have hg := fun q (hq : q ≠ .ballastLag) => has_followFault_other x hl hq before.lag a.lag
  have hg' := has_followFault (r := .ballastLag) hod hl before.lag a.lag
  have hog := (hlag.sessionOpen (by decide)).trans hod
  generalize x.followFault .ballastLag before.lag a.lag = y at *
  have hinvalid := followFault_only y .conditionInvalid before.invalid a.invalid
  have hi := fun q (hq : q ≠ .conditionInvalid) => has_followFault_other y hl hq before.invalid a.invalid
  have hi' := has_followFault (r := .conditionInvalid) hog hl before.invalid a.invalid
  generalize y.followFault .conditionInvalid before.invalid a.invalid = z at *
  have hs := fun q (hq : q ≠ Reason.safe) => has_followSafe_other z hl hq mode
  have hs' := has_followSafe z hl mode
  have hmode : z.sys.mode = s.sys.mode := ((hdraft.trans hlag).trans hinvalid).mode (by decide)
  refine ⟨?_, ?_, ?_, ?_, fun q h1 h2 h3 h4 => ?_⟩
  · rw [hs .draft nofun, hi .draft nofun, hg .draft nofun, hd', hfollowed]
  · rw [hs .ballastLag nofun, hi .ballastLag nofun, hg', hd .ballastLag nofun, hfollowed]
  · rw [hs .conditionInvalid nofun, hi', hg .conditionInvalid nofun, hd .conditionInvalid nofun, hfollowed]
  · rw [hs', hi .safe nofun, hg .safe nofun, hd .safe nofun, hmode]
  · rw [hs _ h4, hi _ h3, hg _ h2, hd _ h1]

/-- A loader's record after the judgement of its STRESS (R80). -/
def stressPaced (s : State) (m : Marks) (f : Figures) (l : Nat) (p : PauseRec) : PauseRec :=
  if f.band = .limit then s.withReason .stress p
  else if p.reasons.has .stress then
    if (s.adverseFigures f.stations l).all fun x => x < m.release then { p with reasons := p.reasons.remove .stress } else p
  else if (s.adverseFigures f.stations l).any fun x => m.pause ≤ x then s.withReason .stress p
  else p

theorem pause_judgeStress (s : State) (m : Marks) (f : Figures) (hl : l < 4) :
    (s.judgeStress m f l).pause l = s.stressPaced m f l (s.pause l) := by
  unfold judgeStress stressPaced
  dsimp only
  split_ifs
  · exact pause_addReason hl _
  · exact pause_removeReason hl _
  · rfl
  · exact pause_addReason hl _
  · rfl

theorem pause_judgeStress_other (s : State) (m : Marks) (f : Figures) {k : Nat} (h : k ≠ l) :
    (s.judgeStress m f l).pause k = s.pause k := by
  unfold judgeStress
  dsimp only
  split_ifs
  · exact pause_addReason_other h _
  · exact pause_removeReason_other h _
  · rfl
  · exact pause_addReason_other h _
  · rfl

theorem judgeStress_only (s : State) (m : Marks) (f : Figures) (l : Nat) : s.onlyChanges [.pacing] (s.judgeStress m f l) :=
  onlyChanges_ite (addReason_only s l _) (onlyChanges_ite
    (onlyChanges_ite (removeReason_only s l _) (onlyChanges_refl _ s))
    (onlyChanges_ite (addReason_only s l _) (onlyChanges_refl _ s)))

theorem standsAlike_pacing (h : s.onlyChanges [.pacing] t) : s.standsAlike t := .of_only h (.of_only h (by decide))

theorem pause_paceCurrent (s : State) (m : Marks) (f : Figures) (hl : l < 4) : (s.paceCurrent m f).pause l
    = s.stressPaced m f l { s.pause l with reasons := (s.pause l).reasons.remove .awaitingCondition } := by
  have hremoved := removeReasonAll_only s .awaitingCondition
  unfold paceCurrent
  rw [pause_forEach_loaders (f := fun l s => s.judgeStress m f l) (g := fun i => s.stressPaced m f i)
    (I := fun u => s.onlyChanges [.pacing] u) (fun i u _ hu => hu.trans (judgeStress_only u m f i)) (fun i u hi hu => ?_)
    (fun i u j hj => pause_judgeStress_other u m f hj) hremoved hl, pause_removeReasonAll s _ hl]
  rw [pause_judgeStress u m f hi]
  unfold stressPaced withReason admits
  rw [(standsAlike_pacing hu).adverseFigures, hu.sessionOpen (by decide)]

theorem has_stressPaced_other (s : State) (m : Marks) (f : Figures) (p : PauseRec) (h : q ≠ .stress) :
    (s.stressPaced m f l p).reasons.has q = p.reasons.has q := by
  unfold stressPaced
  split_ifs
  · rw [has_withReason]; simp [h]
  · rw [ReasonSet.has_remove]; simp [h]
  · rfl
  · rw [has_withReason]; simp [h]
  · rfl

/-- STRESS of a loader in a session, by the band and by the marks its adverse figures reach (R80). -/
theorem has_stressPaced (ho : s.sys.sessionOpen = true) (m : Marks) (f : Figures) (p : PauseRec) :
    ((f.band = .limit ∨ p.reasons.has .stress = false ∧ s.adverseOver f l m.pause) →
      (s.stressPaced m f l p).reasons.has .stress = true) ∧
    (f.band ≠ .limit → p.reasons.has .stress = true → ¬s.adverseOver f l m.release →
      (s.stressPaced m f l p).reasons.has .stress = false) ∧
    ((f.band ≠ .limit ∧ (p.reasons.has .stress = true ∧ s.adverseOver f l m.release
        ∨ p.reasons.has .stress = false ∧ ¬s.adverseOver f l m.pause)) →
      (s.stressPaced m f l p).reasons.has .stress = p.reasons.has .stress) := by
  have hadmits : s.admits .stress := .inr ho
  unfold stressPaced
  classical
  simp only [all_adverse, any_adverse]
  by_cases hband : f.band = .limit
  · simp [hband, has_withReason, hadmits]
  · cases hstress : p.reasons.has .stress with
    | true => by_cases hover : s.adverseOver f l m.release <;> simp [hband, hover, hstress, ReasonSet.has_remove]
    | false => by_cases hover : s.adverseOver f l m.pause <;> simp [hband, hover, hstress, has_withReason, hadmits]

/-! ### The loaders after a publication -/

/-- What the event does to the pause records and the faults after the pacing block: nothing to their reasons. -/
structure pacedTo (u t : State) (l : Nat) : Prop where
  reasons : (t.pause l).reasons = (u.pause l).reasons
  marks : u.marksOnly [.pauseUnconfirmed, .overpour, .stressBallastDriven, .pumpStartFailed] t
  mode : t.sys.mode = u.sys.mode

theorem pacedTo.trans (h : s.pacedTo t l) (k : t.pacedTo u l) : s.pacedTo u l :=
  ⟨k.reasons.trans h.reasons, h.marks.trans k.marks, k.mode.trans h.mode⟩

theorem pacedTo_actOn (s : State) (b : Nat → ReasonSet) (x : Option Nat) (hl : l < 4) : s.pacedTo (s.actOn b x) l :=
  ⟨reasons_actOn s b x hl, (actOn_marks s b x).mono (by decide), (actOn_only s b x).mode (by decide)⟩

theorem pacedTo_judgeBallastDriven (s : State) (m : Marks) (f : Figures) (l : Nat) : s.pacedTo (s.judgeBallastDriven m f) l := by
  have hframe : s.onlyChanges [.faults, .out] (s.judgeBallastDriven m f) := judgeFault_keeps_mode _ _ _ _ fun _ => rfl
  exact ⟨by rw [hframe.pause (by decide)], (judgeFault_marks _ _ _ _ _).mono (by decide), hframe.mode (by decide)⟩

/-- The event's end: the beacon of a mode change and the re-examination. -/
theorem pacedTo_concluded (s : State) (mode : Mode) (l : Nat) : s.pacedTo (s.beaconIf mode).reexamine l := by
  have hbeacon := beaconIf_only s mode
  have hframe := hbeacon.andThen (reexamine_only _)
  exact ⟨by rw [hframe.pause (by decide)], (hbeacon.marksOnly _).trans ((reexamine_marks _).mono (by decide)),
    hframe.mode (by decide)⟩

/-- The reasons of a loader by the faults and the mode at the end of the event. -/
theorem faultsPaced.reasonFollows {v w : State} {before : FollowedFaults} {mode : Mode} (h : v.faultsPaced w before mode l)
    (k : w.pacedTo t l) (hv : v.onlyChanges [.pacing] w) (hbefore : before = s.followed) (hmode : mode = s.sys.mode)
    (hsame : ∀ r, r = .draft ∨ r = .ballastLag ∨ r = .conditionInvalid ∨ r = .safe →
      (v.pause l).reasons.has r = (s.pause l).reasons.has r) :
    s.reasonFollows t l .draft .draftLimit ∧ s.reasonFollows t l .ballastLag .ballastLag
      ∧ s.reasonFollows t l .conditionInvalid .conditionInvalid ∧ s.safeFollows t l := by
  have hactive {x : FaultKind} (hx : x ∉ [FaultKind.pauseUnconfirmed, .overpour, .stressBallastDriven, .pumpStartFailed]) :
      t.faults.active x subjectNone = v.faults.active x subjectNone := by
    rw [k.marks x _ hx, hv.faults (by decide)]
  have hnow : t.sys.mode = v.sys.mode := k.mode.trans (hv.mode (by decide))
  subst hbefore hmode
  unfold State.reasonFollows safeFollows
  dsimp only
  rw [k.reasons, h.draft, h.lag, h.invalid, h.safe, hsame _ (.inl rfl), hsame _ (.inr (.inl rfl)),
    hsame _ (.inr (.inr (.inl rfl))), hsame _ (.inr (.inr (.inr rfl))), hactive (by decide), hactive (by decide),
    hactive (by decide), hnow]
  exact ⟨rfl, rfl, rfl, rfl⟩

theorem loaderPaced_of (ho : s.sys.sessionOpen = true) (hl : l < 4) (hend : (s.completeValid n).pacedTo t l) :
    s.loaderPaced t n (s.figuresOf n) l := by
  have hframe := (judgeValid_only s n (s.figuresOf n)).andThen (publishedValid_only s n)
  have hpause := hframe.pause (by decide) l
  have hopen := (hframe.sessionOpen (by decide)).trans ho
  have hstands := standsAlike_publishedValid s n
  rw [completeValid_eq] at hend
  unfold pacedValid pacingEvent pacedReasons at hend
  dsimp only at hend
  generalize s.publishedValid n = u at *
  generalize s.figuresOf n = f at *
  have hcurrent : u.onlyChanges [.pacing] (if sessionCurrent n then u.paceCurrent n.marks f else u) :=
    onlyChanges_ite ((removeReasonAll_only u _).trans (onlyChanges_forEach _ _ (fun i v => judgeStress_only v n.marks f i) _))
      (onlyChanges_refl _ u)
  have hstress : sessionCurrent n = true → (if sessionCurrent n then u.paceCurrent n.marks f else u).pause l
      = u.stressPaced n.marks f l { s.pause l with reasons := (s.pause l).reasons.remove .awaitingCondition } := fun hcur => by
    rw [if_pos hcur, pause_paceCurrent u _ _ hl, hpause]
  have hkept : sessionCurrent n = false → (if sessionCurrent n then u.paceCurrent n.marks f else u).pause l = s.pause l :=
    fun hcur => by rw [hcur]; exact hpause
  generalize (if sessionCurrent n then u.paceCurrent n.marks f else u) = v at *
  have hfaults := faultsPaced_paceFaults ((hcurrent.sessionOpen (by decide)).trans hopen) hl s.followed s.sys.mode
  have hto := ((pacedTo_actOn _ _ _ hl).trans (pacedTo_judgeBallastDriven _ _ _ l)).trans hend
  have hsame : ∀ q, q ≠ .stress → q ≠ .awaitingCondition → (v.pause l).reasons.has q = (s.pause l).reasons.has q := by
    intro q hstress' hawait
    cases hcur : sessionCurrent n with
    | false => rw [hkept hcur]
    | true => rw [hstress hcur, has_stressPaced_other _ _ _ _ hstress', ReasonSet.has_remove]; simp [hawait]
  obtain ⟨hdraft, hlag, hinvalid, hsafe⟩ := hfaults.reasonFollows (s := s) hto (keeps.paceFaults_only _ _ _) rfl rfl
    (fun r hr => hsame r (by rintro rfl; simp at hr) (by rintro rfl; simp at hr))
  have hother : ∀ q, q ≠ .draft → q ≠ .ballastLag → q ≠ .conditionInvalid → q ≠ .safe →
      (t.pause l).reasons.has q = (v.pause l).reasons.has q := fun q h1 h2 h3 h4 => by
    rw [hto.reasons, hfaults.others q h1 h2 h3 h4]
  have hawaiting := hother .awaitingCondition nofun nofun nofun nofun
  have hstressed := hother .stress nofun nofun nofun nofun
  have hbefore : ReasonSet.has ((s.pause l).reasons.remove .awaitingCondition) .stress = (s.pause l).reasons.has .stress := by
    rw [ReasonSet.has_remove]
    simp
  have hjudged := has_stressPaced (l := l) hopen n.marks f
    { s.pause l with reasons := (s.pause l).reasons.remove .awaitingCondition }
  simp only [hbefore, hstands.adverseOver] at hjudged
  obtain ⟨hadds, hremoves, hkeeps⟩ := hjudged
  refine ⟨?_, fun hcur h => ?_, fun hcur h1 h2 h3 => ?_, fun h => ?_, hdraft, hlag, hinvalid, hsafe, fun q hq => ?_⟩
  · rw [hawaiting]
    cases hcur : sessionCurrent n with
    | false => rw [hkept hcur]; rfl
    | true => rw [hstress hcur, has_stressPaced_other (q := .awaitingCondition) _ _ _ _ nofun, ReasonSet.has_remove]; simp
  · rw [hstressed, hstress hcur]
    exact hadds h
  · rw [hstressed, hstress hcur]
    exact hremoves h1 h2 h3
  · rw [hstressed]
    cases hcur : sessionCurrent n with
    | false => rw [hkept hcur]
    | true =>
      rw [hstress hcur]
      exact hkeeps (h.resolve_left (by rw [hcur]; nofun))
  · have hne : q ≠ .draft ∧ q ≠ .ballastLag ∧ q ≠ .conditionInvalid ∧ q ≠ .safe ∧ q ≠ .stress ∧ q ≠ .awaitingCondition := by
      rcases hq with rfl | rfl | rfl | rfl <;> decide
    obtain ⟨h1, h2, h3, h4, h5, h6⟩ := hne
    rw [hother q h1 h2 h3 h4, hsame q h5 h6]

theorem loaderPacedInvalid_of (ho : s.sys.sessionOpen = true) (hl : l < 4) (hend : (s.completeInvalid n).pacedTo t l) :
    s.loaderPacedInvalid t l := by
  have hframe := (raiseFault_only s .conditionInvalid subjectNone).andThen (publishInvalid_only _ (s.headerOf n))
  have hpause := hframe.pause (by decide) l
  have hopen := (hframe.sessionOpen (by decide)).trans ho
  have hmarks : s.marksOnly [.conditionInvalid] ((s.raiseFault .conditionInvalid subjectNone).publishInvalid (s.headerOf n)) :=
    (raiseFault_marks s _ _).trans ((publishInvalid_only _ _).marksOnly _)
  unfold completeInvalid at hend
  rw [keeps.pacePublication_none] at hend
  unfold pacingEvent at hend
  dsimp only at hend
  generalize (s.raiseFault .conditionInvalid subjectNone).publishInvalid (s.headerOf n) = v at *
  have hfaults := faultsPaced_paceFaults hopen hl s.followed s.sys.mode
  have hto := (pacedTo_actOn _ _ _ hl).trans hend
  obtain ⟨hdraft, hlag, hinvalid, hsafe⟩ := hfaults.reasonFollows (s := s) hto (keeps.paceFaults_only _ _ _) rfl rfl
    (fun r _ => by rw [hpause])
  have hfault {x : FaultKind} (hx : x ∉ [FaultKind.conditionInvalid])
      (hx' : x ∉ [FaultKind.pauseUnconfirmed, .overpour, .stressBallastDriven, .pumpStartFailed]) :
      s.faults.active x subjectNone = t.faults.active x subjectNone := by
    rw [hto.marks x _ hx', (keeps.paceFaults_only _ _ _).faults (by decide), hmarks x _ hx]
  refine ⟨hinvalid, hsafe, fun q h1 h2 => ?_⟩
  by_cases h3 : q = .draft
  · rw [h3]
    exact hdraft.trans (if_pos (hfault (by decide) (by decide)))
  by_cases h4 : q = .ballastLag
  · rw [h4]
    exact hlag.trans (if_pos (hfault (by decide) (by decide)))
  rw [hto.reasons, hfaults.others q h3 h4 h1 h2, hpause]

end State

end Sys2Proof.Machine
end
section
/-! PROOFS. The completion of an evaluation (R39, R40, R54): its record, its faults, and what follows. -/

namespace Sys2Proof.Machine

namespace State
variable {s t u : State} {n : Snapshot} {l : Nat}

/-! ### The record and what follows (R39, R40) -/

theorem followUp_idle (h : s.engine.pending = false) : s.followUp = s := if_neg (by rw [h]; nofun)

/-- The pending flag of the engine cleared. -/
def unpended (s : State) : State := { s with engine := { s.engine with pending := false } }

theorem followUp_pending (h : s.engine.pending = true) : s.followUp = s.unpended.beginEvaluation := if_pos h

theorem beginEvaluation_engine (s : State) : ∃ m d, s.beginEvaluation.engine = { s.engine with
    inFlight := true, abandon := false, snapshot := some m, damaged := d } ∧ m.tables = s.beginEvaluation.bank
      ∧ m.shipGen = s.beginEvaluation.mgmt.ship.gen ∧ m.planGen = s.beginEvaluation.mgmt.plan.gen := by
  have hframe := beginEvaluation_snapshotted s
  refine ⟨_, _, engine_beginEvaluation s, ?_, ?_, ?_⟩
  · rw [takeSnapshot_tables, hframe.bank (by decide)]
  · rw [takeSnapshot_shipGen, hframe.shipGroup (by decide)]
  · rw [takeSnapshot_planGen, hframe.planGroup (by decide)]

theorem completeEvaluation_invalid (hflight : s.engine.inFlight = true) (hsnap : s.engine.snapshot = some n)
    (habandon : s.engine.abandon = false) (hinvalid : s.validNow = false) :
    s.completeEvaluation = (((s.completeInvalid n).beaconIf s.sys.mode).reexamine).followUp := by
  unfold completeEvaluation
  rw [hflight, hsnap]
  simp [habandon, hinvalid]

theorem completeEvaluation_abandoned (hflight : s.engine.inFlight = true) (hsnap : s.engine.snapshot = some n)
    (habandon : s.engine.abandon = true) : s.completeEvaluation = s.unpended.beginEvaluation := by
  unfold completeEvaluation
  rw [hflight, hsnap, habandon]
  rfl

/-- The end of a completion's event from its publication `u`. -/
structure concludes (u t : State) (n : Snapshot) : Prop where
  published : t.engine.published = u.engine.published
  number : t.engine.number = u.engine.number
  latestTrim : t.engine.latestTrim = u.engine.latestTrim
  marks : u.marksOnly startFaults t
  mode : t.sys.mode = u.sys.mode
  idle : u.engine.pending = false → t.engine.inFlight = false ∧ t.engine.snapshot = some n ∧ (∀ l, u.pacedTo t l)
    ∧ u.onlyChanges [.shore, .screen, .stations, .out, .faults] t
  pending : u.engine.pending = true → t.engine.inFlight = true ∧ t.engine.pending = false
    ∧ (∃ m, t.engine.snapshot = some m ∧ m.tables = t.bank ∧ m.shipGen = t.mgmt.ship.gen ∧ m.planGen = t.mgmt.plan.gen)
  frame : u.onlyChanges startBlocks t

theorem concludes_followUp (hflight : u.engine.inFlight = false) (hsnap : u.engine.snapshot = some n) (mode : Mode) :
    u.concludes (((u.beaconIf mode).reexamine).followUp) n := by
  have hframe : u.onlyChanges [.shore, .screen, .stations, .out, .faults] (u.beaconIf mode).reexamine :=
    ((beaconIf_only u mode).andThen (reexamine_only _)).mono (by decide)
  have hpaced := pacedTo_concluded u mode
  have hmarks : u.marksOnly startFaults (u.beaconIf mode).reexamine :=
    ((beaconIf_only u mode).marksOnly _).trans ((reexamine_marks _).mono (by decide))
  have hengine := hframe.engine (by decide)
  generalize (u.beaconIf mode).reexamine = v at *
  cases hp : v.engine.pending with
  | false =>
    have hidle : u.engine.pending = false := by rw [← hengine]; exact hp
    rw [followUp_idle hp]
    exact ⟨by rw [hengine], by rw [hengine], by rw [hengine], hmarks, hframe.mode (by decide),
      fun _ => ⟨by rw [hengine]; exact hflight, by rw [hengine]; exact hsnap, hpaced, hframe⟩,
      fun h => absurd (hidle.symm.trans h) nofun, hframe.mono (by decide)⟩
  | true =>
    have hpending : u.engine.pending = true := by rw [← hengine]; exact hp
    have hun : v.onlyChanges [.engine] v.unpended := only_engine v _
    have hengine' : v.unpended.engine = { u.engine with pending := false } := by rw [← hengine]; rfl
    have hbegin := beginEvaluation_only v.unpended
    have hbeginMarks := beginEvaluation_marks v.unpended
    obtain ⟨m, d, he, htables, hship, hplan⟩ := beginEvaluation_engine v.unpended
    rw [followUp_pending hp]
    generalize v.unpended.beginEvaluation = t at *
    rw [hengine'] at he
    exact ⟨by rw [he], by rw [he], by rw [he], (hmarks.trans (hun.marksOnly _)).trans hbeginMarks,
      ((hframe.andThen hun).andThen hbegin).mode (by decide), fun h => absurd (hpending.symm.trans h) nofun,
      fun _ => ⟨by rw [he], by rw [he], m, by rw [he], htables, hship, hplan⟩,
      ((hframe.andThen hun).andThen hbegin).mono (by decide)⟩

/-! ### The two publications (R39, R54) -/

theorem completeValid_engine (s : State) (n : Snapshot) : (s.completeValid n).engine = { s.engine with
    published := .valid (s.headerOf n) (s.figuresOf n), number := s.nextEvaluation, latestTrim := some n.trim
    overRun := (s.figuresOf n).overRun, withinRun := (s.figuresOf n).withinRun, inFlight := false } := by
  have hpublished (u : State) : (u.publishValid (s.headerOf n) (s.figuresOf n)).engine = { u.engine with
      published := .valid (s.headerOf n) (s.figuresOf n), number := s.nextEvaluation, latestTrim := some n.trim
      overRun := (s.figuresOf n).overRun, withinRun := (s.figuresOf n).withinRun, inFlight := false } := rfl
  have htracked (u : State) : (if sessionCurrent n then u.trackPeak (s.figuresOf n).peak else u).engine = u.engine := by
    split
    · exact (trackPeak_only _ _).engine (by decide)
    · rfl
  unfold completeValid
  dsimp only
  rw [(pacePublication_only _ _ _ _ _ _).engine (by decide), htracked, hpublished, (judgeValid_only _ _ _).engine (by decide)]

theorem completeInvalid_rest (s : State) (n : Snapshot) : (s.raiseFault .conditionInvalid subjectNone).onlyChanges
    (.engine :: pacingBlocks) (s.completeInvalid n) := by
  unfold completeInvalid
  rw [keeps.pacePublication_none]
  exact ((publishInvalid_only _ (s.headerOf n)).andThen (pacingEvent_only _ _ (keeps.paceFaults_only _ _ _))).mono (by decide)

theorem completeInvalid_marks (s : State) (n : Snapshot) : (s.raiseFault .conditionInvalid subjectNone).marksOnly startFaults
    (s.completeInvalid n) := by
  unfold completeInvalid
  rw [keeps.pacePublication_none]
  exact ((publishInvalid_only _ (s.headerOf n)).marksOnly _).trans
    ((pacingEvent_marks _ _ (keeps.paceFaults_only _ _ _)).mono (by decide))

theorem completeInvalid_engine (s : State) (n : Snapshot) : (s.completeInvalid n).engine = { s.engine with
    published := .invalid (s.headerOf n), number := s.nextEvaluation, inFlight := false } := by
  have hpublished (u : State) : (u.publishInvalid (s.headerOf n)).engine = { u.engine with
    published := .invalid (s.headerOf n), number := s.nextEvaluation, inFlight := false } := rfl
  unfold completeInvalid
  rw [keeps.pacePublication_none, (pacingEvent_only _ _ (keeps.paceFaults_only _ _ _)).engine (by decide), hpublished,
    (raiseFault_only _ _ _).engine (by decide)]

theorem validNow_iff : s.validNow = true ↔ s.engine.damaged = false ∧ s.faults.anyActive .tableFault = false := by
  simp [validNow]

theorem not_validNow_iff : s.validNow = false ↔ s.engine.damaged = true ∨ s.faults.anyActive .tableFault = true := by
  simp only [validNow, Bool.not_eq_false', Bool.or_eq_true]

/-- The publication of a completion, VALID or INVALID, is concluded. -/
theorem completeEvaluation_concludes (hflight : s.engine.inFlight = true) (hsnap : s.engine.snapshot = some n)
    (habandon : s.engine.abandon = false) : (s.validNow = true → (s.completeValid n).concludes s.completeEvaluation n)
      ∧ (s.validNow = false → (s.completeInvalid n).concludes s.completeEvaluation n) := by
  refine ⟨fun hv => ?_, fun hv => ?_⟩
  · rw [completeEvaluation_valid hflight hsnap habandon hv]
    exact concludes_followUp (by rw [completeValid_engine]) (by rw [completeValid_engine]; exact hsnap) _
  · rw [completeEvaluation_invalid hflight hsnap habandon hv]
    exact concludes_followUp (by rw [completeInvalid_engine]) (by rw [completeInvalid_engine]; exact hsnap) _

/-- What follows a publication, by the pending flag (R39). -/
theorem concludes.followed {x : State} (c : x.concludes t n) (h : s.onlyChanges ([.mode, .engine] ++ pacingBlocks) x)
    (hp : x.engine.pending = s.engine.pending) :
    (s.engine.pending = false → t.engine.inFlight = false ∧ t.engine.snapshot = some n
      ∧ s.onlyChanges [.engine, .faults, .out, .mode, .tracker, .pacing, .reports, .shore, .screen, .stations] t) ∧
    (s.engine.pending = true → t.engine.inFlight = true ∧ t.engine.pending = false
      ∧ (∃ m, t.engine.snapshot = some m ∧ m.tables = t.bank ∧ m.shipGen = t.mgmt.ship.gen ∧ m.planGen = t.mgmt.plan.gen)
      ∧ s.onlyChanges [.engine, .faults, .out, .mode, .tracker, .pacing, .reports, .shore, .screen, .stations,
          .ship, .plan, .store, .tanks] t) := by
  refine ⟨fun hf => ?_, fun ht => ?_⟩
  · obtain ⟨hflight, hsnap, -, hframe⟩ := c.idle (hp.trans hf)
    exact ⟨hflight, hsnap, (h.andThen hframe).mono (by decide)⟩
  · obtain ⟨hflight, hpending, hsnap⟩ := c.pending (hp.trans ht)
    exact ⟨hflight, hpending, hsnap, (h.andThen c.frame).mono (by decide)⟩

/-- An INVALID publication takes the part into SAFE as its fault is raised (R54, R173). -/
theorem completeInvalid_safe (hs : s.faults.sound) (hn : s.faults.active .conditionInvalid subjectNone = false)
    (hm : s.sys.mode = .standby ∨ s.sys.mode = .loading) : (s.completeInvalid n).sys.mode = .safe := by
  have hw : s.working = true := by
    unfold working
    rcases hm with h | h <;> rw [h] <;> rfl
  rw [(completeInvalid_rest s n).mode (by decide)]
  exact mode_raiseFault hs hw rfl hn

end State

open State in
/-- Settles O20: the faults judged each in its place, the reasons that follow them, and the event's end that touches neither. -/
theorem completionPublishesARecord : Obligations.CompletionPublishesARecord := by
  intro s n hr hflight hsnap
  refine ⟨fun ha => ⟨s.completeEvaluation, exec_evaluationComplete hr, ?_⟩,
    fun ha => ⟨s.completeEvaluation, exec_evaluationComplete hr, ?_⟩⟩
  · obtain ⟨hvalid, hinvalid⟩ := completeEvaluation_concludes hflight hsnap ha
    generalize s.completeEvaluation = t at *
    cases hv : s.validNow with
    | true =>
      have c := hvalid hv
      obtain ⟨hdamaged, hfault⟩ := validNow_iff.1 hv
      have hengine := completeValid_engine s n
      refine ⟨by rw [c.number, hengine], fun _ _ => ⟨?_, ?_, fun hs => faultsJudged_of hs c.marks, fun hp ho l hl => ?_⟩,
        fun h => ?_, c.followed (completeValid_only s n) (by rw [hengine])⟩
      · rw [c.published, hengine]
        rfl
      · rw [c.latestTrim, hengine]
      · exact loaderPaced_of ho hl ((c.idle (by rw [hengine]; exact hp)).2.2.1 l)
      · rw [hdamaged, hfault] at h
        exact absurd h (by decide)
    | false =>
      have c := hinvalid hv
      have hengine := completeInvalid_engine s n
      refine ⟨by rw [c.number, hengine], fun hdamaged hfault => ?_,
        fun _ => ⟨?_, ?_, fun hs => ?_, fun hs hn hm => ?_, fun hp ho l hl => ?_⟩,
        c.followed (completeInvalid_only s n) (by rw [hengine])⟩
      · exact absurd (hv.symm.trans (validNow_iff.2 ⟨hdamaged, hfault⟩)) nofun
      · rw [c.published, hengine]
        rfl
      · rw [c.latestTrim, hengine]
      · rw [c.marks _ _ (by decide), completeInvalid_marks s n _ _ (by decide)]
        exact active_raiseFault hs rfl _
      · rw [c.mode]
        exact completeInvalid_safe hs hn hm
      · exact loaderPacedInvalid_of ho hl ((c.idle (by rw [hengine]; exact hp)).2.2.1 l)
  · have hun : s.onlyChanges [.engine] s.unpended := only_engine s _
    have hbegin := beginEvaluation_only s.unpended
    have hcalm := beginEvaluation_calm (s := s.unpended)
    obtain ⟨m, d, he, htables, hship, hplan⟩ := beginEvaluation_engine s.unpended
    rw [completeEvaluation_abandoned hflight hsnap ha]
    generalize s.unpended.beginEvaluation = t at *
    refine ⟨by rw [he]; rfl, by rw [he]; rfl, by rw [he]; rfl, by rw [he], by rw [he]; rfl, by rw [he],
      ⟨m, by rw [he], htables, hship, hplan⟩, fun h1 h2 => ?_, ?_⟩
    · exact (hun.andThen (hcalm h1 h2)).mono (by decide)
    · exact (hun.andThen hbegin).mono (by decide)

end Sys2Proof.Machine
end
